-- ==== Sys2Proof/Word.lean ====
section
/-! DEFINITION. The byte of the schedule port and the transmitter line, and the two plainest
arithmetic helpers. Everything a test could show wrong stands under Machine/. -/

namespace Sys2Proof

/-- A byte as the host clocks it into the schedule port (R182). -/
abbrev Byte := BitVec 8

/-- A byte whose value is the number's low eight bits. -/
def byte (n : Nat) : Byte := BitVec.ofNat 8 n

/-- Division rounded up: durations computed by the part are whole ticks rounded up (Conventions). -/
def ceilDiv (a b : Nat) : Nat := (a + b - 1) / b

end Sys2Proof
end

