-- ==== Sys2Proof/Config.lean ====
section
/-! DEFINITION. The fixed values of the part (Conventions, the characteristics tables of the
chapters), and the values the manual leaves open, each an opaque constant with no body. -/

namespace Sys2Proof.Config

/-- Seconds of the hall week (Conventions). -/
def weekSeconds : Nat := 604800
/-- Ticks of the hall week (Conventions). -/
def weekTicks : Nat := 60480000
/-- Half a week in ticks: the bound of the forward-distance test (Conventions). -/
def halfWeek : Nat := 30240000
/-- Week numbers run 0–65535 (Conventions). -/
def weekCount : Nat := 65536
/-- The absolute span of R13. -/
def absSpan : Nat := weekCount * weekTicks
/-- Half the absolute span (R13). -/
def halfSpan : Nat := 1981808640000
/-- Longest booking interval, NMAXI (R57). -/
def maxInterval : Nat := 9000000
/-- The divider's REFNOM until SET-STATION loads one (R1). -/
def refnomAtReset : Nat := 10000
/-- NFRP: free-run seconds to POOR quality (R5). -/
def freeRunLimit : Nat := 600
/-- Seconds of an hour event (R11). -/
def hourSeconds : Nat := 3600
/-- NTXQ: transmit queue capacity (R23). -/
def queueSize : Nat := 16
/-- NATT: failed attempts before a frame is dropped (R21). -/
def attemptLimit : Nat := 8
/-- NLF: consecutive drops that enter LINK-FAULT (R22). -/
def linkFaultDrops : Nat := 32
/-- NRXE and NLER: the error counts stop here (R25, R159). -/
def errorCountLimit : Nat := 255
/-- Largest value of a 32-bit count (R26, R27). -/
def max32 : Nat := 4294967295
/-- NHEL: home elements per station (R34). -/
def homeElementLimit : Nat := 16
/-- NHAN: home antennas per station (R35). -/
def homeAntennaLimit : Nat := 8
/-- NRTA: routes per antenna per station (R36). -/
def routesPerAntenna : Nat := 3
/-- NDQ: drive queue capacity (R45). -/
def driveQueueSize : Nat := 8
/-- NSQ: slew queue capacity (R45). -/
def slewQueueSize : Nat := 4
/-- NHIS: motion history length (R40). -/
def historySize : Nat := 4
/-- NRFL, NORL, NOOL: the refusal list and the owed RELEASE and OBJECT lists (R42, R81). -/
def owedListSize : Nat := 8
/-- The idle time in seconds stops here (R52). -/
def idleLimit : Nat := 8000000
/-- Plan bookings in the own list (R59). -/
def planBookingLimit : Nat := 4
/-- NMAP: peer map capacity (R70). -/
def mapSize : Nat := 64
/-- NHZC: the map size that clears the horizon (R80). -/
def horizonClearSize : Nat := 48
/-- NRLG: intent list capacity (R84). -/
def rampLogSize : Nat := 32
/-- NOCL: owed RAMP-CANCEL list (R93). -/
def owedCancelSize : Nat := 4
/-- NTAB: places of each season table (R98). -/
def tableSize : Nat := 128
/-- NADH: ad hoc slots (R98). -/
def adhocSlots : Nat := 8
/-- Minutes of the hall week (R101). -/
def weekMinutes : Nat := 10080
/-- NSET: preset sets (R115). -/
def presetSets : Nat := 64
/-- NPLN: plan queue capacity (R131). -/
def planQueueSize : Nat := 4
/-- NTLG: trip log capacity (R174). -/
def tripLogSize : Nat := 8
/-- NLOG: air log capacity (R196). -/
def airLogSize : Nat := 32
/-- tMLS in ticks: the METER gap that sets METER-LOST (R166). -/
def meterLostGap : Nat := 20
/-- tMTR in ticks: the METER gap that trips (R166). -/
def meterTripGap : Nat := 200

/-- The fixed band table (R99): lower and upper edge in kHz of bands 0–13, both inclusive. -/
def bandTable : List (Nat × Nat) :=
  [(2300, 2495), (3200, 3400), (3900, 4000), (4750, 5060), (5900, 6200), (7200, 7450),
   (9400, 9900), (11600, 12100), (13570, 13870), (15100, 15800), (17480, 17900),
   (18900, 19020), (21450, 21850), (25670, 26100)]

/-- FREE VALUE (assumption 3): the code READ-ELEMENT shows for a view state; Formats and Signals
gives the enumeration no codes. The argument numbers the states in the order of R37. -/
opaque viewStateCode : Nat → BitVec 8

/-- FREE VALUE (assumption 4): what the phase bits of the status record's presence byte show for a
station from which no BEACON has been heard; the manual gives three bits no absent code. -/
opaque unheardPhaseBits : Nat → BitVec 3

/-- FREE VALUE (assumption 57): what the phase bits of the status record's presence byte show for a phase code above 7,
which a BEACON may carry (R200) and three bits cannot hold. The argument is the code. -/
opaque widePhaseBits : Nat → BitVec 3

/-- FREE VALUE (assumption 59): which way, if any, the slewing gear is driven while the sense lines show no valid azimuth;
the manual gives the direction toward the target only. The arguments are the absolute now, the antenna and its target. -/
opaque blindSlew : Nat → Nat → Nat → Option Bool

/-- FREE VALUE (assumption 50): how many reference cycles the divider has run since the last counted tick, edge
or restart when a SET-STATION changes REFNOM; no command carries that number. The argument numbers the changes. -/
opaque cyclesIntoTick : Nat → Nat

end Sys2Proof.Config
end

