-- ==== Sys2Proof/Syntax.lean ====
section
/-! DEFINITION. The commands of the part: one constructor of `Instr` per row of
spec/opcode_table.json, with the hall link frames, the enumerations and their codes
(Formats and Signals). -/

namespace Sys2Proof

/-- Station phases (R186), coded 0–5. -/
inductive Phase
  | config | joining | running | stopping | halted | linkFault
  deriving DecidableEq, Repr

/-- Sequencer states (chapter 9), coded 0–7. -/
inductive SeqState
  | idle | tuning | tuned | ramping | onAir | down | tripped | lockout
  deriving DecidableEq, Repr

/-- States of an own booking (R59), coded 0–5. -/
inductive BkState
  | tentative | booked | moving | confirmed | active | ending
  deriving DecidableEq, Repr

/-- An item is an element or an antenna (Terms), coded 0 and 1. -/
inductive ItemKind
  | element | antenna
  deriving DecidableEq, Repr

/-- Causes of a transmitter FAULT report (R203), coded 1–4. -/
inductive FaultCause
  | arc | cooling | supply | internal
  deriving DecidableEq, Repr

/-- Why a message on the transmitter line is discarded (R203). -/
inductive DiscardReason
  | badType | badCheck | gap | badField
  deriving DecidableEq, Repr

/-- A booking descriptor (R57). Codes are held as the frame carries them, so that a descriptor may
carry a class that names no value (R200); `start` and `stop` are the interval's from and until. -/
structure Desc where
  holder  : Nat
  num     : Nat
  cls     : Nat
  stamp   : Nat
  start   : Nat
  stop    : Nat
  antenna : Option Nat
  azimuth : Option Nat
  steps   : List (Nat × Nat)
  deriving DecidableEq, Repr

/-- The body of a POSITION frame (Formats and Signals), codes as carried. -/
structure PosReport where
  kind       : Nat
  item       : Nat
  report     : Nat
  value      : Option Nat
  motion     : Nat
  reqStation : Nat
  reqBooking : Nat
  reason     : Nat
  deriving DecidableEq, Repr

/-- The body of a BEACON (R29), codes as carried. -/
structure BeaconBody where
  phase    : Nat
  seq      : Nat
  profile  : Nat
  stampCtr : Nat
  bookings : List (Desc × Nat)
  deriving DecidableEq, Repr

/-- The nine frame kinds of the hall link with their bodies (R16, Formats and Signals). -/
inductive Frame
  | object (claimant claimNum objNum : Nat)
  | air (num : Nat)
  | position (p : PosReport)
  | move (kind item num target : Nat)
  | release (num : Nat)
  | claim (d : Desc)
  | rampIntent (num tick : Nat)
  | rampCancel (num : Nat)
  | beacon (b : BeaconBody)
  deriving DecidableEq, Repr

/-- What a received frame carries outside its body: the sender of the arbitration field and the
sender's week tick of the header (R16, R19). -/
structure Head where
  sender : Nat
  tick   : Nat
  deriving DecidableEq, Repr

/-- The commands of the part. Commands of the host are select windows of the schedule port: `win`
is what the host clocked in after the code byte, the length byte first (R182). -/
inductive Instr
  | pinReset
  | tick
  /-- `cycles` reference cycles passed since the part last counted a tick, took an edge or restarted its
  divider. -/
  | ppsEdge (cycles : Nat)
  | hourEvent
  | idleSecond
  | setTime (win : List Byte)
  | attemptStart
  | lostArbitration
  | attemptAbort
  | busyTimeout
  | linkFaultEntry
  | frameSent
  | pendingSlotEmptied
  | badFrame
  | beacon (h : Head) (b : BeaconBody)
  | claim (h : Head) (d : Desc)
  | object (h : Head) (claimant claimNum objNum : Nat)
  | release (h : Head) (num : Nat)
  | air (h : Head) (num : Nat)
  | move (h : Head) (kind item num target : Nat)
  | position (h : Head) (p : PosReport)
  | rampIntent (h : Head) (num at_ : Nat)
  | rampCancel (h : Head) (num : Nat)
  | beaconTimer
  | peerAbsent (station : Nat)
  | joiningTimerEnd
  | loadElement (win : List Byte)
  | loadAntenna (win : List Byte)
  | loadRoute (win : List Byte)
  | driveTurn
  | targetSensed
  /-- The lines of the element in motion as they stand when the motion timer ends. -/
  | motionTimeout (valid : Bool) (code : Nat)
  | slewTurn
  | slewTargetSensed
  /-- The azimuth lines of the slewing antenna as they stand when the slew timer ends. -/
  | slewTimeout (code : Nat)
  /-- The sense lines of one channel change: `valid` is EVLD (elements only), `code` EPOS or AAZ. -/
  | unbiddenChange (kind : ItemKind) (chan : Nat) (valid : Bool) (code : Nat)
  | service (win : List Byte)
  | listenTimerEnd (num : Nat)
  | confirmTimerEnd (num : Nat)
  | ownBookingUntil
  | peerRecordExpiry
  | intentExpiry
  | startCheck
  | loadEntry (win : List Byte)
  | clearPending (win : List Byte)
  | loadAdhoc (win : List Byte)
  | armChangeover (win : List Byte)
  | swapNow (win : List Byte)
  | changeoverInstant
  | cancelEntry (win : List Byte)
  | planningInstant
  | occurrenceLateLimit
  | readPreset (win : List Byte)
  | writePreset (win : List Byte)
  | presetMode (win : List Byte)
  | setWindow (win : List Byte)
  | switchingStart
  | guardTimerEnd
  | planLateLimit (plan : Nat)
  | airStart
  | airEnd
  | readPlan (win : List Byte)
  | tuned (tune load band : Nat)
  | tuneFail (code : Nat)
  | tuneTimeout
  | atPower
  | atPowerTimeout
  | rfOff
  | rfOffTimeout
  | rfSenseChange (high : Bool)
  | meter (pf pr : Nat)
  | fault (cause : FaultCause)
  | txReportDiscarded (why : DiscardReason)
  | meterLost
  | meterTimeout
  | foldIntervalEnd
  | foldFloor
  | recovery
  | strayRfTimeout
  | restartDelayEnd
  | tripLogExpiry
  | clearLockout (win : List Byte)
  | setStation (win : List Byte)
  | setTiming (win : List Byte)
  | start (win : List Byte)
  | stop (win : List Byte)
  | restart (win : List Byte)
  | readStatus (win : List Byte)
  | clearFlags (win : List Byte)
  | readLog (win : List Byte)
  | readBooking (win : List Byte)
  | readElement (win : List Byte)
  | unknownCommand (code : Byte) (win : List Byte)
  /-- A fetch window in which the host clocked `count` bytes, the fetch code included. -/
  | fetch (count : Nat)
  | commandCompletion
  | adHocEnd
  deriving DecidableEq, Repr

end Sys2Proof
end

