-- ==== Sys2Proof/Decode.lean ====
section
/-! DEFINITION. The table's words. spec/opcode_table.json gives no row any bits: the part decodes no
instruction word, so no word spells a command (assumption 2). The bytes the part does read, select
windows and link frames, are read in Machine/Port.lean and Machine/LinkFormat.lean. -/

/-- The command a word spells by the table's bits: none, for the table gives no row bits. -/
def Sys2Proof.decodeTableWord (_nbits _w : Nat) : Option Sys2Proof.Instr := none
end

