-- ==== Sys2Proof/Machine/State.lean ====
section
/-! DEFINITION. The state of the part as plain data, block by block (the block diagram of
00_scope.md), the reports the blocks hand one another within a step, the state after pin reset,
and one setter per block. -/

namespace Sys2Proof.Machine

open Sys2Proof

/-! ## Settings (Conventions, R187, R188) -/

/-- The hall and station parameters, durations in ticks. All but `refnom` are "not loaded" after
pin reset (R199); they then hold 0 (assumption 5). -/
structure Settings where
  stationId : Nat
  profile   : Nat
  tBCN  : Nat
  tLSN  : Nat
  nRMP  : Nat
  tWRMP : Nat
  refnom : Nat
  tGRD : Nat
  tSET : Nat
  tTRF : Nat
  tTRS : Nat
  tATN : Nat
  tRMP : Nat
  tDWN : Nat
  tGRC : Nat
  tSLK : Nat
  tHZN : Nat
  tLATE : Nat
  tEXR : Nat
  tEXL : Nat
  ageV : Nat
  nTRP : Nat
  tWTRP : Nat
  tRST : Nat
  pMax : Nat
  pFlr : Nat
  pfMin : Nat
  prAbs : Nat
  qWrn : Nat
  qTrp : Nat
  fold : Nat
  tFLD : Nat
  tRCV : Nat
  deriving DecidableEq, Repr

/-! ## Timebase (chapter 1) -/

/-- The timebase. `hourDue` counts hour events issued and not yet taken: the model's own field. -/
structure Timebase where
  d         : Nat
  divCount  : Nat
  capCount  : Nat
  tis       : Nat
  sow       : Nat
  week      : Nat
  freeMark  : Bool
  freeCount : Nat
  good      : Bool
  timeSet   : Bool
  offsets   : List (Option Int)
  skew      : Bool
  hourCtr   : Nat
  hourDue   : Nat
  deriving DecidableEq, Repr

/-! ## Hall link controller (chapter 2) -/

/-- The blocks that offer frames (chapter 2). -/
inductive Block
  | hlc | cm | cp | ed | rl
  deriving DecidableEq, Repr

/-- A frame in the transmit queue with its failed attempts (R21); `sending` marks the frame of the
attempt in progress (R17). -/
structure QFrame where
  frame    : Frame
  attempts : Nat
  sending  : Bool
  deriving DecidableEq, Repr

/-- One entry of the presence table (R31). `heard` is the phase and sequencer state of the latest
BEACON, as coded there. -/
structure PeerEntry where
  present : Bool
  absence : Option Nat
  heard   : Option (Nat × Nat)
  deriving DecidableEq, Repr

/-- The hall link controller. `attempt` holds the header week tick of the attempt in progress
(R19); `slots` the pending slots in order of entry (R24); `rxBits` the frame being assembled (R33), of which no bit is
held between commands, since a frame comes whole, when it completes or breaks off (assumption 52). -/
structure Link where
  queue    : List QFrame
  slots    : List Frame
  attempt  : Option Nat
  stamp    : Nat
  seq      : Nat
  presence : List PeerEntry
  beaconT  : Option Nat
  joiningT : Option Nat
  txErr    : Nat
  rxErr    : Nat
  rxBits   : List Bool
  deriving DecidableEq, Repr

/-! ## Element drive (chapter 3) -/

/-- An element record (R34), nominal motion in ticks. -/
structure ElementRec where
  home      : Nat
  count     : Nat
  rating    : Nat
  nominal   : Nat
  inService : Bool
  deriving DecidableEq, Repr

/-- The slew fields of a slewable antenna (R35). -/
structure SlewRec where
  lo    : Nat
  hi    : Nat
  rate  : Nat
  deflt : Nat
  deriving DecidableEq, Repr

/-- An antenna record (R35); `bands` is the mask, bit b for band b; `slew` is present when
slewable. -/
structure AntennaRec where
  home   : Nat
  bands  : Nat
  rating : Nat
  slew   : Option SlewRec
  deriving DecidableEq, Repr

/-- A route record of this station (R36). -/
structure RouteRec where
  antenna : Nat
  pref    : Nat
  steps   : List (Nat × Nat)
  deriving DecidableEq, Repr

/-- States of a view entry (R37). -/
inductive ViewState
  | unknown | set | moving | fault | out
  deriving DecidableEq, Repr

/-- The view entry of an element (R37), with what only its home station keeps of it: the idle time
(R52), the owed-report mark and the measured motion its SET report carries (R42). -/
structure ElView where
  state      : ViewState
  pos        : Option Nat
  history    : List Nat
  homeAbsent : Bool
  idle       : Nat
  owed       : Bool
  motion     : Nat
  deriving DecidableEq, Repr

/-- The view entry of an antenna (R37), with its owed-report mark (R42). -/
structure AnView where
  state      : ViewState
  az         : Option Nat
  homeAbsent : Bool
  owed       : Bool
  deriving DecidableEq, Repr

/-- A move or slew request: an item, a target and the requester (R44, R45). -/
structure Request where
  item    : Nat
  target  : Nat
  station : Nat
  booking : Nat
  deriving DecidableEq, Repr

/-- The element motion in progress: ticks counted since it began and ticks left on its motion timer
(R47). -/
structure Motion where
  req   : Request
  count : Nat
  timer : Nat
  deriving DecidableEq, Repr

/-- The slew in progress and the ticks left on its slew timer (R49). -/
structure Slew where
  req   : Request
  timer : Nat
  deriving DecidableEq, Repr

/-- A REFUSED report of the refusal list (R42). -/
structure RefusedMove where
  kind    : Nat
  item    : Nat
  target  : Nat
  station : Nat
  booking : Nat
  reason  : Nat
  deriving DecidableEq, Repr

/-- How far an exercise has come (R54): claimed, first motion asked, return asked. -/
inductive ExStage
  | claimed | outward | returning
  deriving DecidableEq, Repr

/-- The exercise in progress: element, exercise booking, the position to return to (R54). -/
structure Exercise where
  element : Nat
  booking : Nat
  origin  : Nat
  stage   : ExStage
  deriving DecidableEq, Repr

/-- The element drive. Channel lists are those of R204. `everStarted` says that a START has been
taken since pin reset (R43, R52); `idleTicks` counts toward the next idle second and `idleDue` the
idle seconds counted and not yet taken (both the model's own). -/
structure Drive where
  elements    : List (Nat × ElementRec)
  antennas    : List (Nat × AntennaRec)
  routes      : List (Nat × RouteRec)
  elView      : List (Nat × ElView)
  anView      : List (Nat × AnView)
  driveQ      : List Request
  slewQ       : List Request
  motion      : Option Motion
  slew        : Option Slew
  refusals    : List RefusedMove
  exPtr       : Option Nat
  exercise    : Option Exercise
  elChan      : List Nat
  anChan      : List Nat
  everStarted : Bool
  idleTicks   : Nat
  idleDue     : Nat
  deriving DecidableEq, Repr

/-! ## Claim map (chapter 4) -/

/-- Who asked for an own booking (R59). -/
inductive Requester
  | plan (id : Nat)
  | exercise
  deriving DecidableEq, Repr

/-- An own booking (R59). `sent` says that its CLAIM has completed (R61). -/
structure OwnBooking where
  desc       : Desc
  state      : BkState
  req        : Requester
  sent       : Bool
  listen     : Option Nat
  confirm    : Option Nat
  relPending : Bool
  owedAir    : Bool
  deriving DecidableEq, Repr

/-- Marks of a peer record (R70), coded 0–3. -/
inductive Mark
  | heard | active | yielded | objected
  deriving DecidableEq, Repr

/-- A record of the peer map (R70); `announced` is the announced state's code. -/
structure PeerRec where
  desc      : Desc
  announced : Nat
  mark      : Mark
  deriving DecidableEq, Repr

/-- The claim map. `map` is kept in order of holder and booking number; map order (R70) depends on
now and is computed where it is read. -/
structure ClaimMap where
  own     : List OwnBooking
  map     : List PeerRec
  horizon : Option Nat
  numCtr  : Nat
  unsent  : List Nat
  owedRel : List Nat
  owedObj : List (Nat × Nat × Nat)
  deriving DecidableEq, Repr

/-! ## Ramp log (chapter 5) -/

/-- States of an own intent (R84). -/
inductive IntentState
  | unsent | announced | started
  deriving DecidableEq, Repr

/-- An intent record (R84). -/
structure Intent where
  station : Nat
  num     : Nat
  tick    : Nat
  order   : Option Nat
  own     : Option IntentState
  deriving DecidableEq, Repr

/-- The pick request the ramp log serves (R86); `bySeq` says the sequencer asked (R92), `waiting`
that the pick waits for the link (R88). -/
structure PickReq where
  plan    : Nat
  desired : Nat
  lowest  : Nat
  limit   : Nat
  bySeq   : Bool
  waiting : Bool
  deriving DecidableEq, Repr

/-- The ramp log. -/
structure RampLog where
  intents    : List Intent
  numCtr     : Nat
  request    : Option PickReq
  unsent     : List Nat
  owedCancel : List Nat
  deriving DecidableEq, Repr

/-! ## Schedule store (chapter 6) -/

/-- A table entry (R98); `days` is the mask, bit d for day d. -/
structure Entry where
  minute    : Nat
  days      : Nat
  dur       : Nat
  freq      : Nat
  ant       : Nat
  az        : Option Nat
  power     : Nat
  program   : Nat
  cls       : Nat
  cancelled : Bool
  mark      : Option Nat
  deriving DecidableEq, Repr

/-- A season table: its occupied places in index order and its floor (R98). -/
structure Table where
  entries : List (Nat × Entry)
  floor   : Option Nat
  deriving DecidableEq, Repr

/-- An ad hoc entry (R98) with its absolute start; `taken` says that its occurrence has been offered
and taken (R105). -/
structure AdHoc where
  start   : Nat
  dur     : Nat
  freq    : Nat
  ant     : Nat
  az      : Option Nat
  power   : Nat
  program : Nat
  cls     : Nat
  taken   : Bool
  deriving DecidableEq, Repr

/-- An occurrence: of an active table entry on a day, or of an ad hoc slot (R104). -/
inductive OccRef
  | table (idx day : Nat)
  | adhoc (slot : Nat)
  deriving DecidableEq, Repr

/-- The schedule store. The arm is (week, second). `lateDue` and `endDue` hold the late limits and
ad hoc ends that have fallen due and not been taken: the model's own fields (assumption 8). -/
structure Schedule where
  active  : Table
  pending : Table
  adhoc   : List (Nat × AdHoc)
  arm     : Option (Nat × Nat)
  lateDue : List OccRef
  endDue  : List Nat
  deriving DecidableEq, Repr

/-! ## Preset directory (chapter 7) -/

/-- A preset record (R116). -/
structure Preset where
  valid : Bool
  freq  : Nat
  ant   : Nat
  tune  : Nat
  load  : Nat
  band  : Nat
  age   : Nat
  hits  : Nat
  deriving DecidableEq, Repr

/-- One set of the directory: two ways, their pin counts and the LRU mark (R116). -/
structure PresetSet where
  way0 : Preset
  way1 : Preset
  pin0 : Nat
  pin1 : Nat
  lru  : Nat
  deriving DecidableEq, Repr

/-- A no-preset window (R117). -/
structure FreqWindow where
  enabled : Bool
  base    : Nat
  k       : Nat
  deriving DecidableEq, Repr

/-- The preset directory; the latch holds set, frequency and antenna (R121). -/
structure Directory where
  sets    : List PresetSet
  freeze  : Bool
  flush   : Bool
  windows : List FreqWindow
  latch   : Option (Nat × Nat × Nat)
  further : Bool
  deriving DecidableEq, Repr

/-! ## Changeover planner (chapter 8) -/

/-- Plan states (R130), coded 0–11. -/
inductive PlanState
  | routing | blocked | ready | switching | tuning | rampWait | ramping | onAir | ending
  | done | missed | aborted
  deriving DecidableEq, Repr

/-- Preset outcomes (R135), coded 0–4. -/
inductive PresetOutcome
  | fresh | stale | miss | nopreset | continues
  deriving DecidableEq, Repr

/-- Outcomes of an air record (R156), coded 0–5. -/
inductive AirOutcome
  | aired | late | cut | missed | suppressed | aborted
  deriving DecidableEq, Repr

/-- Causes of an air record (R156), coded 1–10. -/
inductive AirCause
  | noRoute | lateLimit | cancelled | link | lockout | restart | stop | tune | trip | power
  deriving DecidableEq, Repr

/-- Where a plan's occurrence comes from (R130): a table place or an ad hoc slot. `inActive` says that no
swap has come since the plan was made: a plan kept over a swap (R111) names a place of a season no longer
in force, and nothing done to the tables reaches it any more. -/
inductive Source
  | table (inActive : Bool) (idx : Nat)
  | adhoc (slot : Nat)
  deriving DecidableEq, Repr

/-- A plan record (R130). The model's own fields follow `cause`: the interval lost air opened at
(R150), whether the program source has been handed over (R149), whether tSET was left out of the
backward plan (R136), the ticks at which switching and tuning began (R139), the recorded path time P
(R140), and whether the late limit passed while the plan was RAMPING or ON-AIR (R151). -/
structure Plan where
  id         : Nat
  src        : Source
  cls        : Nat
  absA       : Nat
  a          : Nat
  z          : Nat
  late       : Nat
  freq       : Nat
  ant        : Nat
  az         : Option Nat
  program    : Nat
  entryPower : Nat
  cmdPower   : Option Nat
  clampP     : Bool
  clampA     : Bool
  route      : Option Nat
  excluded   : List Nat
  preset     : PresetOutcome
  pin        : Option (Nat × Nat)
  t          : Nat
  w          : Option Nat
  u          : Option Nat
  r          : Option Nat
  booking    : Option Nat
  intent     : Option (Nat × Nat)
  swTick     : Option Nat
  predTune   : Option Nat
  predFull   : Option Nat
  lateness   : Nat
  state      : PlanState
  cont       : Bool
  firstFull  : Option Nat
  lostAir    : Nat
  folds      : Nat
  pendOut    : Option AirOutcome
  cause      : Option AirCause
  lostOpen   : Option Nat
  progDone   : Bool
  noSet      : Bool
  switchedAt : Option Nat
  tunedAt    : Option Nat
  path       : Nat
  limitPast  : Bool
  deriving DecidableEq, Repr

/-- The changeover planner: the plan queue in order (R131), the guard timer (R138), the owed MOVE
marks (R145). -/
structure Planner where
  plans     : List Plan
  guardT    : Option Nat
  owedMoves : List (ItemKind × Nat)
  deriving DecidableEq, Repr

/-- An air record (R156). -/
structure AirRecord where
  src      : Source
  a        : Nat
  outcome  : AirOutcome
  lateness : Nat
  early    : Nat
  lost     : Nat
  route    : Option Nat
  preset   : Option PresetOutcome
  power    : Option Nat
  clampP   : Bool
  clampA   : Bool
  folds    : Nat
  cause    : Option AirCause
  deriving DecidableEq, Repr

/-! ## Transmitter sequencer (chapter 9) -/

/-- Commands on the transmitter line (R159). -/
inductive TxMsg
  | set (freq program : Nat)
  | preset (tune load band : Nat)
  | trim
  | autotune
  | up (kw : Nat)
  | power (kw : Nat)
  | down
  deriving DecidableEq, Repr

/-- Trip causes (R173), coded 1–11. -/
inductive TripCause
  | permitLoss | reflected | reflectedAbs | foldFloor | meter | rampTimeout | rfHold
  | arc | cooling | supply | internal
  deriving DecidableEq, Repr

/-- The transmitter sequencer. `meterGap` is the meter watch: ticks since the last METER.
`restartWait` says the restart delay has ended and the restart test is being repeated (R175),
`upSent` that an UP has been sent since the latest tune command, so that the next ramp-up is a restart (R162), `tuneFailed` that a tune failure has been
reported (R161), `rfOffTaken` that RF-OFF has been taken in DOWN (R163). `sent` is everything sent on
the transmitter line since pin reset, oldest first: the model's own record of an output. -/
structure Sequencer where
  state        : SeqState
  p            : Nat
  ceiling      : Nat
  foldT        : Option Nat
  floorT       : Option Nat
  recT         : Option Nat
  foldCount    : Nat
  meterGap     : Option Nat
  meterLost    : Bool
  tripLog      : List (Nat × TripCause)
  restartT     : Option Nat
  restartWait  : Bool
  tuneT        : Option Nat
  atpT         : Option Nat
  rfoffT       : Option Nat
  strayT       : Option Nat
  psel         : Nat
  lastFault    : Option (FaultCause × Nat)
  lastTuneFail : Option Nat
  lineErr      : Nat
  tuneFailed   : Bool
  rfOffTaken   : Bool
  upSent       : Bool
  sent         : List TxMsg
  deriving DecidableEq, Repr

/-! ## Schedule port (chapter 10) -/

/-- Status codes (R183), coded 0–11. -/
inductive Status
  | ok | okClamped | badPhase | badArg | full | overlap | freqRange | antBand | noRoute | busy
  | notReady | unknown
  deriving DecidableEq, Repr

/-- States of the response buffer (R183). -/
inductive RespState
  | empty | busy | ready
  deriving DecidableEq, Repr

/-- The command taken from the receive buffer and not yet completed (R183): its code, its payload,
and its answer when the window itself decided it. -/
structure Taken where
  code    : Nat
  payload : List Byte
  answer  : Option Status
  deriving DecidableEq, Repr

/-- A written response (R183). -/
structure Response where
  status  : Status
  payload : List Byte
  deriving DecidableEq, Repr

/-- The schedule port. `rx` is the receive buffer: the bytes of the latest window (R182). `sdo` is what the part shifted out in the latest window: the model's own
record of an output. `cpStopped` and `cmStopped` are the two reports of R190. -/
structure Port where
  phase         : Phase
  restartMark   : Bool
  stationLoaded : Bool
  timingLoaded  : Bool
  airLog        : List AirRecord
  rx            : List Byte
  resp          : RespState
  taken         : Option Taken
  response      : Option Response
  hold          : Bool
  sdo           : List Byte
  cpStopped     : Bool
  cmStopped     : Bool
  deriving DecidableEq, Repr

/-- The latched status flags (R193). The condition flags are computed from the state they follow. -/
structure Flags where
  ppsMissing      : Bool
  ppsReject       : Bool
  timeStepped     : Bool
  poorTime        : Bool
  profileMismatch : Bool
  directoryError  : Bool
  elementOverdue  : Bool
  collision       : Bool
  overrun         : Bool
  logOverflow     : Bool
  deriving DecidableEq, Repr

/-- The level inputs (Signals): RFS, the element sense lines EVLD and EPOS by channel, the azimuth
lines AAZ by channel. -/
structure Pins where
  rfs     : Bool
  elLines : List (Bool × Nat)
  anLines : List Nat
  deriving DecidableEq, Repr

/-! ## Reports between blocks -/

/-- What the claim map tells a requester about its booking (R59, R142). -/
inductive Told
  | booked | withdrawn | displaced | dropped | expired | released | stopped | confirmed | fellBack
  deriving DecidableEq, Repr

/-- What one block hands another within a step. A report is delivered before the step ends. -/
inductive Report
  /-- CM to a requester, about an own booking (R59). -/
  | told (req : Requester) (num : Nat) (what : Told)
  /-- CM and ED to TS: test the permit (R164, R165). -/
  | permitTest
  /-- ED to CP: a view entry changed (R141, R146). -/
  | viewChanged (kind : ItemKind) (item : Nat)
  /-- ED to CP: the home absent mark of an item was set (R146). -/
  | homeGone (kind : ItemKind) (item : Nat)
  /-- To CP: BLOCKED plans try route choice again (R141). -/
  | retryBlocked
  /-- CP to itself: route choice for one plan (R141, R142). -/
  | routeChoice (plan : Nat)
  /-- CP to CP and SS: a plan has left the queue (R105, R138). -/
  | planLeft
  /-- CP to itself: continuations whose predecessor changed (R134). -/
  | contCheck
  /-- ED to CP or to the exercise: a request of this station was refused here (R44, R54). -/
  | moveRefused (num : Nat) (kind : ItemKind) (item reason : Nat)
  /-- ED to CP: a peer has REFUSED a request of this station (R38). -/
  | peerRefused (num : Nat) (kind : ItemKind) (item reason : Nat)
  /-- ED to its exercise: the element answered SET, or ended in FAULT (R54). -/
  | elementSet (item : Nat)
  | elementFault (item : Nat)
  /-- RL to its requester (R86, R88). -/
  | pickMade (plan : Nat) (bySeq : Bool)
  | pickRefused (plan : Nat) (bySeq : Bool)
  /-- TS to CP (R148, R149, R150, R155). -/
  | tuned
  | tuneFailed
  | tripped
  | lockedOut
  | noRestart
  /-- PD to CP (R121). -/
  | voidPin (set way : Nat)
  /-- To TS: the restart test of R175 and the leaving of TRIPPED of R176. -/
  | restartTest
  | leaveTripped
  /-- To SP: test whether STOPPING is complete (R190). -/
  | stopTest
  /-- To SS: the test for open occurrences (R105). -/
  | openTest
  deriving DecidableEq, Repr

/-! ## The state -/

/-- Reasons for a fault: none. The manual gives the part no stop; every command answers a next state. -/
inductive Fault
  deriving DecidableEq, Repr

/-- Reasons for a refusal. -/
inductive Refusal
  /-- Raised by an arm of exec whose command has no meaning yet; safe. No arm uses it now. -/
  | notModelled (mnemonic : String)
  deriving DecidableEq, Repr

/-- The state of the part. `reports` holds the reports of the step in progress (empty between
steps, assumption 9); `pending` is the queue of commands waiting, first in, first out; `freeCtr` numbers the
free values of R3 already used (assumption 50). All three are the model's own. -/
structure State where
  cfg     : Settings
  tb      : Timebase
  hlc     : Link
  ed      : Drive
  cm      : ClaimMap
  rl      : RampLog
  ss      : Schedule
  pd      : Directory
  cp      : Planner
  ts      : Sequencer
  sp      : Port
  flags   : Flags
  pins    : Pins
  freeCtr : Nat
  reports : List Report
  pending : List Instr
  deriving DecidableEq, Repr

/-! ## Setters, one per block -/

def State.withCfg (s : State) (v : Settings) : State := { s with cfg := v }
def State.withTb (s : State) (v : Timebase) : State := { s with tb := v }
def State.withHlc (s : State) (v : Link) : State := { s with hlc := v }
def State.withEd (s : State) (v : Drive) : State := { s with ed := v }
def State.withCm (s : State) (v : ClaimMap) : State := { s with cm := v }
def State.withRl (s : State) (v : RampLog) : State := { s with rl := v }
def State.withSs (s : State) (v : Schedule) : State := { s with ss := v }
def State.withPd (s : State) (v : Directory) : State := { s with pd := v }
def State.withCp (s : State) (v : Planner) : State := { s with cp := v }
def State.withTs (s : State) (v : Sequencer) : State := { s with ts := v }
def State.withSp (s : State) (v : Port) : State := { s with sp := v }
def State.withFlags (s : State) (v : Flags) : State := { s with flags := v }
def State.withPins (s : State) (v : Pins) : State := { s with pins := v }
def State.withFreeCtr (s : State) (v : Nat) : State := { s with freeCtr := v }
def State.withReports (s : State) (v : List Report) : State := { s with reports := v }
def State.withPending (s : State) (v : List Instr) : State := { s with pending := v }

/-! ## Pin reset, block by block -/

/-- R199: not loaded, REFNOM 10000 for the divider (R1); the rest 0 by assumption 5. -/
def Settings.reset : Settings :=
  { stationId := 0, profile := 0, tBCN := 0, tLSN := 0, nRMP := 0, tWRMP := 0,
    refnom := Config.refnomAtReset,
    tGRD := 0, tSET := 0, tTRF := 0, tTRS := 0, tATN := 0, tRMP := 0, tDWN := 0, tGRC := 0,
    tSLK := 0, tHZN := 0, tLATE := 0, tEXR := 0, tEXL := 0, ageV := 0, nTRP := 0, tWTRP := 0,
    tRST := 0, pMax := 0, pFlr := 0, pfMin := 0, prAbs := 0, qWrn := 0, qTrp := 0, fold := 0,
    tFLD := 0, tRCV := 0 }

/-- R14. -/
def Timebase.reset : Timebase :=
  { d := Config.refnomAtReset * 10, divCount := 0, capCount := 2 * Config.refnomAtReset * 1000,
    tis := 0, sow := 0, week := 0, freeMark := false, freeCount := 0, good := false,
    timeSet := false, offsets := List.replicate 16 none, skew := false, hourCtr := 0, hourDue := 0 }

/-- An entry of the presence table after both resets (R33). -/
def PeerEntry.reset : PeerEntry := { present := false, absence := none, heard := none }

/-- R33. -/
def Link.reset : Link :=
  { queue := [], slots := [], attempt := none, stamp := 0, seq := 0,
    presence := List.replicate 16 PeerEntry.reset, beaconT := none, joiningT := none,
    txErr := 0, rxErr := 0, rxBits := [] }

/-- R56. -/
def Drive.reset : Drive :=
  { elements := [], antennas := [], routes := [], elView := [], anView := [], driveQ := [],
    slewQ := [], motion := none, slew := none, refusals := [], exPtr := none, exercise := none,
    elChan := [], anChan := [], everStarted := false, idleTicks := 0, idleDue := 0 }

/-- R83. -/
def ClaimMap.reset : ClaimMap :=
  { own := [], map := [], horizon := none, numCtr := 0, unsent := [], owedRel := [], owedObj := [] }

/-- R97. -/
def RampLog.reset : RampLog :=
  { intents := [], numCtr := 0, request := none, unsent := [], owedCancel := [] }

/-- R114. -/
def Schedule.reset : Schedule :=
  { active := { entries := [], floor := none }, pending := { entries := [], floor := none },
    adhoc := [], arm := none, lateDue := [], endDue := [] }

/-- R129: invalid, all fields 0. -/
def Preset.reset : Preset :=
  { valid := false, freq := 0, ant := 0, tune := 0, load := 0, band := 0, age := 0, hits := 0 }

/-- R129: LRU mark way 0, pin counts 0. -/
def PresetSet.reset : PresetSet :=
  { way0 := Preset.reset, way1 := Preset.reset, pin0 := 0, pin1 := 0, lru := 0 }

/-- R129: disabled, base 0, k 4. -/
def FreqWindow.reset : FreqWindow := { enabled := false, base := 0, k := 4 }

/-- R129. -/
def Directory.reset : Directory :=
  { sets := List.replicate Config.presetSets PresetSet.reset, freeze := false, flush := false,
    windows := List.replicate 4 FreqWindow.reset, latch := none, further := false }

/-- R158. -/
def Planner.reset : Planner := { plans := [], guardT := none, owedMoves := [] }

/-- R181. -/
def Sequencer.reset : Sequencer :=
  { state := .idle, p := 0, ceiling := 0, foldT := none, floorT := none, recT := none,
    foldCount := 0, meterGap := none, meterLost := false, tripLog := [], restartT := none,
    restartWait := false, tuneT := none, atpT := none, rfoffT := none, strayT := none, psel := 0,
    lastFault := none, lastTuneFail := none, lineErr := 0, tuneFailed := false,
    rfOffTaken := false, upSent := false, sent := [] }

/-- R199. -/
def Port.reset : Port :=
  { phase := .config, restartMark := false, stationLoaded := false, timingLoaded := false,
    airLog := [], rx := [], resp := .empty, taken := none, response := none, hold := false, sdo := [],
    cpStopped := false, cmStopped := false }

/-- R199: after pin reset every flag is clear. -/
def Flags.reset : Flags :=
  { ppsMissing := false, ppsReject := false, timeStepped := false, poorTime := false,
    profileMismatch := false, directoryError := false, elementOverdue := false,
    collision := false, overrun := false, logOverflow := false }

/-- The input levels the model starts from: no RF, no valid code, no valid azimuth. Inputs have no
reset value in the manual (assumption 6). -/
def Pins.reset : Pins :=
  { rfs := false, elLines := List.replicate Config.homeElementLimit (false, 0),
    anLines := List.replicate Config.homeAntennaLimit 511 }

/-- The part right after pin reset (R14, R33, R56, R83, R97, R114, R129, R158, R181, R199). -/
def State.reset : State :=
  { cfg := Settings.reset, tb := Timebase.reset, hlc := Link.reset, ed := Drive.reset,
    cm := ClaimMap.reset, rl := RampLog.reset, ss := Schedule.reset, pd := Directory.reset,
    cp := Planner.reset, ts := Sequencer.reset, sp := Port.reset, flags := Flags.reset,
    pins := Pins.reset, freeCtr := 0, reports := [], pending := [] }

end Sys2Proof.Machine
end

