-- ==== Sys2Proof/Machine/Ops.lean ====
section
/-! DEFINITION. The operations every block uses: hall-time arithmetic (Conventions, R12, R13),
keyed lists, elapsed timers, reports. -/

namespace Sys2Proof.Machine

open Sys2Proof

/-! ## Week ticks (Conventions) -/

/-- The forward distance from `a` to `b`. -/
def fd (a b : Nat) : Nat := (b + Config.weekTicks - a % Config.weekTicks) % Config.weekTicks

/-- `b` is at or after `a`. -/
def atOrAfter (a b : Nat) : Bool := decide (fd a b < Config.halfWeek)

/-- `b` is after `a`. -/
def after (a b : Nat) : Bool := atOrAfter a b && decide (fd a b ≠ 0)

/-- An instant `t` is due at `now` (R12). -/
def due (t now : Nat) : Bool := atOrAfter t now

/-- The interval [start, stop) contains tick `t`. -/
def containsTick (start stop t : Nat) : Bool := decide (fd start t < fd start stop)

/-- Two intervals overlap when either contains the other's from tick. -/
def overlaps (s1 e1 s2 e2 : Nat) : Bool := containsTick s1 e1 s2 || containsTick s2 e2 s1

/-- Addition of week ticks. -/
def addT (a b : Nat) : Nat := (a + b) % Config.weekTicks

/-- Subtraction of week ticks. -/
def subT (a b : Nat) : Nat := (a + Config.weekTicks - b % Config.weekTicks) % Config.weekTicks

/-- The later of two week ticks, by the forward-distance test. -/
def later (a b : Nat) : Nat := if atOrAfter a b then b else a

/-- The earlier of two week ticks, by the forward-distance test. -/
def earlier (a b : Nat) : Nat := if atOrAfter a b then a else b

/-- How far `b` lies after `a`, 0 when it does not. -/
def afterBy (a b : Nat) : Nat := if atOrAfter a b then fd a b else 0

/-! ## Absolute ticks (R13) -/

/-- The absolute forward distance from `a` to `b`. -/
def absFd (a b : Nat) : Nat := (b + Config.absSpan - a % Config.absSpan) % Config.absSpan

/-- `b` is at or after `a`, and so an absolute instant `a` is due at absolute now `b`. -/
def absDue (a b : Nat) : Bool := decide (absFd a b < Config.halfSpan)

/-- Overlap of two absolute intervals given by start and length in ticks. -/
def absOverlaps (s1 len1 s2 len2 : Nat) : Bool :=
  decide (absFd s1 s2 < len1) || decide (absFd s2 s1 < len2)

/-- The week tick that is now for every block (R2). -/
def State.now (s : State) : Nat := s.tb.sow * 100 + s.tb.tis

/-- The absolute now (R13). -/
def State.absNow (s : State) : Nat := s.tb.week * Config.weekTicks + s.now

/-! ## Lists kept by key, keys rising -/

/-- The value under key `k`. -/
def lookupKey {α : Type} (k : Nat) : List (Nat × α) → Option α
  | [] => none
  | (k', v) :: rest => if k = k' then some v else lookupKey k rest

/-- Put `v` under key `k`, replacing what stood there. -/
def putKey {α : Type} (k : Nat) (v : α) : List (Nat × α) → List (Nat × α)
  | [] => [(k, v)]
  | (k', v') :: rest =>
    if k < k' then (k, v) :: (k', v') :: rest
    else if k = k' then (k, v) :: rest
    else (k', v') :: putKey k v rest

/-- Take key `k` out. -/
def dropKey {α : Type} (k : Nat) (l : List (Nat × α)) : List (Nat × α) :=
  l.filter fun p => p.1 != k

/-- Keys rise strictly: the one canonical form of such a list. -/
def keysRise {α : Type} : List (Nat × α) → Bool
  | [] => true
  | [_] => true
  | (k, _) :: (k', v') :: rest => decide (k < k') && keysRise ((k', v') :: rest)

/-- The lowest of 0 … n−1 that is not a key. -/
def lowestFree {α : Type} (n : Nat) (l : List (Nat × α)) : Option Nat :=
  (List.range n).find? fun k => (lookupKey k l).isNone

/-- Put `x` before the first element that `before x` accepts. -/
def insertBy {α : Type} (before : α → α → Bool) (x : α) : List α → List α
  | [] => [x]
  | y :: rest => if before x y then x :: y :: rest else y :: insertBy before x rest

/-- Sort by insertion; elements neither of which goes before the other keep their order. -/
def sortBy {α : Type} (before : α → α → Bool) (l : List α) : List α :=
  l.foldl (fun acc x => insertBy before x acc) []

/-- Append to a list of bounded length, the oldest discarded first (R42, R81, R93). -/
def appendBounded {α : Type} (cap : Nat) (l : List α) (x : α) : List α :=
  (if l.length < cap then l else l.drop 1) ++ [x]

/-- The element of a list at `n` replaced. -/
def setAt {α : Type} (n : Nat) (x : α) (l : List α) : List α := l.set n x

/-- The next rolling number after `ctr` (modulo 256) that `used` does not hold (R59, R84). -/
def nextNumber (ctr : Nat) (used : List Nat) : Nat :=
  (((List.range 256).map fun k => (ctr + 1 + k) % 256).find? fun n => !used.contains n).getD
    ((ctr + 1) % 256)

/-! ## Elapsed timers (R12) -/

/-- One tick counted by a timer: what is left of it, 0 once it has ended. -/
def countDown (t : Option Nat) : Option Nat := t.map fun n => n - 1

/-- The timer has ended and its end has not been taken. -/
def ended (t : Option Nat) : Bool := t == some 0

/-! ## Reports -/

/-- Hand reports over, after those already handed. -/
def State.report (s : State) (rs : List Report) : State := s.withReports (s.reports ++ rs)

/-! ## Reading station settings -/

/-- The item's home is this station (Terms). -/
def State.homeHere (s : State) (home : Nat) : Bool := home == s.cfg.stationId

/-- The claim gate of the timebase is open (R10). -/
def State.gateOpen (s : State) : Bool := !s.tb.skew && s.tb.good

/-- The station phase (R186). -/
def State.phase (s : State) : Phase := s.sp.phase

/-- Enter a phase. -/
def State.setPhase (s : State) (p : Phase) : State := s.withSp { s.sp with phase := p }

end Sys2Proof.Machine
end

