-- ==== Sys2Proof/Machine/Occurrences.lean ====
section
/-! DEFINITION. Occurrences of table entries and ad hoc entries (R104, R105), and the late limits
and ad hoc ends that fall due at a change of now (R12, R107). -/

namespace Sys2Proof.Machine

open Sys2Proof

/-- Air start of an entry's occurrence on day `d`, a week tick (R104). -/
def Entry.airStart (e : Entry) (d : Nat) : Nat := (d * 1440 + e.minute) * 6000

/-- Air end of the occurrence that starts at `a` (R104). -/
def airEndOf (a dur : Nat) : Nat := addT a (dur * 6000)

/-- The days of an entry's mask. -/
def Entry.dayList (e : Entry) : List Nat := (List.range 7).filter fun d => e.days.testBit d

/-- The absolute start of a table occurrence with air start `a` (R104): within half a week of the
absolute now. -/
def State.absStart (s : State) (a : Nat) : Nat :=
  if atOrAfter s.now a then (s.absNow + fd s.now a) % Config.absSpan
  else (s.absNow + Config.absSpan - fd a s.now) % Config.absSpan

/-- The late limit of a table occurrence with air start `a` (R104), as the absolute tick that follows its absolute start by
tLATE. A limit more than half a week ahead has a week tick that the distance test of R12 takes for one behind now, so limits
are tested by this tick (DEDUCED, assumption 54). -/
def State.occLate (s : State) (a : Nat) : Nat := (s.absStart a + s.cfg.tLATE) % Config.absSpan

/-- A table occurrence with absolute start `abs` is handled (R105). -/
def handledIn (t : Table) (e : Entry) (abs : Nat) : Bool :=
  (match t.floor with
    | some f => !absDue f abs
    | none => false)
  || (match e.mark with
    | some m => absDue abs m
    | none => false)

/-- The occurrence of active entry `e` on day `d` is LIVE and not handled. -/
def State.tableUnhandled (s : State) (e : Entry) (d : Nat) : Bool :=
  !e.cancelled && !handledIn s.ss.active e (s.absStart (e.airStart d))

/-- The occurrence of active entry `e` on day `d` is open (R105). -/
def State.tableOpen (s : State) (e : Entry) (d : Nat) : Bool :=
  s.tableUnhandled e d
  && due (subT (e.airStart d) s.cfg.tHZN) s.now
  && !due (addT (e.airStart d) s.cfg.tLATE) s.now

/-- Absolute end of an ad hoc entry (R103). -/
def AdHoc.absEnd (x : AdHoc) : Nat := (x.start + x.dur * 6000) % Config.absSpan

/-- The late limit of an ad hoc occurrence, an absolute tick (R104). -/
def State.adhocLate (s : State) (x : AdHoc) : Nat := (x.start + s.cfg.tLATE) % Config.absSpan

/-- The occurrence of an ad hoc entry is open (R105). -/
def State.adhocOpen (s : State) (x : AdHoc) : Bool :=
  !x.taken
  && absDue ((x.start + Config.absSpan - s.cfg.tHZN) % Config.absSpan) s.absNow
  && !absDue (s.adhocLate x) s.absNow

/-- All occurrences of a table's entries, in index order and then day order. -/
def Table.occurrences (t : Table) : List (Nat × Entry × Nat) :=
  t.entries.flatMap fun p => p.2.dayList.map fun d => (p.1, p.2, d)

/-- The absolute start of an occurrence, none when its place is empty. -/
def State.occStart (s : State) : OccRef → Option Nat
  | .table idx day => (lookupKey idx s.ss.active.entries).map fun e => s.absStart (e.airStart day)
  | .adhoc slot => (lookupKey slot s.ss.adhoc).map AdHoc.start

/-- The order in which occurrences are taken (R105): by absolute start, an ad hoc occurrence first at
equal starts, then by index. Starts are compared from a week before the absolute now. -/
def State.occKey (s : State) (o : OccRef) : Nat :=
  let start := (s.occStart o).getD 0
  ((start + Config.weekTicks + Config.absSpan - s.absNow) % Config.absSpan) * 256 +
    match o with
    | .adhoc slot => slot
    | .table idx _ => 128 + idx

def State.sortOccs (s : State) (l : List OccRef) : List OccRef :=
  sortBy (fun a b => decide (s.occKey a < s.occKey b)) l

/-- The open occurrences, in the order of R105. -/
def State.openOccs (s : State) : List OccRef :=
  s.sortOccs <|
    ((s.ss.active.occurrences.filter fun o => s.tableOpen o.2.1 o.2.2).map
      fun o => OccRef.table o.1 o.2.2)
    ++ ((s.ss.adhoc.filter fun p => s.adhocOpen p.2).map fun p => OccRef.adhoc p.1)

/-- A plan has been made for an ad hoc slot and is in the queue. -/
def State.slotPlanned (s : State) (slot : Nat) : Bool :=
  s.cp.plans.any fun p => p.src == Source.adhoc slot

/-- An occurrence is unhandled and its late limit is due (R107). -/
def State.pastLimit (s : State) : OccRef → Bool
  | .table idx day => match lookupKey idx s.ss.active.entries with
    | some e => s.tableUnhandled e day && absDue (s.occLate (e.airStart day)) s.absNow
    | none => false
  | .adhoc slot => match lookupKey slot s.ss.adhoc with
    | some x => !x.taken && absDue (s.adhocLate x) s.absNow
    | none => false

/-- The table occurrences not handled whose late limit is due (R107). -/
def State.pastLate (s : State) : List OccRef :=
  (s.ss.active.occurrences.filter fun o =>
      s.tableUnhandled o.2.1 o.2.2 && absDue (s.occLate (o.2.1.airStart o.2.2)) s.absNow).map
    fun o => OccRef.table o.1 o.2.2

/-- Note the late limits that fell due (in RUNNING, R107) and the ad hoc ends that fell due
(elsewhere, R107) as the absolute now changed from `abs0` to what `s` shows. An entry that LOAD-ADHOC takes in CONFIG with its
end due already has no end left to fall due, and keeps its slot until it is cancelled or missed: the model's choice
(assumption 53). -/
def State.noteInstants (s : State) (abs0 : Nat) : State :=
  if s.phase = .running then
    let tables := (s.ss.active.occurrences.filter fun o =>
        let limit := s.occLate (o.2.1.airStart o.2.2)
        s.tableUnhandled o.2.1 o.2.2 && !absDue limit abs0 && absDue limit s.absNow).map
      fun o => OccRef.table o.1 o.2.2
    let adhocs := (s.ss.adhoc.filter fun p =>
        !p.2.taken && !absDue (s.adhocLate p.2) abs0 && absDue (s.adhocLate p.2) s.absNow).map
      fun p => OccRef.adhoc p.1
    s.withSs { s.ss with lateDue := s.ss.lateDue ++ tables ++ adhocs }
  else
    let ends := (s.ss.adhoc.filter fun p =>
        !s.slotPlanned p.1 && !absDue p.2.absEnd abs0 && absDue p.2.absEnd s.absNow).map Prod.fst
    s.withSs { s.ss with endDue := s.ss.endDue ++ ends }

end Sys2Proof.Machine
end

