-- ==== Sys2Proof/Machine/Directory.lean ====
section
/-! DEFINITION. The tuning preset directory (chapter 7): geometry, windows, lookup, pins, tune-start
reads, dual matches, tune results, ageing. -/

namespace Sys2Proof.Machine

open Sys2Proof

/-! ## Geometry and records (R115, R116) -/

/-- The set of a key (R115). -/
def presetIndex (f a : Nat) : Nat := ((f - 2300) / 5 + 7 * a) % Config.presetSets

/-- A way holds a key (R116). -/
def Preset.holds (p : Preset) (f a : Nat) : Bool := p.valid && p.freq == f && p.ant == a

/-- Invalidation leaves the other fields as they were (R116). -/
def Preset.invalidate (p : Preset) : Preset := { p with valid := false }

def PresetSet.way (x : PresetSet) (w : Nat) : Preset := if w = 0 then x.way0 else x.way1
def PresetSet.pins (x : PresetSet) (w : Nat) : Nat := if w = 0 then x.pin0 else x.pin1

def PresetSet.setWay (x : PresetSet) (w : Nat) (p : Preset) : PresetSet :=
  if w = 0 then { x with way0 := p } else { x with way1 := p }

def PresetSet.setPins (x : PresetSet) (w n : Nat) : PresetSet :=
  if w = 0 then { x with pin0 := n } else { x with pin1 := n }

/-- The LRU mark names the other way after a pin, an update or a fill (R116). -/
def PresetSet.touch (x : PresetSet) (w : Nat) : PresetSet := { x with lru := 1 - w }

def State.presetSet (s : State) (i : Nat) : PresetSet := (s.pd.sets[i]?).getD PresetSet.reset

def State.setPresetSet (s : State) (i : Nat) (x : PresetSet) : State :=
  s.withPd { s.pd with sets := setAt i x s.pd.sets }

/-! ## No-preset windows (R117) -/

/-- A window covers a frequency (R117). -/
def FreqWindow.covers (x : FreqWindow) (f : Nat) : Bool :=
  let base := x.base / 2 ^ x.k * 2 ^ x.k
  x.enabled && decide (base ≤ f) && decide (f < base + 2 ^ x.k)

/-- A frequency lies in an enabled window (R117). -/
def State.inWindow (s : State) (f : Nat) : Bool := s.pd.windows.any fun x => x.covers f

/-! ## Dual match (R121) -/

/-- Both ways of the key's set hold the key. -/
def State.isDual (s : State) (f a : Nat) : Bool :=
  (s.presetSet (presetIndex f a)).way0.holds f a && (s.presetSet (presetIndex f a)).way1.holds f a

/-- What a dual match does (R121), in its order. -/
def State.dualMatch (s : State) (f a : Nat) : State :=
  let i := presetIndex f a
  let x := s.presetSet i
  let s := s.setPresetSet i
    { x with way0 := x.way0.invalidate, way1 := x.way1.invalidate, pin0 := 0, pin1 := 0 }
  let s := s.report (((List.range 2).filter fun w => decide (0 < x.pins w)).map
    fun w => Report.voidPin i w)
  let s := match s.pd.latch with
    | none => s.withPd { s.pd with latch := some (i, f, a) }
    | some _ => s.withPd { s.pd with further := true }
  s.withFlags { s.flags with directoryError := true }

/-! ## Lookup and pins (R118, R119) -/

/-- The flush step invalidates the unpinned ways of a set (R118). -/
def PresetSet.flush (x : PresetSet) : PresetSet :=
  { x with
    way0 := if x.pin0 = 0 then x.way0.invalidate else x.way0
    way1 := if x.pin1 = 0 then x.way1.invalidate else x.way1 }

/-- The way of a set that holds a key, when one does. -/
def PresetSet.find (x : PresetSet) (f a : Nat) : Option Nat :=
  if x.way0.holds f a then some 0 else if x.way1.holds f a then some 1 else none

/-- The answer to a lookup: the outcome, and the set and way pinned. -/
structure Found where
  outcome : PresetOutcome
  pin     : Option (Nat × Nat)
  deriving DecidableEq, Repr

/-- A lookup (R118). -/
def State.lookup (s : State) (f a : Nat) : State × Found :=
  let i := presetIndex f a
  let x := s.presetSet i
  if s.inWindow f then (s, { outcome := .nopreset, pin := none })
  else if s.pd.flush then (s.setPresetSet i x.flush, { outcome := .miss, pin := none })
  else if s.isDual f a then (s.dualMatch f a, { outcome := .miss, pin := none })
  else match x.find f a with
    | some w =>
      (s.setPresetSet i ((x.setPins w (x.pins w + 1)).touch w),
       { outcome := if (x.way w).age < s.cfg.ageV then .fresh else .stale, pin := some (i, w) })
    | none => (s, { outcome := .miss, pin := none })

/-- A release request (R119): a way whose count is 0 is left as it is. -/
def State.releasePin (s : State) (i w : Nat) : State :=
  let x := s.presetSet i
  s.setPresetSet i (x.setPins w (x.pins w - 1))

/-! ## Tune start (R120) -/

/-- The answer to a tune-start read. -/
inductive ReadAnswer
  | nopreset
  | miss
  | positions (tune load band : Nat)
  deriving DecidableEq, Repr

/-- A tune-start read of a pinned way for a key: the pin is released whatever the answer (R120). -/
def State.tuneStartRead (s : State) (i w f a : Nat) : State × ReadAnswer :=
  let p := (s.presetSet i).way w
  (s.releasePin i w,
   if s.inWindow f then .nopreset
   else if p.holds f a then .positions p.tune p.load p.band
   else .miss)

/-! ## Tune results (R122–R124) -/

/-- The update of a hit (R123). -/
def PresetSet.confirm (x : PresetSet) (w tune load band : Nat) : PresetSet :=
  let p := x.way w
  (x.setWay w { p with tune := tune, load := load, band := band, age := 0
                       hits := min 255 (p.hits + 1) }).touch w

/-- The way a fill takes (R124). -/
def PresetSet.fillWay (x : PresetSet) : Option Nat :=
  if !x.way0.valid then some 0
  else if !x.way1.valid then some 1
  else if x.pins x.lru = 0 then some x.lru
  else if x.pins (1 - x.lru) = 0 then some (1 - x.lru)
  else none

/-- A tune result that misses (R124). -/
def State.fillPreset (s : State) (f a tune load band : Nat) : State :=
  if s.pd.freeze then s
  else
    let i := presetIndex f a
    let x := s.presetSet i
    match x.fillWay with
    | some w =>
      s.setPresetSet i ((x.setWay w
        { valid := true, freq := f, ant := a, tune := tune, load := load, band := band, age := 0
          hits := 0 }).touch w)
    | none => s

/-- A TUNED result reported with its key (R122). -/
def State.storeTune (s : State) (f a tune load band : Nat) : State :=
  if s.inWindow f then s
  else if s.isDual f a then (s.dualMatch f a).fillPreset f a tune load band
  else
    let i := presetIndex f a
    match (s.presetSet i).find f a with
    | some w => s.setPresetSet i ((s.presetSet i).confirm w tune load band)
    | none => s.fillPreset f a tune load band

/-! ## Ageing (R126) and RESTART (R129) -/

/-- An hour event on one way (R126). -/
def Preset.ageHour (p : Preset) : Preset :=
  if p.valid then { p with age := min 65535 (p.age + 1) } else p

/-- An hour event (R126). -/
def Directory.ageHour (d : Directory) : Directory :=
  { d with sets := d.sets.map fun x => { x with way0 := x.way0.ageHour, way1 := x.way1.ageHour } }

/-- RESTART clears the pin counts (R129). -/
def Directory.restart (d : Directory) : Directory :=
  { d with sets := d.sets.map fun x => { x with pin0 := 0, pin1 := 0 } }

end Sys2Proof.Machine
end

