-- ==== Sys2Proof/Machine/Timebase.lean ====
section
/-! DEFINITION. The timebase (chapter 1): ticks, PPS edges, the offset table and the majority step. -/

namespace Sys2Proof.Machine

open Sys2Proof

/-- The capture limit in reference cycles (R3). -/
def captureLimit (refnom : Nat) : Nat := 2 * refnom * 1000

/-- `n` reference cycles pass: the capture count follows and stops at its limit (R3). -/
def Timebase.capture (t : Timebase) (refnom n : Nat) : Timebase :=
  { t with capCount := min (captureLimit refnom) (t.capCount + n) }

/-- A second advance (R2, R11). -/
def Timebase.advanceSecond (t : Timebase) : Timebase :=
  let t :=
    if t.sow + 1 < Config.weekSeconds then { t with sow := t.sow + 1 }
    else { t with sow := 0, week := (t.week + 1) % Config.weekCount }
  if t.hourCtr + 1 < Config.hourSeconds then { t with hourCtr := t.hourCtr + 1 }
  else { t with hourCtr := 0, hourDue := t.hourDue + 1 }

/-- The first tick of a free-run second confirms it (R5): mark, count, quality. -/
def Timebase.confirmFreeRun (t : Timebase) : Timebase :=
  let n := min Config.freeRunLimit (t.freeCount + 1)
  { t with
    freeMark := false
    freeCount := n
    good := t.good && decide (n ≠ Config.freeRunLimit) }

/-- A confirmation makes quality POOR (R5). -/
def Timebase.turnsPoor (t : Timebase) : Bool :=
  t.freeMark && t.good && decide (min Config.freeRunLimit (t.freeCount + 1) = Config.freeRunLimit)

/-- A counted tick on tick-in-second (R2): the divider has counted its D cycles and restarts. -/
def Timebase.countTick (t : Timebase) (refnom : Nat) : Timebase :=
  let t := { t.capture refnom (t.d - t.divCount) with divCount := 0 }
  let t := if t.freeMark then t.confirmFreeRun else t
  if t.tis < 99 then { t with tis := t.tis + 1 }
  else { t.advanceSecond with tis := 0, freeMark := true }

/-- Classes of a PPS edge (R3). -/
inductive EdgeClass
  | reference | accepted | rejected
  deriving DecidableEq, Repr

/-- The class of an edge whose capture is `c` (R3). -/
def edgeClass (refnom c : Nat) : EdgeClass :=
  if c = captureLimit refnom then .reference
  else if refnom * 980 ≤ c ∧ c ≤ refnom * 1020 then .accepted
  else .rejected

/-- The reference cycles run to an edge: the divider and the capture count follow. An edge further
off than the end of the tick cannot come before that tick, so the cycles are cut there
(assumption 7). -/
def Timebase.runTo (t : Timebase) (refnom cycles : Nat) : Timebase :=
  let n := min cycles (t.d - 1 - t.divCount)
  { t.capture refnom n with divCount := t.divCount + n }

/-- The reference cycles run since the divider last began to count, where no command says how many (R1, R3): a free
value, less than what the tick has left (assumption 50). -/
def Timebase.cyclesRun (t : Timebase) (free : Nat) : Nat :=
  min (Config.cyclesIntoTick free) (t.d - 1 - t.divCount)

/-- REFNOM changes from `old` to `new` after `n` cycles (R1): D follows and the divider restarts. The capture count goes
on (R3); one that stood at its limit stands at the new limit, so that the next edge stays a reference edge
(assumption 43). -/
def Timebase.newRefnom (t : Timebase) (old new n : Nat) : Timebase :=
  let c := min (captureLimit old) (t.capCount + n)
  { t with
    d := new * 10, divCount := 0
    capCount := if c = captureLimit old then captureLimit new else min (captureLimit new) c }

/-- An accepted edge with capture `c` (R4). -/
def Timebase.acceptEdge (t : Timebase) (c : Nat) : Timebase :=
  let t := { t with d := (c + 50) / 100, divCount := 0, freeCount := 0, good := true }
  if t.freeMark then { t with freeMark := false } else { t.advanceSecond with tis := 0 }

/-- An accepted edge advances the second unless it is a late edge (R4). -/
def Timebase.edgeAdvances (t : Timebase) : Bool := !t.freeMark

/-- The second-of-week offset of a sender (R7). -/
def offsetOf (sender own : Nat) : Int :=
  (((sender : Int) - (own : Int) + 302400) % 604800) - 302400

/-- A step by `k` seconds (R9). -/
def Timebase.stepBy (t : Timebase) (k : Int) : Timebase :=
  let total : Int := (t.sow : Int) + k
  { t with
    sow := (total % 604800).toNat
    week :=
      if 604800 ≤ total then (t.week + 1) % Config.weekCount
      else if total < 0 then (t.week + Config.weekCount - 1) % Config.weekCount
      else t.week
    offsets := List.replicate 16 none
    skew := false }

/-- The claim gate opens between `s0` and `s`: BLOCKED plans try again (R10, R141). -/
def State.afterGate (s : State) (s0 : State) : State :=
  if !s0.gateOpen && s.gateOpen then s.report [.retryBlocked] else s

/-- The majority step (R9); the instants it skips fall due (R12). -/
def State.timeStep (s : State) (k : Int) : State :=
  let s1 := (s.withTb (s.tb.stepBy k)).withFlags { s.flags with timeStepped := true }
  (s1.noteInstants s.absNow).afterGate s

/-- SKEW set or cleared by an evaluation (R8, R10). -/
def State.setSkew (s : State) (b : Bool) : State :=
  (s.withTb { s.tb with skew := b }).afterGate s

/-- The number of peers present (R8). -/
def State.presentCount (s : State) : Nat := s.hlc.presence.countP PeerEntry.present

/-- The disagreeing offsets held (R8). -/
def Timebase.disagreeing (t : Timebase) : List Int :=
  (t.offsets.filterMap id).filter fun k => decide (2 ≤ k.natAbs)

/-- The evaluation of the offset table (R8). -/
def State.evaluateOffsets (s : State) : State :=
  let n := s.presentCount
  if n = 0 then s
  else
    let big := s.tb.disagreeing
    match big.find? fun k => decide (n < 2 * big.count k) with
    | some k => s.timeStep k
    | none => s.setSkew (decide (n < 2 * big.length))

/-- A BEACON records its sender's offset (R7). -/
def State.recordOffset (s : State) (h : Head) : State :=
  if s.tb.timeSet then
    (s.withTb { s.tb with
      offsets := setAt h.sender (some (offsetOf (h.tick / 100) s.tb.sow)) s.tb.offsets }).evaluateOffsets
  else s

/-- A peer marked absent loses its offset, and the table is evaluated (R7). -/
def State.removeOffset (s : State) (station : Nat) : State :=
  (s.withTb { s.tb with offsets := setAt station none s.tb.offsets }).evaluateOffsets

/-- What RESTART leaves of the timebase (R14). -/
def Timebase.restart (t : Timebase) : Timebase :=
  { t with offsets := List.replicate 16 none, skew := false }

end Sys2Proof.Machine
end

