-- ==== Sys2Proof/Machine/Link.lean ====
section
/-! DEFINITION. The hall link controller (chapter 2): the transmit queue and pending slots, attempts,
numbering, and what each station phase permits. What other blocks do with reports and received frames
stands with those blocks. -/

namespace Sys2Proof.Machine

open Sys2Proof

/-! ## Codes -/

def phaseCode : Phase → Nat
  | .config => 0 | .joining => 1 | .running => 2 | .stopping => 3 | .halted => 4 | .linkFault => 5

def seqCode : SeqState → Nat
  | .idle => 0 | .tuning => 1 | .tuned => 2 | .ramping => 3 | .onAir => 4 | .down => 5
  | .tripped => 6 | .lockout => 7

def bkCode : BkState → Nat
  | .tentative => 0 | .booked => 1 | .moving => 2 | .confirmed => 3 | .active => 4 | .ending => 5

/-! ## Frames (R16) -/

/-- Kind priority of a frame (R16). -/
def framePriority : Frame → Nat
  | .object .. => 0 | .air .. => 1 | .position .. => 2 | .move .. => 3 | .release .. => 4
  | .claim .. => 5 | .rampIntent .. => 6 | .rampCancel .. => 6 | .beacon .. => 7

/-- The block that offers a frame (chapter 2). -/
def frameBlock : Frame → Block
  | .object .. => .cm | .air .. => .cm | .release .. => .cm | .claim .. => .cm
  | .move .. => .cp | .position .. => .ed | .rampIntent .. => .rl | .rampCancel .. => .rl
  | .beacon .. => .hlc

def isBeacon : Frame → Bool
  | .beacon .. => true
  | _ => false

/-- What a phase lets a block offer (R15, R23). -/
def offerPermitted : Phase → Frame → Bool
  | .joining, .claim .. => false
  | .joining, .rampIntent .. => false
  | .joining, _ => true
  | .running, _ => true
  | .stopping, _ => true
  | _, _ => false

/-- Phases in which an attempt may start (R15, R17). -/
def sendsIn : Phase → Bool
  | .joining | .running | .stopping | .halted => true
  | _ => false

/-- Phases in which every good frame is dispatched (R15). -/
def dispatchesIn : Phase → Bool
  | .joining | .running | .stopping => true
  | _ => false

/-! ## The queue (R23, R24) -/

/-- Enter a frame: after every queued frame of lower or equal priority number (R23). -/
def enqueue (q : List QFrame) (f : Frame) : List QFrame :=
  insertBy (fun x y => decide (framePriority x.frame < framePriority y.frame))
    { frame := f, attempts := 0, sending := false } q

/-- Places not yet given away: a freed place goes to a pending frame (R24), so it is not offered to
another. -/
def Link.hasRoom (l : Link) : Bool := decide (l.queue.length + l.slots.length < Config.queueSize)

/-- The newest BEACON that is not in an attempt, taken out (R24). -/
def dropNewestBeacon (q : List QFrame) : Option (List QFrame) :=
  let rec go : List QFrame → Option (List QFrame)
    | [] => none
    | x :: rest =>
      if isBeacon x.frame && !x.sending then some rest else (go rest).map (x :: ·)
  (go q.reverse).map List.reverse

/-- The producing block's pending slot holds a frame (R24). -/
def Link.slotTaken (l : Link) (f : Frame) : Bool :=
  l.slots.any fun g => frameBlock g == frameBlock f

/-- An offer in a phase that permits it (R23, R24): none is NOT-ACCEPTED. -/
def Link.offer (l : Link) (f : Frame) : Option Link :=
  if l.hasRoom then some { l with queue := enqueue l.queue f }
  else if isBeacon f then some l
  else if l.slotTaken f then none
  else match dropNewestBeacon l.queue with
    | some q => some { l with queue := enqueue q f }
    | none => some { l with slots := l.slots ++ [f] }

/-- A block offers a frame: the state after, and whether the offer was taken (false: NOT-ACCEPTED). -/
def State.offer (s : State) (f : Frame) : State × Bool :=
  if offerPermitted s.phase f then
    match s.hlc.offer f with
    | some l => (s.withHlc l, true)
    | none => (s, false)
  else (s, false)

/-- The stamp a CLAIM takes when its offer is not refused (R27). -/
def Link.nextStamp (l : Link) : Nat := min Config.max32 (l.stamp + 1)

/-- The counter follows a value heard (R27). -/
def Link.follow (l : Link) (v : Nat) : Link := { l with stamp := max l.stamp v }

/-- The next reception sequence number (R26). -/
def Link.number (l : Link) : Link := { l with seq := (l.seq + 1) % (Config.max32 + 1) }

/-- Of two reception sequence numbers, `a` precedes `b` (R26). -/
def seqPrecedes (a b : Nat) : Bool :=
  decide (a ≠ b) && decide ((b + (Config.max32 + 1) - a % (Config.max32 + 1)) % (Config.max32 + 1) < 2147483648)

/-! ## Attempts (R17, R18, R20, R21) -/

/-- The busy timer runs (R17). Its 10 ms are below the grain of the part's steps: BUSY-TIMEOUT is its
end. It runs whenever a frame waits. -/
def Link.busyRuns (l : Link) : Bool := !l.queue.isEmpty

/-- An attempt starts with the head frame and the header tick `now` (R17, R19). -/
def Link.startAttempt (l : Link) (now : Nat) : Link :=
  match l.queue with
  | [] => l
  | x :: rest => { l with queue := { x with sending := true } :: rest, attempt := some now }

/-- No attempt is in progress any more; the frame stays queued (R18). -/
def Link.endAttempt (l : Link) : Link :=
  { l with attempt := none, queue := l.queue.map fun x => { x with sending := false } }

/-- The frame of the attempt in progress. -/
def Link.sendingFrame (l : Link) : Option Frame := (l.queue.find? QFrame.sending).map QFrame.frame

/-- Charge one failed attempt to the first frame `hit` accepts: its 8th drops it (R20, R21). The
second component is the dropped frame. -/
def chargeFirst (hit : QFrame → Bool) : List QFrame → List QFrame × Option Frame
  | [] => ([], none)
  | x :: rest =>
    if hit x then
      if x.attempts + 1 < Config.attemptLimit then ({ x with attempts := x.attempts + 1 } :: rest, none)
      else (rest, some x.frame)
    else
      let r := chargeFirst hit rest
      (x :: r.1, r.2)

/-- A failed attempt (R20, R21): the charge, and on a drop the consecutive transmit error count. -/
def Link.charge (l : Link) (hit : QFrame → Bool) : Link × Option Frame :=
  let r := chargeFirst hit l.queue
  let l := { l with queue := r.1 }
  match r.2 with
  | some f => ({ l with txErr := min Config.linkFaultDrops (l.txErr + 1) }, some f)
  | none => (l, none)

/-- A success (R21): the frame leaves, the error count clears, the frame takes the next number. -/
def Link.succeed (l : Link) : Link :=
  ({ l with
    queue := l.queue.filter fun x => !x.sending
    attempt := none
    txErr := 0 } : Link).number

/-- The pending frame a freed place goes to (R24): lowest priority number, then first in. -/
def pickSlot : List Frame → Option (Frame × List Frame)
  | [] => none
  | f :: rest =>
    match pickSlot rest with
    | none => some (f, [])
    | some (g, others) =>
      if framePriority g < framePriority f then some (g, f :: others) else some (f, rest)

/-! ## Presence (R31) -/

/-- The entry of a station. -/
def State.peer (s : State) (station : Nat) : PeerEntry :=
  (s.hlc.presence[station]?).getD PeerEntry.reset

def State.setPeer (s : State) (station : Nat) (e : PeerEntry) : State :=
  s.withHlc { s.hlc with presence := setAt station e s.hlc.presence }

/-- A BEACON acts on its sender's entry (R31). -/
def State.hearPeer (s : State) (station phase seq : Nat) : State :=
  s.setPeer station
    { present := true, absence := some (3 * s.cfg.tBCN), heard := some (phase, seq) }

/-- The peers present, in station order. -/
def State.presentPeers (s : State) : List Nat :=
  (List.range 16).filter fun n => (s.peer n).present

/-! ## Beacons (R28, R29) -/

/-- The body of a BEACON offered now (R29). -/
def State.beaconBody (s : State) : BeaconBody :=
  { phase := phaseCode s.phase
    seq := seqCode s.ts.state
    profile := s.cfg.profile
    stampCtr := s.hlc.stamp
    bookings := s.cm.own.map fun b => (b.desc, bkCode b.state) }

/-- Offer a BEACON and start the beacon timer (R28). -/
def State.beaconNow (s : State) : State :=
  let s := (s.offer (.beacon s.beaconBody)).1
  s.withHlc { s.hlc with beaconT := some s.cfg.tBCN }

/-! ## Resets and phases -/

/-- RESTART (R33), as the station enters JOINING; the timers start with JOINING. Every peer becomes absent;
what its latest beacon said is kept (assumption 45). -/
def Link.restart (l : Link) : Link :=
  { l with
    queue := [], slots := [], attempt := none, seq := 0, txErr := 0
    presence := l.presence.map fun e => { e with present := false, absence := none }
    beaconT := none, joiningT := none, rxBits := [] }

/-- Entry to LINK-FAULT (R22): transmitting stops, everything waiting is discarded. -/
def Link.linkFault (l : Link) : Link :=
  { l with queue := [], slots := [], attempt := none, beaconT := none, joiningT := none }

/-- Entry to HALTED (R28, R32): the beacon and JOINING timers stop; the queue goes on draining. -/
def Link.halt (l : Link) : Link := { l with beaconT := none, joiningT := none }

end Sys2Proof.Machine
end

