-- ==== Sys2Proof/Machine/ClaimMap.lean ====
section
/-! DEFINITION. The claim map (chapter 4): conflict and rank, own bookings and their removal, the
element view's test of a booking, placement of peer records, capacity and horizon, owed frames. -/

namespace Sys2Proof

/-! ## Descriptors (R57, R58, R200) -/

/-- A booking includes an item (R57). -/
def Desc.includes (d : Desc) (kind : ItemKind) (item : Nat) : Bool :=
  match kind with
  | .element => d.steps.any fun st => st.1 == item
  | .antenna => d.antenna == some item

/-- Two bookings share an item (R57). -/
def Desc.shares (d e : Desc) : Bool :=
  (d.steps.any fun st => e.includes .element st.1)
    || (match d.antenna with
        | some a => e.includes .antenna a
        | none => false)

/-- Two bookings of different holders conflict (R57). -/
def Desc.conflicts (d e : Desc) : Bool :=
  d.holder != e.holder && d.shares e && Machine.overlaps d.start d.stop e.start e.stop

/-- A descriptor carries no code that names no value and no tick outside the week (R200). One that breaks another range of
R57 (an interval empty or longer than 9,000,000 ticks, an element named twice) is readable and recorded as it stands (R72,
R77): the model's choice (DESIGN CHOICE, assumption 65). -/
def Desc.readable (d : Desc) : Bool :=
  decide (d.cls ≤ 3) && decide (d.start < Config.weekTicks) && decide (d.stop < Config.weekTicks)

/-- States of a committed booking (R58). -/
def BkState.committed : BkState → Bool
  | .tentative => false
  | .booked => false
  | _ => true

end Sys2Proof

namespace Sys2Proof.Machine

open Sys2Proof

/-! ## Rank (R58) -/

/-- What rank reads of a booking (R58). -/
structure Standing where
  committed : Bool
  cls       : Nat
  stamp     : Nat
  holder    : Nat
  deriving DecidableEq, Repr

/-- The first ranks ahead of the second: the first test that tells them apart decides (R58). -/
def Standing.ahead (x y : Standing) : Bool :=
  if x.committed ≠ y.committed then x.committed
  else if x.cls ≠ y.cls then decide (y.cls < x.cls)
  else if x.stamp ≠ y.stamp then decide (x.stamp < y.stamp)
  else decide (x.holder < y.holder)

def OwnBooking.standing (b : OwnBooking) : Standing :=
  { committed := b.state.committed, cls := b.desc.cls, stamp := b.desc.stamp
    holder := b.desc.holder }

/-- A peer record is committed by its mark or its announced state (R58). -/
def PeerRec.standing (r : PeerRec) : Standing :=
  { committed := r.mark == Mark.active || (decide (2 ≤ r.announced) && decide (r.announced ≤ 5))
    cls := r.desc.cls, stamp := r.desc.stamp, holder := r.desc.holder }

/-- A record is held when marked HEARD or ACTIVE (R70). -/
def PeerRec.held (r : PeerRec) : Bool := r.mark == Mark.heard || r.mark == Mark.active

/-- The mark of a held record follows its announced state (R70). -/
def heldMark (announced : Nat) : Mark := if announced = 4 ∨ announced = 5 then .active else .heard

/-! ## Looking up -/

def State.ownBooking (s : State) (num : Nat) : Option OwnBooking :=
  s.cm.own.find? fun b => b.desc.num == num

def State.updOwn (s : State) (num : Nat) (f : OwnBooking → OwnBooking) : State :=
  s.withCm { s.cm with own := s.cm.own.map fun b => if b.desc.num = num then f b else b }

/-- Key test of a peer record (R57). -/
def PeerRec.isKey (r : PeerRec) (holder num : Nat) : Bool :=
  r.desc.holder == holder && r.desc.num == num

def State.peerRec (s : State) (holder num : Nat) : Option PeerRec :=
  s.cm.map.find? fun r => r.isKey holder num

/-- The order in which the map is kept: holder, then number. -/
def recBefore (x y : PeerRec) : Bool :=
  decide (x.desc.holder < y.desc.holder)
    || (x.desc.holder == y.desc.holder && decide (x.desc.num < y.desc.num))

/-- Store a record under its key. -/
def State.putRec (s : State) (r : PeerRec) : State :=
  s.withCm { s.cm with
    map := insertBy recBefore r (s.cm.map.filter fun x => !x.isKey r.desc.holder r.desc.num) }

/-- Start distance of a record's from (R70). -/
def startDistance (now start : Nat) : Nat := if after now start then fd now start else 0

/-- Map order (R70): start distance, holder, number. -/
def mapBefore (now : Nat) (x y : PeerRec) : Bool :=
  let dx := startDistance now x.desc.start
  let dy := startDistance now y.desc.start
  decide (dx < dy) || (dx == dy && recBefore x y)

/-- The peer map in map order (R70). -/
def State.mapOrder (s : State) : List PeerRec := sortBy (mapBefore s.now) s.cm.map

/-! ## Frames and what is owed (R81) -/

/-- Offer a RELEASE; refused, it is owed. In LINK-FAULT none is offered and none is owed (R82). -/
def State.offerRelease (s : State) (num : Nat) : State :=
  if s.phase = .linkFault then s
  else
    let r := s.offer (.release num)
    if r.2 then r.1
    else s.withCm { s.cm with owedRel := appendBounded Config.owedListSize s.cm.owedRel num }

/-- Offer an OBJECT; refused, it is owed. -/
def State.offerObject (s : State) (claimant claimNum objNum : Nat) : State :=
  let r := s.offer (.object claimant claimNum objNum)
  if r.2 then r.1
  else s.withCm { s.cm with
    owedObj := appendBounded Config.owedListSize s.cm.owedObj (claimant, claimNum, objNum) }

/-- Offer an AIR; refused, the booking's owed-AIR mark is set (R66). -/
def State.offerAir (s : State) (num : Nat) : State :=
  let r := s.offer (.air num)
  r.1.updOwn num fun b => { b with owedAir := !r.2 }

/-- Offer owed OBJECTs, oldest first, until one is refused. The second component says that none
was. -/
def State.offerOwedObjects (s : State) : Nat → State × Bool
  | 0 => (s, true)
  | k + 1 =>
    match s.cm.owedObj with
    | [] => (s, true)
    | (c, n, o) :: rest =>
      let r := s.offer (.object c n o)
      if r.2 then (r.1.withCm { r.1.cm with owedObj := rest }).offerOwedObjects k else (s, false)

/-- Offer owed AIRs in list order; one whose booking is no longer ACTIVE is cleared. -/
def State.offerOwedAirs (s : State) : List Nat → State × Bool
  | [] => (s, true)
  | n :: rest =>
    match s.ownBooking n with
    | some b =>
      if !b.owedAir then s.offerOwedAirs rest
      else if b.state = .active then
        let r := s.offer (.air n)
        if r.2 then (r.1.updOwn n fun x => { x with owedAir := false }).offerOwedAirs rest
        else (s, false)
      else (s.updOwn n fun x => { x with owedAir := false }).offerOwedAirs rest
    | none => s.offerOwedAirs rest

/-- Offer owed RELEASEs, oldest first, until one is refused. -/
def State.offerOwedReleases (s : State) : Nat → State × Bool
  | 0 => (s, true)
  | k + 1 =>
    match s.cm.owedRel with
    | [] => (s, true)
    | n :: rest =>
      let r := s.offer (.release n)
      if r.2 then (r.1.withCm { r.1.cm with owedRel := rest }).offerOwedReleases k else (s, false)

/-- CM's pending slot has emptied (R81): OBJECT, AIR, RELEASE. -/
def State.cmSlotEmptied (s : State) : State :=
  let o := s.offerOwedObjects Config.owedListSize
  let s :=
    if o.2 then
      let a := o.1.offerOwedAirs (o.1.cm.own.map fun b => b.desc.num)
      if a.2 then (a.1.offerOwedReleases Config.owedListSize).1 else a.1
    else o.1
  s.report [.stopTest]

/-! ## Own bookings: numbers, changes, removal (R59, R61, R68) -/

/-- A change of a booking, or its removal, is handed to its requester and then to the sequencer
(R59), which tests its permit and its restart (R164, R175). -/
def State.tell (s : State) (req : Requester) (num : Nat) (what : Told) : State :=
  s.report [.told req num what, .permitTest, .restartTest]

/-- A booking leaves the own list. An unsent one goes on the unsent-removal list (R59); for a sent one
RELEASE is offered when `release` says so. In LINK-FAULT nothing is kept (R82). -/
def State.removeOwn (s : State) (b : OwnBooking) (release : Bool) : State :=
  let s := s.withCm { s.cm with own := s.cm.own.filter fun x => x.desc.num != b.desc.num }
  let s :=
    if s.phase = .linkFault then s
    else if b.state = .tentative ∧ b.sent = false then
      s.withCm { s.cm with unsent := s.cm.unsent ++ [b.desc.num] }
    else if release then s.offerRelease b.desc.num
    else s
  s.report [.stopTest]

/-- The booking leaves with RELEASE and its requester is told why. -/
def State.endOwn (s : State) (b : OwnBooking) (what : Told) : State :=
  (s.removeOwn b true).tell b.req b.desc.num what

/-- RF may still be on: the release of a committed booking waits (R68). -/
def State.rfHeld (s : State) : Bool :=
  s.pins.rfs || s.ts.state == .tuning || s.ts.state == .ramping || s.ts.state == .onAir
    || s.ts.state == .down

/-- The release condition is tested: every release-pending booking goes when RF is off (R68), in list order
(the model's choice, assumption 58). -/
def State.releaseTest (s : State) : State :=
  if s.rfHeld then s
  else (s.cm.own.filter OwnBooking.relPending).foldl (fun s b => s.endOwn b .released) s

/-- A requester asks for the release of a booking (R68). A plan booking still BOOKED is removed at once, by its row of
R68, also when the planner reports with the request that ramp-down has begun (R153), which would make it ENDING: the model's
choice (assumption 56). -/
def State.releaseBooking (s : State) (num : Nat) : State :=
  match s.ownBooking num with
  | none => s
  | some b =>
    if b.state = .tentative ∨ b.state = .booked ∨ b.req = .exercise then s.endOwn b .released
    else
      ((s.updOwn num fun b => { b with state := .ending, confirm := none, relPending := true }).report
        [.permitTest, .restartTest]).releaseTest

/-! ## Claims (R60, R61) -/

/-- Why a claim request is refused (R60). -/
inductive ClaimRefusal
  | phase | gate | badInterval | full | horizon | conflict | link
  deriving DecidableEq, Repr

/-- The answer to a claim request. -/
inductive ClaimAnswer
  | made (num : Nat)
  | refused (why : ClaimRefusal)
  deriving DecidableEq, Repr

/-- An interval ending at `stop` reaches past the horizon, or the horizon has been reached (R80). That it has been reached is
tested again at every request, by its distance from now, and not latched: after a backward step of time, or more than half a
week past the horizon, an interval that ends before it passes again: the model's choice (DESIGN CHOICE, assumption 60). -/
def State.pastHorizon (s : State) (stop : Nat) : Bool :=
  match s.cm.horizon with
  | some h => after h stop || due h s.now
  | none => false

/-- A held peer record shares an item with `d` over an overlapping interval (R60, R140). -/
def State.peerConflict (s : State) (d : Desc) : Bool :=
  s.cm.map.any fun r => r.held && r.desc.shares d && overlaps r.desc.start r.desc.stop d.start d.stop

/-- The first of tests 1 to 6 of R60 that refuses the request. -/
def State.claimRefusal (s : State) (req : Requester) (d : Desc) : Option ClaimRefusal :=
  let exercise := decide (req = .exercise)
  let count := s.cm.own.countP fun b => decide (b.req = .exercise) == exercise
  if s.phase ≠ .running then some .phase
  else if !s.gateOpen then some .gate
  else if fd d.start d.stop = 0 ∨ Config.maxInterval < fd d.start d.stop ∨ after s.now d.stop = false then
    some .badInterval
  else if (if exercise then 1 else Config.planBookingLimit) ≤ count then some .full
  else if s.pastHorizon d.stop then some .horizon
  else if s.peerConflict d then some .conflict
  else if exercise && s.cm.own.any fun b =>
      b.desc.shares d && overlaps b.desc.start b.desc.stop d.start d.stop then some .conflict
  else none

/-- Numbers a new booking may not take (R59). -/
def State.bookingNumbersUsed (s : State) : List Nat :=
  s.cm.own.map (fun b => b.desc.num) ++ s.cm.unsent

/-- A claim request (R60, R61): `d` gives everything but holder, number and stamp. An offer refused NOT-ACCEPTED leaves the
booking number counter as it was: the model's choice (DESIGN CHOICE, assumption 64). -/
def State.requestBooking (s : State) (req : Requester) (d : Desc) : State × ClaimAnswer :=
  match s.claimRefusal req d with
  | some why => (s, .refused why)
  | none =>
    let num := nextNumber s.cm.numCtr s.bookingNumbersUsed
    let stamp := s.hlc.nextStamp
    let d := { d with holder := s.cfg.stationId, num := num, stamp := stamp }
    let r := s.offer (.claim d)
    if r.2 then
      let s := r.1.withHlc { r.1.hlc with stamp := stamp }
      (s.withCm { s.cm with
        numCtr := num
        own := s.cm.own ++ [{ desc := d, state := .tentative, req := req, sent := false
                              listen := none, confirm := none, relPending := false
                              owedAir := false }] }, .made num)
    else (s, .refused .link)

/-- SENT report of a CLAIM (R61). -/
def State.claimSent (s : State) (num : Nat) : State :=
  if s.cm.unsent.contains num then
    (s.withCm { s.cm with unsent := s.cm.unsent.filter (· != num) }).offerRelease num
  else s.updOwn num fun b =>
    if b.state = .tentative ∧ b.sent = false then { b with sent := true, listen := some s.cfg.tLSN }
    else b

/-- DROPPED report of a CLAIM (R61): no RELEASE is owed. -/
def State.claimDropped (s : State) (num : Nat) : State :=
  if s.cm.unsent.contains num then
    s.withCm { s.cm with unsent := s.cm.unsent.filter (· != num) }
  else match s.ownBooking num with
    | some b =>
      if b.state = .tentative ∧ b.sent = false then
        ((s.withCm { s.cm with own := s.cm.own.filter fun x => x.desc.num != num }).report
          [.stopTest]).tell b.req num .dropped
      else s
    | none => s

/-- The listen timer of a booking ends (R62). Of an OBJECT that comes after it at the same tick for an exercise booking, see
`State.exerciseTold` (assumption 63). -/
def State.listenEnds (s : State) (num : Nat) : State :=
  match s.ownBooking num with
  | some b =>
    if b.state = .tentative ∧ b.listen = some 0 then
      (s.updOwn num fun b => { b with state := .booked, listen := none }).tell b.req num .booked
    else s
  | none => s

/-! ## Confirmation and fallback (R64, R65) -/

/-- A step element stands as booked (R64). -/
def State.elementStands (s : State) (el pos : Nat) : Bool :=
  match lookupKey el s.ed.elView with
  | some v => v.state == .set && v.pos == some pos
  | none => false

/-- An antenna stands as booked (R64). -/
def State.antennaStands (s : State) (an : Nat) (az : Option Nat) : Bool :=
  match lookupKey an s.ed.anView, lookupKey an s.ed.antennas with
  | some v, some a => v.state == .set && (a.slew.isNone || v.az == az)
  | _, _ => false

/-- Every item of a booking stands as booked (R64). -/
def State.stands (s : State) (d : Desc) : Bool :=
  (d.steps.all fun st => s.elementStands st.1 st.2)
    && (match d.antenna with
        | some a => s.antennaStands a d.azimuth
        | none => true)

/-- A booking is judged against the view: the confirm timer starts or stops, a CONFIRMED or ACTIVE
booking falls back (R64, R65). -/
def State.judgeOne (s : State) (b : OwnBooking) : State :=
  if b.req = .exercise then s
  else if s.stands b.desc then
    if b.state = .moving ∧ b.confirm = none then
      s.updOwn b.desc.num fun b => { b with confirm := some s.cfg.tSET }
    else s
  else match b.state with
    | .moving => s.updOwn b.desc.num fun b => { b with confirm := none }
    | .confirmed | .active =>
      (s.updOwn b.desc.num fun b => { b with state := .moving, confirm := none }).tell b.req
        b.desc.num .fellBack
    | _ => s

/-- A view entry changed: the bookings that include the item are judged, then the sequencer tests its
permit (R37, R164). The bookings are judged in list order: the model's choice (assumption 58). -/
def State.judgeItem (s : State) (kind : ItemKind) (item : Nat) : State :=
  ((s.cm.own.filter fun b => b.desc.includes kind item).foldl State.judgeOne s).report [.permitTest]

/-- The requester reports that moving has begun (R63): taken on a BOOKED booking only. -/
def State.beginMoving (s : State) (num : Nat) : State × Bool :=
  match s.ownBooking num with
  | some b =>
    if b.state = .booked then
      let s := (s.updOwn num fun b => { b with state := .moving }).report [.permitTest]
      (match s.ownBooking num with
        | some b => s.judgeOne b
        | none => s, true)
    else (s, false)
  | none => (s, false)

/-- The confirm timer of a booking ends (R64). -/
def State.confirmEnds (s : State) (num : Nat) : State :=
  match s.ownBooking num with
  | some b =>
    if b.state = .moving ∧ b.confirm = some 0 ∧ s.stands b.desc then
      (s.updOwn num fun b => { b with state := .confirmed, confirm := none }).tell b.req num .confirmed
    else s
  | none => s

/-- The requester reports that ramp-up has begun (R66). -/
def State.beginAir (s : State) (num : Nat) : State :=
  match s.ownBooking num with
  | some b =>
    if b.state = .confirmed ∧ b.req ≠ .exercise then
      ((s.updOwn num fun b => { b with state := .active }).offerAir num).report
        [.permitTest, .restartTest]
    else s
  | none => s

/-- A hand-over from `pred` to `cont` (R67); the second component says that it was taken. -/
def State.handOver (s : State) (pred cont : Nat) : State × Bool :=
  match s.ownBooking pred, s.ownBooking cont with
  | some p, some c =>
    if c.state = .booked ∧ (p.state = .moving ∨ p.state = .confirmed ∨ p.state = .active)
        ∧ p.desc.steps = c.desc.steps ∧ p.desc.antenna = c.desc.antenna
        ∧ p.desc.azimuth = c.desc.azimuth then
      let s := s.withCm { s.cm with own :=
        (s.cm.own.filter fun b => b.desc.num != pred).map fun b =>
          if b.desc.num = cont then { b with state := p.state, confirm := p.confirm } else b }
      let s := if p.state = .active then s.offerAir cont else s
      (s.report [.permitTest, .restartTest], true)
    else (s, false)
  | _, _ => (s, false)

/-! ## Placement (R70, R71, R74) -/

/-- Of two own bookings, `x` is the better objector: rank, then the lower number (R71). -/
def betterObjector (x y : OwnBooking) : Bool :=
  x.standing.ahead y.standing || (!y.standing.ahead x.standing && decide (x.desc.num < y.desc.num))

/-- The own booking an OBJECT names (R71). -/
def objectorOf : List OwnBooking → Option OwnBooking
  | [] => none
  | b :: rest => some (rest.foldl (fun best x => if betterObjector x best then x else best) b)

/-- Displacement of an own booking (R74). -/
def State.displace (s : State) (b : OwnBooking) : State := s.endOwn b .displaced

/-- Placement of a record (R70). Its mark takes no part in the test; `wasObjected` says that it stood
OBJECTED before. In STOPPING, too, a placement offers its OBJECT, as R71 calls for it, though R82's row for STOPPING names
only RELEASE and owed frames: the model's choice (assumption 56). Several own bookings displaced by one placement go in the
order of the own list: the model's choice (assumption 56). -/
def State.place (s : State) (r : PeerRec) (wasObjected : Bool) : State :=
  let r := { r with mark := Mark.heard }
  let own := s.cm.own.filter fun b => b.desc.conflicts r.desc
  let strong := own.filter fun b => b.state.committed || b.standing.ahead r.standing
  let held := s.cm.map.filter fun x =>
    x.held && !x.isKey r.desc.holder r.desc.num && x.desc.conflicts r.desc
  if !strong.isEmpty then
    let s := s.putRec { r with mark := Mark.objected }
    match wasObjected, objectorOf own with
    | false, some o => s.offerObject r.desc.holder r.desc.num o.desc.num
    | _, _ => s
  else if held.any fun x => x.standing.ahead r.standing then s.putRec { r with mark := Mark.yielded }
  else
    let s := held.foldl (fun s x => s.putRec { x with mark := Mark.yielded })
      (s.putRec { r with mark := heldMark r.announced })
    own.foldl State.displace s

/-- The map changed between `s0` and `s` as BLOCKED plans watch it (R141): an addition, a removal or
a change of mark, or the horizon cleared. They retry before a plan displaced by the change chooses: the model's choice (DESIGN
CHOICE, assumption 66). -/
def State.afterMap (s s0 : State) : State :=
  let key := fun r : PeerRec => (r.desc.holder, r.desc.num, r.mark)
  if s.cm.map.map key ≠ s0.cm.map.map key ∨ (s0.cm.horizon.isSome ∧ s.cm.horizon = none) then
    s.report [.retryBlocked]
  else s

/-! ## Capacity and horizon (R79, R80) -/

/-- Keep the records that `keep` accepts; a removal that leaves 48 or fewer clears the horizon
(R80). -/
def State.keepRecs (s : State) (keep : PeerRec → Bool) : State :=
  let left := s.cm.map.filter keep
  s.withCm { s.cm with
    map := left
    horizon := if left.length < s.cm.map.length ∧ left.length ≤ Config.horizonClearSize then none
      else s.cm.horizon }

/-- A discard at `start` sets the horizon, or brings it nearer (R79). -/
def nearerHorizon (now : Nat) (h : Option Nat) (start : Nat) : Option Nat :=
  match h with
  | none => some start
  | some h => some (if startDistance now start < startDistance now h then start else h)

/-- The furthest-future record (R79). -/
def furthest (now : Nat) (r : PeerRec) (l : List PeerRec) : PeerRec :=
  l.foldl (fun best x => if mapBefore now best x then x else best) r

/-- A new record is added, subject to capacity, and placed (R72, R79). -/
def State.addRec (s : State) (r : PeerRec) : State :=
  if s.cm.map.length < Config.mapSize then s.place r false
  else
    let out := furthest s.now r s.cm.map
    let s := s.withCm { s.cm with horizon := nearerHorizon s.now s.cm.horizon out.desc.start }
    if out.isKey r.desc.holder r.desc.num then s
    else
      (s.withCm { s.cm with
        map := s.cm.map.filter fun x => !x.isKey out.desc.holder out.desc.num }).place r false

/-! ## Frames from peers (R72–R78) -/

/-- A good CLAIM (R72). -/
def State.hearClaim (s : State) (d : Desc) : State :=
  if d.readable then
    let r : PeerRec := { desc := d, announced := 0, mark := Mark.heard }
    (match s.peerRec d.holder d.num with
      | some old => s.place r (old.mark == Mark.objected)
      | none => s.addRec r).afterMap s
  else s

/-- A good OBJECT (R73). One that names an own TENTATIVE booking whose CLAIM has not been sent, for which R73's table
has no row, has no effect: the model's choice (assumption 51). -/
def State.hearObject (s : State) (claimant num : Nat) : State :=
  if claimant = s.cfg.stationId then
    match s.ownBooking num with
    | some b =>
      if (b.state = .tentative ∧ b.sent = true) ∨ b.state = .booked then s.endOwn b .withdrawn else s
    | none => s
  else s

/-- A good RELEASE (R75). -/
def State.hearRelease (s : State) (sender num : Nat) : State :=
  (s.keepRecs fun r => !r.isKey sender num).afterMap s

/-- A good AIR (R76). -/
def State.hearAir (s : State) (sender num : Nat) : State :=
  match s.peerRec sender num with
  | some r => (s.place { r with announced := 4 } (r.mark == Mark.objected)).afterMap s
  | none => s

/-- One entry of a BEACON's list (R77). -/
def State.hearEntry (s : State) (e : Desc × Nat) : State :=
  if e.1.readable && decide (e.2 ≤ 5) && after s.now e.1.stop then
    match s.peerRec e.1.holder e.1.num with
    | some r =>
      if r.desc = e.1 ∧ r.announced = e.2 ∧ r.held then s
      else s.place { r with desc := e.1, announced := e.2 } (r.mark == Mark.objected)
    | none => s.addRec { desc := e.1, announced := e.2, mark := Mark.heard }
  else s

/-- A good BEACON's booking list (R77): its entries, then the pruning of what it does not carry. -/
def State.hearList (s : State) (sender ctr : Nat) (l : List (Desc × Nat)) : State :=
  ((l.foldl State.hearEntry s).keepRecs fun r =>
    r.desc.holder != sender || decide (ctr < r.desc.stamp)
      || l.any fun e => r.isKey e.1.holder e.1.num).afterMap s

/-- Expiry of peer records (R78). -/
def State.expireRecs (s : State) : State :=
  (s.keepRecs fun r => !due r.desc.stop s.now).afterMap s

/-- Absence of a peer (R78). -/
def State.dropPeerRecs (s : State) (station : Nat) : State :=
  (s.keepRecs fun r => r.desc.holder != station).afterMap s

/-- The peer map is emptied (R82): with no record left no horizon stands (R80). -/
def State.emptyMap (s : State) : State :=
  (s.withCm { s.cm with map := [], horizon := none }).afterMap s

/-! ## The until of own bookings (R69) -/

/-- The until an extension would give. -/
def State.extendedStop (s : State) : Nat := addT s.now (3 * s.cfg.tBCN)

/-- A committed booking's until can be moved forward (R69). -/
def State.canExtend (s : State) (b : OwnBooking) : Bool :=
  decide (fd b.desc.start s.extendedStop ≤ Config.maxInterval)

/-- An own booking whose until is due and calls for an act (R69). -/
def State.untilActs (s : State) (b : OwnBooking) : Bool :=
  due b.desc.stop s.now && (!b.state.committed || s.canExtend b)

/-- One own booking's until falls due (R69). -/
def State.untilOne (s : State) (b : OwnBooking) : State :=
  if !b.state.committed then s.endOwn b .expired
  else
    let stop := s.extendedStop
    let s := s.updOwn b.desc.num fun b => { b with desc := { b.desc with stop := stop } }
    (s.cm.map.filter fun r => { b.desc with stop := stop }.conflicts r.desc).foldl
      (fun s r => s.place r (r.mark == Mark.objected)) s

/-- The untils that have fallen due (R69), taken in the order of the own list, and after an extension the conflicting peer
records placed in key order: the model's choice (assumption 56). -/
def State.ownUntils (s : State) : State :=
  ((s.cm.own.filter s.untilActs).foldl State.untilOne s).afterMap s

/-! ## Phases (R82, R83) -/

/-- Entry to STOPPING (R82). The bookings go in list order: the model's choice (assumption 58). -/
def State.cmStop (s : State) : State :=
  (s.cm.own.filter fun b => decide (b.req ≠ .exercise) && !b.state.committed).foldl
    (fun s b => s.endOwn b .stopped) s

/-- Entry to LINK-FAULT (R82); the phase has already changed. The bookings go in list order: the model's choice
(assumption 58). -/
def State.cmLinkFault (s : State) : State :=
  let s := (s.cm.own.filter fun b => decide (b.req = .exercise) || !b.state.committed).foldl
    (fun s b => s.endOwn b .stopped) s
  s.withCm { s.cm with
    unsent := [], owedRel := [], owedObj := []
    own := s.cm.own.map fun b => { b with owedAir := false } }

/-- RESTART (R83): the number counter is kept. -/
def ClaimMap.restart (c : ClaimMap) : ClaimMap := { ClaimMap.reset with numCtr := c.numCtr }

end Sys2Proof.Machine
end

