-- ==== Sys2Proof/Machine/ElementDrive.lean ====
section
/-! DEFINITION. The element drive (chapter 3): sensing, the element view, POSITION reports, requests and
their checks, motions and slews, service, exercise. -/

namespace Sys2Proof.Machine

open Sys2Proof

/-! ## Records and views -/

def ElView.fresh : ElView :=
  { state := .unknown, pos := none, history := [], homeAbsent := false, idle := 0, owed := false
    motion := 0 }

def AnView.fresh : AnView := { state := .unknown, az := none, homeAbsent := false, owed := false }

def State.element (s : State) (id : Nat) : Option ElementRec := lookupKey id s.ed.elements
def State.antenna (s : State) (id : Nat) : Option AntennaRec := lookupKey id s.ed.antennas

def State.elv (s : State) (id : Nat) : ElView := (lookupKey id s.ed.elView).getD ElView.fresh
def State.anv (s : State) (id : Nat) : AnView := (lookupKey id s.ed.anView).getD AnView.fresh

def State.putElv (s : State) (id : Nat) (v : ElView) : State :=
  s.withEd { s.ed with elView := putKey id v s.ed.elView }

def State.putAnv (s : State) (id : Nat) (v : AnView) : State :=
  s.withEd { s.ed with anView := putKey id v s.ed.anView }

/-- The home station of an item, none when it is not loaded. -/
def State.homeOf (s : State) (kind : ItemKind) (item : Nat) : Option Nat :=
  match kind with
  | .element => (s.element item).map ElementRec.home
  | .antenna => (s.antenna item).map AntennaRec.home

/-- The item is loaded and homed at this station. -/
def State.isHome (s : State) (kind : ItemKind) (item : Nat) : Bool :=
  s.homeOf kind item == some s.cfg.stationId

/-- The item's state in the view (R37). -/
def State.itemState (s : State) (kind : ItemKind) (item : Nat) : ViewState :=
  match kind with
  | .element => (s.elv item).state
  | .antenna => (s.anv item).state

def State.homeElements (s : State) : List Nat :=
  (s.ed.elements.filter fun p => s.homeHere p.2.home).map Prod.fst

def State.homeAntennas (s : State) : List Nat :=
  (s.ed.antennas.filter fun p => s.homeHere p.2.home).map Prod.fst

/-! ## Sense inputs (R204) -/

/-- The channel of a home item. -/
def channelOf (id : Nat) (l : List Nat) : Option Nat := l.findIdx? (· == id)

/-- The position an element is sensed at; none when it shows no valid code (R204). -/
def State.sensedPos (s : State) (el : Nat) : Option Nat :=
  match channelOf el s.ed.elChan, s.element el with
  | some c, some r =>
    match s.pins.elLines[c]? with
    | some (true, code) => if code < r.count then some code else none
    | _ => none
  | _, _ => none

/-- The azimuth an antenna is sensed at; none for a code of 360–511 (R204). -/
def State.sensedAz (s : State) (an : Nat) : Option Nat :=
  match channelOf an s.ed.anChan with
  | some c =>
    match s.pins.anLines[c]? with
    | some code => if code < 360 then some code else none
    | none => none
  | none => none

/-- The sense lines of an element's channel take a level: EVLD and the 3 lines of EPOS. -/
def State.driveElLines (s : State) (el : Nat) (valid : Bool) (code : Nat) : State :=
  match channelOf el s.ed.elChan with
  | some c => s.withPins { s.pins with elLines := setAt c (valid, code % 8) s.pins.elLines }
  | none => s

/-- The 9 azimuth lines of an antenna's channel take a code. -/
def State.driveAnLines (s : State) (an code : Nat) : State :=
  match channelOf an s.ed.anChan with
  | some c => s.withPins { s.pins with anLines := setAt c (code % 512) s.pins.anLines }
  | none => s

/-! ## Estimates (R41) -/

/-- The motion estimate of an element (R41). -/
def motionEstimate (nominal : Nat) (history : List Nat) : Nat :=
  let base := history.foldl max nominal
  base + ceilDiv base 8

def State.estimate (s : State) (el : Nat) : Nat :=
  match s.element el with
  | some r => motionEstimate r.nominal (s.elv el).history
  | none => 0

/-- The slew time between two azimuths (R41). -/
def slewTicks (rate a b : Nat) : Nat := ceilDiv (1000 * (max a b - min a b)) rate

/-- The slew time to `b`; an absent azimuth counts as the slew limit farther from `b` (R41). -/
def SlewRec.time (r : SlewRec) (az : Option Nat) (b : Nat) : Nat :=
  match az with
  | some a => slewTicks r.rate a b
  | none => max (slewTicks r.rate r.lo b) (slewTicks r.rate r.hi b)

/-! ## POSITION reports (R42) -/

def reportCode : ViewState → Nat
  | .moving => 0 | .set => 1 | .fault => 2 | .out => 3 | .unknown => 2

def kindNat : ItemKind → Nat
  | .element => 0 | .antenna => 1

/-- The POSITION that carries an item's current state (R42). -/
def State.positionFrame (s : State) (kind : ItemKind) (item : Nat) : Frame :=
  match kind with
  | .element =>
    let v := s.elv item
    .position
      { kind := 0, item := item, report := reportCode v.state, value := v.pos
        motion := if v.state = .set then v.motion else 0
        reqStation := 255, reqBooking := 255, reason := 0 }
  | .antenna =>
    let v := s.anv item
    .position
      { kind := 1, item := item, report := reportCode v.state, value := v.az, motion := 0
        reqStation := 255, reqBooking := 255, reason := 0 }

def State.setOwed (s : State) (kind : ItemKind) (item : Nat) (b : Bool) : State :=
  match kind with
  | .element => s.putElv item { s.elv item with owed := b }
  | .antenna => s.putAnv item { s.anv item with owed := b }

/-- The owed mark is set and the POSITION offered; a taken offer clears the mark (R42). Where ED
offers nothing (R55) the mark is not set. -/
def State.owePosition (s : State) (kind : ItemKind) (item : Nat) : State :=
  if dispatchesIn s.phase then
    let r := s.offer (s.positionFrame kind item)
    r.1.setOwed kind item (!r.2)
  else s

/-- The home items whose owed mark is set: elements in id order, then antennas (R42). -/
def State.owedItems (s : State) : List (ItemKind × Nat) :=
  ((s.homeElements.filter fun i => (s.elv i).owed).map fun i => (ItemKind.element, i))
    ++ ((s.homeAntennas.filter fun i => (s.anv i).owed).map fun i => (ItemKind.antenna, i))

/-- Offer the owed POSITIONs until one is refused; the second component says that none was. -/
def State.offerPositions (s : State) : List (ItemKind × Nat) → State × Bool
  | [] => (s, true)
  | (k, i) :: rest =>
    let r := s.offer (s.positionFrame k i)
    if r.2 then (r.1.setOwed k i false).offerPositions rest else (s, false)

/-- A REFUSED report as a frame. -/
def RefusedMove.frame (r : RefusedMove) : Frame :=
  .position
    { kind := r.kind, item := r.item, report := 4, value := some r.target, motion := 0
      reqStation := r.station, reqBooking := r.booking, reason := r.reason }

/-- Offer the refusal list, oldest first, until one is refused (R42). -/
def State.offerRefusals (s : State) : Nat → State
  | 0 => s
  | k + 1 =>
    match s.ed.refusals with
    | [] => s
    | x :: rest =>
      let r := s.offer x.frame
      if r.2 then (r.1.withEd { r.1.ed with refusals := rest }).offerRefusals k else s

/-- ED's pending slot has emptied (R42). -/
def State.edSlotEmptied (s : State) : State :=
  let r := s.offerPositions s.owedItems
  if r.2 then r.1.offerRefusals Config.owedListSize else r.1

/-- The link still holds a state POSITION of an item (R42). -/
def State.positionOffered (s : State) (kind item : Nat) : Bool :=
  (s.hlc.queue.map QFrame.frame ++ s.hlc.slots).any fun f =>
    match f with
    | .position p => p.kind == kind && p.item == item && p.report != 4
    | _ => false

/-- DROPPED report of a POSITION (R42). -/
def State.positionDropped (s : State) (p : PosReport) : State :=
  let kind := if p.kind = 0 then ItemKind.element else ItemKind.antenna
  if p.report = 4 ∨ s.positionOffered p.kind p.item ∨ s.isHome kind p.item = false then s
  else s.owePosition kind p.item

/-! ## View changes (R37) -/

/-- A view entry changed: the claim map judges, the sequencer tests, the planner hears (R37, R141). -/
def State.viewChange (s : State) (kind : ItemKind) (item : Nat) : State :=
  (s.judgeItem kind item).report [.viewChanged kind item]

/-- Store an element's view entry and hand a change of state or position on (R37). A change of its motion history alone goes
to BLOCKED plans only, as every change of the view does (R141). -/
def State.changeElv (s : State) (id : Nat) (v : ElView) : State :=
  let old := s.elv id
  let s := s.putElv id v
  if old.state = v.state ∧ old.pos = v.pos then
    if old.history = v.history then s else s.report [.retryBlocked]
  else s.viewChange .element id

/-- The same for an antenna. -/
def State.changeAnv (s : State) (id : Nat) (v : AnView) : State :=
  let old := s.anv id
  let s := s.putAnv id v
  if old.state = v.state ∧ old.az = v.az then s else s.viewChange .antenna id

/-- The home station's own view of an element takes a state; the POSITION is owed (R42). -/
def State.homeElv (s : State) (id : Nat) (state : ViewState) (pos : Option Nat) (motion : Nat) : State :=
  (s.changeElv id { s.elv id with state := state, pos := pos, motion := motion }).owePosition .element id

/-- The same for an antenna. -/
def State.homeAnv (s : State) (id : Nat) (state : ViewState) (az : Option Nat) : State :=
  (s.changeAnv id { s.anv id with state := state, az := az }).owePosition .antenna id

/-- A measured motion above 0 is appended, the oldest of five removed (R40). -/
def appendMotion (h : List Nat) (m : Nat) : List Nat :=
  if m = 0 then h else appendBounded Config.historySize h m

/-- Every code of a POSITION names a value (R200): kind, report, and the reason, which only a REFUSED has to
carry. -/
def positionReadable (p : PosReport) : Bool :=
  decide (p.kind ≤ 1) && decide (p.report ≤ 4) && decide (p.reason ≤ 6) && (p.report != 4 || decide (1 ≤ p.reason))

/-- A POSITION from the item's home station (R38). One with a code that names no value is not acted on
(R200). A position or azimuth outside the item's range is no such code, and the view entry takes it as it stands: the
model's choice (assumption 53). -/
def State.hearPosition (s : State) (sender : Nat) (p : PosReport) : State :=
  if positionReadable p = false then s
  else if p.kind = 0 then
    if s.homeOf .element p.item = some sender then
      let v := s.elv p.item
      match p.report with
      | 0 => s.changeElv p.item { v with state := .moving }
      | 1 => s.changeElv p.item
          { v with state := .set, pos := p.value, history := appendMotion v.history p.motion }
      | 2 => s.changeElv p.item { v with state := .fault, pos := p.value }
      | 3 => s.changeElv p.item { v with state := .out }
      | 4 =>
        if p.reqStation = s.cfg.stationId then s.report [.peerRefused p.reqBooking .element p.item p.reason]
        else s
      | _ => s
    else s
  else if p.kind = 1 then
    if s.homeOf .antenna p.item = some sender then
      let v := s.anv p.item
      match p.report with
      | 0 => s.changeAnv p.item { v with state := .moving }
      | 1 => s.changeAnv p.item { v with state := .set, az := p.value }
      | 2 => s.changeAnv p.item { v with state := .fault, az := p.value }
      | 3 => s.changeAnv p.item { v with state := .out }
      | 4 =>
        if p.reqStation = s.cfg.stationId then s.report [.peerRefused p.reqBooking .antenna p.item p.reason]
        else s
      | _ => s
    else s
  else s

/-! ## Home absent marks (R39) -/

/-- The items homed at a station. -/
def State.itemsHomedAt (s : State) (station : Nat) : List (ItemKind × Nat) :=
  ((s.ed.elements.filter fun p => p.2.home == station).map fun p => (ItemKind.element, p.1))
    ++ ((s.ed.antennas.filter fun p => p.2.home == station).map fun p => (ItemKind.antenna, p.1))

/-- Set or clear the mark on one item; setting is handed to the planner (R146). The BLOCKED plans retry (R141) after the route
fault and before the faulted plan's choice: the model's choice (DESIGN CHOICE, assumption 66). -/
def State.markAbsent (s : State) (b : Bool) (i : ItemKind × Nat) : State :=
  match i.1 with
  | .element =>
    let v := s.elv i.2
    if v.homeAbsent = b then s
    else (s.putElv i.2 { v with homeAbsent := b }).report
      (if b then [.homeGone .element i.2, .retryBlocked] else [.retryBlocked])
  | .antenna =>
    let v := s.anv i.2
    if v.homeAbsent = b then s
    else (s.putAnv i.2 { v with homeAbsent := b }).report
      (if b then [.homeGone .antenna i.2, .retryBlocked] else [.retryBlocked])

/-- A peer became absent or present: the marks of its items (R39), elements in id order and then antennas: the model's choice
(assumption 58). -/
def State.markStation (s : State) (station : Nat) (b : Bool) : State :=
  if station = s.cfg.stationId then s
  else (s.itemsHomedAt station).foldl (fun s i => s.markAbsent b i) s

/-! ## Checks of a request (R44) -/

/-- The item's queue and what is in motion of it, as requests. -/
def State.queueOf (s : State) (kind : ItemKind) : List Request :=
  match kind with
  | .element => s.ed.driveQ
  | .antenna => s.ed.slewQ

def State.inMotion (s : State) (kind : ItemKind) (item : Nat) : Option Request :=
  (match kind with
    | .element => s.ed.motion.map Motion.req
    | .antenna => s.ed.slew.map Slew.req).filter fun r => r.item == item

def State.withQueue (s : State) (kind : ItemKind) (q : List Request) : State :=
  match kind with
  | .element => s.withEd { s.ed with driveQ := q }
  | .antenna => s.withEd { s.ed with slewQ := q }

def Request.from (r : Request) (station booking : Nat) : Bool :=
  r.station == station && r.booking == booking

/-- The sensed position or azimuth of an item. -/
def State.sensed (s : State) (kind : ItemKind) (item : Nat) : Option Nat :=
  match kind with
  | .element => s.sensedPos item
  | .antenna => s.sensedAz item

/-- Test 1 of R44. -/
def State.targetInRange (s : State) (kind : ItemKind) (item target : Nat) : Bool :=
  match kind with
  | .element =>
    match s.element item with
    | some r => decide (target < r.count)
    | none => false
  | .antenna =>
    match (s.antenna item).bind AntennaRec.slew with
    | some w => decide (w.lo ≤ target) && decide (target ≤ w.hi)
    | none => false

/-- The requester's booking as this station's map holds it, with its standing (R44). -/
def State.heldBooking (s : State) (station booking : Nat) : Option (Desc × Standing) :=
  if station = s.cfg.stationId then (s.ownBooking booking).map fun b => (b.desc, b.standing)
  else ((s.peerRec station booking).filter PeerRec.held).map fun r => (r.desc, r.standing)

/-- A request of this station's exercise (R54). -/
def State.isExercise (s : State) (station booking : Nat) : Bool :=
  station == s.cfg.stationId
    && (match s.ownBooking booking with
        | some b => decide (b.req = .exercise)
        | none => false)

/-- The booking includes the item with the requested position or azimuth (R44). -/
def State.asksFor (s : State) (d : Desc) (station booking : Nat) (kind : ItemKind) (item target : Nat) :
    Bool :=
  match kind with
  | .element =>
    d.steps.any fun st => st.1 == item && (st.2 == target || s.isExercise station booking)
  | .antenna => d.antenna == some item && d.azimuth == some target

/-- Every other held booking on the item whose interval contains now ranks behind (R44). -/
def State.ranksFirst (s : State) (x : Standing) (station booking : Nat) (kind : ItemKind) (item : Nat) :
    Bool :=
  (s.cm.own.all fun b =>
      (station == s.cfg.stationId && b.desc.num == booking) || !b.desc.includes kind item
        || !containsTick b.desc.start b.desc.stop s.now || x.ahead b.standing)
    && (s.cm.map.all fun r =>
      r.isKey station booking || !r.held || !r.desc.includes kind item
        || !containsTick r.desc.start r.desc.stop s.now || x.ahead r.standing)

/-- Test 3 of R44 passes. -/
def State.requestHeld (s : State) (kind : ItemKind) (item target station booking : Nat) : Bool :=
  match s.heldBooking station booking with
  | some (d, x) =>
    containsTick d.start d.stop s.now && s.asksFor d station booking kind item target
      && s.ranksFirst x station booking kind item
  | none => false

/-- Test 4 of R44: another booking that is ACTIVE includes the item. -/
def State.activeElsewhere (s : State) (kind : ItemKind) (item station booking : Nat) : Bool :=
  (s.cm.own.any fun b =>
      b.state == BkState.active && b.desc.includes kind item
        && !(station == s.cfg.stationId && b.desc.num == booking))
    || (s.cm.map.any fun r =>
      r.mark == Mark.active && r.desc.includes kind item && !r.isKey station booking)

/-- Tests 2, 3 and 4 of R44: the reason code of the first that refuses. -/
def State.turnRefusal (s : State) (kind : ItemKind) (r : Request) : Option Nat :=
  if s.itemState kind r.item = .out then some 2
  else if s.requestHeld kind r.item r.target r.station r.booking = false then some 3
  else if s.activeElsewhere kind r.item r.station r.booking then some 4
  else none

/-- How an accepted request is handled (R45). -/
inductive Handling
  | retarget | answer | answerQueued | none | append
  deriving DecidableEq, Repr

/-- The row of R45 that applies. -/
def State.handling (s : State) (kind : ItemKind) (r : Request) : Handling :=
  let atTarget := s.sensed kind r.item == some r.target
  if (s.queueOf kind).any fun x => x.item == r.item && x.from r.station r.booking then
    if atTarget && (s.inMotion kind r.item).isNone then .answerQueued else .retarget
  else match s.inMotion kind r.item with
    | some m => if m.from r.station r.booking && m.target == r.target then .none else .append
    | none =>
      if atTarget && !((s.queueOf kind).any fun x => x.item == r.item) then .answer else .append

/-- Capacity of a queue (R45). -/
def queueCap : ItemKind → Nat
  | .element => Config.driveQueueSize
  | .antenna => Config.slewQueueSize

/-- The reason code that refuses a request at reception (R44). -/
def State.requestRefusal (s : State) (kind : ItemKind) (r : Request) : Option Nat :=
  if s.targetInRange kind r.item r.target = false then some 1
  else match s.turnRefusal kind r with
    | some c => some c
    | none =>
      if ((s.queueOf kind).any fun x => x.item == r.item && !x.from r.station r.booking)
          || (match s.inMotion kind r.item with
              | some m => !m.from r.station r.booking
              | none => false) then some 5
      else if s.handling kind r = .append ∧ queueCap kind ≤ (s.queueOf kind).length then some 6
      else none

/-! ## Refusing, answering, queueing (R42, R44, R45) -/

/-- A refusal: a peer's is reported, this station's is handed to its requester (R44). -/
def State.refuse (s : State) (kind : ItemKind) (r : Request) (reason : Nat) : State :=
  if r.station = s.cfg.stationId then s.report [.moveRefused r.booking kind r.item reason]
  else
    let x : RefusedMove :=
      { kind := kindNat kind, item := r.item, target := r.target, station := r.station
        booking := r.booking, reason := reason }
    let o := s.offer x.frame
    if o.2 then o.1
    else s.withEd { s.ed with refusals := appendBounded Config.owedListSize s.ed.refusals x }

/-- The motion a SET answered at target carries (R42): 0, but for a SET still held by its owed mark, which keeps
the motion it completes. -/
def ElView.answeredMotion (v : ElView) : Nat := if v.owed = true ∧ v.state = .set then v.motion else 0

/-- Answered at target: SET, with no motion started (R45). -/
def State.answerAt (s : State) (kind : ItemKind) (item target : Nat) : State :=
  match kind with
  | .element => (s.homeElv item .set (some target) (s.elv item).answeredMotion).report [.elementSet item]
  | .antenna => s.homeAnv item .set (some target)

/-- An accepted request (R45). -/
def State.accept (s : State) (kind : ItemKind) (r : Request) : State :=
  let mine := fun x : Request => x.item == r.item && x.from r.station r.booking
  match s.handling kind r with
  | .retarget => s.withQueue kind ((s.queueOf kind).map fun x => if mine x then { x with target := r.target } else x)
  | .answerQueued => (s.withQueue kind ((s.queueOf kind).filter fun x => !mine x)).answerAt kind r.item r.target
  | .answer => s.answerAt kind r.item r.target
  | .none => s
  | .append => s.withQueue kind (s.queueOf kind ++ [r])

/-- A request for a home item (R44); one for any other item is not acted on. -/
def State.request (s : State) (kind : ItemKind) (r : Request) : State :=
  if s.isHome kind r.item then
    match s.requestRefusal kind r with
    | some c => s.refuse kind r c
    | none => s.accept kind r
  else s

/-! ## Motions (R46, R47) -/

/-- A motion begins (R47). -/
def State.startMotion (s : State) (r : Request) : State :=
  let nominal := ((s.element r.item).map ElementRec.nominal).getD 0
  let s := s.withEd { s.ed with motion := some { req := r, count := 0, timer := 2 * nominal + 100 } }
  s.homeElv r.item .moving (s.elv r.item).pos 0

/-- The head of the drive queue takes its turn (R46). -/
def State.driveTurn (s : State) : State :=
  match s.ed.motion, s.ed.driveQ with
  | none, r :: rest =>
    let s := s.withEd { s.ed with driveQ := rest }
    match s.turnRefusal .element r with
    | some c => s.refuse .element r c
    | none =>
      if s.sensedPos r.item = some r.target then s.answerAt .element r.item r.target
      else s.startMotion r
  | _, _ => s

/-- The target code is sensed (R47). -/
def State.targetSensed (s : State) : State :=
  match s.ed.motion with
  | some m =>
    let el := m.req.item
    let measured := max 1 m.count
    let s := (s.driveElLines el true m.req.target).withEd { s.ed with motion := none }
    let v := s.elv el
    let s := s.putElv el { v with history := appendMotion v.history measured, idle := 0 }
    (s.homeElv el .set (some m.req.target) measured).report [.elementSet el]
  | none => s

/-- The motion timer ends with the lines as given (R47). -/
def State.motionTimeout (s : State) (valid : Bool) (code : Nat) : State :=
  match s.ed.motion with
  | some m =>
    let s1 := s.driveElLines m.req.item valid code
    if m.timer = 0 ∧ s1.sensedPos m.req.item ≠ some m.req.target then
      let s := s1.withEd { s1.ed with motion := none }
      (s.homeElv m.req.item .fault (s.sensedPos m.req.item) 0).report [.elementFault m.req.item]
    else s
  | none => s

/-! ## Slews (R49, R50) -/

/-- A slew begins (R49). -/
def State.startSlew (s : State) (r : Request) : State :=
  let time := (((s.antenna r.item).bind AntennaRec.slew).map fun w =>
    w.time (s.sensedAz r.item) r.target).getD 0
  let s := s.withEd { s.ed with slew := some { req := r, timer := 2 * time + 100 } }
  s.homeAnv r.item .moving (s.anv r.item).az

/-- The head of the slew queue takes its turn (R49). -/
def State.slewTurn (s : State) : State :=
  match s.ed.slew, s.ed.slewQ with
  | none, r :: rest =>
    let s := s.withEd { s.ed with slewQ := rest }
    match s.turnRefusal .antenna r with
    | some c => s.refuse .antenna r c
    | none =>
      if s.sensedAz r.item = some r.target then s.answerAt .antenna r.item r.target
      else s.startSlew r
  | _, _ => s

/-- The sensed azimuth equals the target (R50). -/
def State.slewSensed (s : State) : State :=
  match s.ed.slew with
  | some w =>
    let s := (s.driveAnLines w.req.item w.req.target).withEd { s.ed with slew := none }
    s.homeAnv w.req.item .set (some w.req.target)
  | none => s

/-- The slew timer ends at a sensed code (R50). -/
def State.slewTimeout (s : State) (code : Nat) : State :=
  match s.ed.slew with
  | some w =>
    let s1 := s.driveAnLines w.req.item code
    if w.timer = 0 ∧ s1.sensedAz w.req.item ≠ some w.req.target then
      let s := s1.withEd { s1.ed with slew := none }
      s.homeAnv w.req.item .fault (s.sensedAz w.req.item)
    else s
  | none => s

/-! ## Unbidden changes (R48) -/

/-- An element's lines change with no motion of it in progress (R48). -/
def State.unbiddenElement (s : State) (chan : Nat) (valid : Bool) (code : Nat) : State :=
  let s1 := s.withPins { s.pins with elLines := setAt chan (valid, code % 8) s.pins.elLines }
  match s.ed.elChan[chan]? with
  | some el =>
    if s1.sensedPos el = s.sensedPos el ∨ (s1.inMotion .element el).isSome
        ∨ (s1.elv el).state = .out then s1
    else s1.homeElv el .fault (s1.sensedPos el) 0
  | none => s1

/-- A slewing antenna's lines change with no slew of it in progress (R48, R50). -/
def State.unbiddenAntenna (s : State) (chan code : Nat) : State :=
  let s1 := s.withPins { s.pins with anLines := setAt chan (code % 512) s.pins.anLines }
  match s.ed.anChan[chan]? with
  | some an =>
    if s1.sensedAz an = s.sensedAz an ∨ (s1.inMotion .antenna an).isSome
        ∨ (s1.anv an).state = .out ∨ ((s1.antenna an).bind AntennaRec.slew) = none then s1
    else s1.homeAnv an .fault (s1.sensedAz an)
  | none => s1

/-! ## Exercise (R52–R54) -/

/-- A home element is due for exercise (R52); tEXR is held in ticks. -/
def State.exerciseDue (s : State) (el : Nat) : Bool :=
  decide (s.cfg.tEXR ≠ 0) && (s.elv el).state != .out && decide (s.cfg.tEXR ≤ (s.elv el).idle * 100)

/-- A home element is overdue (R52). -/
def State.exerciseOverdue (s : State) (el : Nat) : Bool :=
  decide (s.cfg.tEXR ≠ 0) && (s.elv el).state != .out
    && decide (3 * s.cfg.tEXR < (s.elv el).idle * 100)

/-- One idle second of one home element (R52). -/
def State.idleOne (s : State) (el : Nat) : State :=
  let v := s.elv el
  let s1 := s.putElv el { v with idle := min Config.idleLimit (v.idle + 1) }
  if s1.exerciseOverdue el && !s.exerciseOverdue el then
    s1.withFlags { s1.flags with elementOverdue := true }
  else s1

/-- An idle second (R52). -/
def State.idleSecond (s : State) : State := s.homeElements.foldl State.idleOne s

/-- A plan is in SWITCHING through ENDING. -/
def PlanState.current : PlanState → Bool
  | .switching | .tuning | .rampWait | .ramping | .onAir | .ending => true
  | _ => false

/-- The scan may run (R53). -/
def State.scanOpen (s : State) : Bool :=
  s.phase == .running && s.gateOpen && s.ed.exercise.isNone
    && (s.ts.state == .idle || s.ts.state == .tuned)
    && !(s.cp.plans.any fun p => p.state.current)

/-- No held booking of any station includes the element over [now, now + tEXL) (R53). -/
def State.exerciseClear (s : State) (el : Nat) : Bool :=
  let free := fun d : Desc =>
    !d.includes .element el || !overlaps d.start d.stop s.now (addT s.now s.cfg.tEXL)
  (s.cm.own.all fun b => free b.desc) && (s.cm.map.all fun r => !r.held || free r.desc)

/-- An element the scan takes (R53). -/
def State.scanTakes (s : State) (el : Nat) : Bool :=
  s.exerciseDue el && (s.elv el).state == .set
    && !(s.ed.driveQ.any fun r => r.item == el) && (s.inMotion .element el).isNone
    && s.exerciseClear el

/-- The home elements in scan order: after the pointer, then from the lowest (R53). -/
def State.scanOrder (s : State) : List Nat :=
  match s.ed.exPtr with
  | none => s.homeElements
  | some p => (s.homeElements.filter fun e => decide (p < e))
      ++ s.homeElements.filter fun e => decide (e ≤ p)

/-- The exercise scan (R53). -/
def State.exerciseScan (s : State) : State :=
  if s.scanOpen then
    match s.scanOrder.find? s.scanTakes with
    | some el =>
      let s := s.withEd { s.ed with exPtr := some el }
      let pos := ((s.elv el).pos).getD 0
      let r := s.requestBooking .exercise
        { holder := s.cfg.stationId, num := 0, cls := 0, stamp := 0, start := s.now
          stop := addT s.now (2 * s.estimate el + 200), antenna := none, azimuth := none
          steps := [(el, pos)] }
      match r.2 with
      | .made num => r.1.withEd { r.1.ed with
          exercise := some { element := el, booking := num, origin := pos, stage := .claimed } }
      | .refused _ => r.1
    | none => s
  else s

/-- The exercise is abandoned (R54). -/
def State.abandonExercise (s : State) : State :=
  match s.ed.exercise with
  | some x =>
    let s := s.withEd { s.ed with
      exercise := none
      driveQ := s.ed.driveQ.filter fun r => !r.from s.cfg.stationId x.booking }
    s.releaseBooking x.booking
  | none => s

/-- An exercise request for a target (R54). -/
def State.exerciseRequest (s : State) (x : Exercise) (target : Nat) : State :=
  s.request .element
    { item := x.element, target := target, station := s.cfg.stationId, booking := x.booking }

/-- What the claim map tells the exercise (R54). BOOKED, it begins at once, and its booking is MOVING (R63, assumption 46): an
OBJECT or a displacement taken after the listen timer's end at the same tick finds it so and has no effect, though R62 has the
booking end withdrawn in both orders: the model's choice (DESIGN CHOICE, assumption 63). -/
def State.exerciseTold (s : State) (num : Nat) (what : Told) : State :=
  match s.ed.exercise with
  | some x =>
    if x.booking = num then
      match what with
      | .booked =>
        if x.stage = .claimed then
          let r := s.beginMoving num
          let count := ((s.element x.element).map ElementRec.count).getD 1
          (r.1.withEd { r.1.ed with exercise := some { x with stage := .outward } }).exerciseRequest x
            ((x.origin + 1) % count)
        else s
      | .withdrawn | .displaced | .dropped | .expired | .stopped => s.abandonExercise
      | _ => s
    else s
  | none => s

/-- The element of the exercise answered SET (R54). A request answered at target without a motion (R45, R46) counts
as that SET: the model's choice (assumption 51). -/
def State.exerciseSet (s : State) (el : Nat) : State :=
  match s.ed.exercise with
  | some x =>
    if x.element = el then
      match x.stage with
      | .claimed => s
      | .outward =>
        (s.withEd { s.ed with exercise := some { x with stage := .returning } }).exerciseRequest x x.origin
      | .returning => (s.withEd { s.ed with exercise := none }).releaseBooking x.booking
    else s
  | none => s

/-- The exercise's element ended in FAULT, or its request was refused (R54). -/
def State.exerciseStops (s : State) (el : Nat) : State :=
  match s.ed.exercise with
  | some x => if x.element = el then s.abandonExercise else s
  | none => s

/-! ## Service (R51) -/

/-- Every queued request for an item is removed and refused OUT-OF-SERVICE (R51), in queue order: the model's choice
(assumption 58). -/
def State.refuseQueued (s : State) (kind : ItemKind) (item : Nat) : State :=
  ((s.queueOf kind).filter fun r => r.item == item).foldl (fun s r => s.refuse kind r 2)
    (s.withQueue kind ((s.queueOf kind).filter fun r => r.item != item))

/-- SERVICE out (R51). -/
def State.serviceOut (s : State) (kind : ItemKind) (item : Nat) : State :=
  if s.itemState kind item = .out then s
  else match kind with
    | .element =>
      let s := if (s.inMotion .element item).isSome then s.withEd { s.ed with motion := none } else s
      ((s.refuseQueued .element item).homeElv item .out (s.elv item).pos 0).exerciseStops item
    | .antenna =>
      let s := if (s.inMotion .antenna item).isSome then s.withEd { s.ed with slew := none } else s
      (s.refuseQueued .antenna item).homeAnv item .out (s.anv item).az

/-- What an item not OUT is sensed as (R43, R51): SET when valid, otherwise FAULT. -/
def State.senseElement (s : State) (el : Nat) : ViewState × Option Nat :=
  match s.sensedPos el with
  | some p => (.set, some p)
  | none => (.fault, none)

def State.senseAntenna (s : State) (an : Nat) : ViewState × Option Nat :=
  if ((s.antenna an).bind AntennaRec.slew).isNone then (.set, none)
  else match s.sensedAz an with
    | some a => (.set, some a)
    | none => (.fault, none)

/-- SERVICE in (R51, R52). -/
def State.serviceIn (s : State) (kind : ItemKind) (item : Nat) : State :=
  if s.itemState kind item = .out then
    match kind with
    | .element =>
      let v := s.senseElement item
      (s.putElv item { s.elv item with idle := s.cfg.tEXR / 100 }).homeElv item v.1 v.2 0
    | .antenna =>
      let v := s.senseAntenna item
      s.homeAnv item v.1 v.2
  else s

/-! ## Phases (R43, R55, R56) -/

/-- The view entry an element takes at the entry to JOINING (R43, R56). A home item that stays OUT through a RESTART keeps
its position as it was and is not sensed again: the model's choice (assumption 53). -/
def State.joinElv (s : State) (el : Nat) (r : ElementRec) : ElView :=
  let v := s.elv el
  let v := { v with motion := 0, owed := false }
  if s.homeHere r.home then
    let v := { v with homeAbsent := false, owed := true }
    if s.ed.everStarted = false ∧ r.inService = false then
      { v with state := .out, pos := s.sensedPos el }
    else if s.ed.everStarted = true ∧ v.state = .out then v
    else { v with state := (s.senseElement el).1, pos := (s.senseElement el).2 }
  else { v with state := .unknown, pos := none, homeAbsent := true }

/-- The same for an antenna. -/
def State.joinAnv (s : State) (an : Nat) (r : AntennaRec) : AnView :=
  let v := { s.anv an with owed := false }
  if s.homeHere r.home then
    let v := { v with homeAbsent := false, owed := true }
    if s.ed.everStarted = true ∧ v.state = .out then v
    else { v with state := (s.senseAntenna an).1, az := (s.senseAntenna an).2 }
  else { v with state := .unknown, az := none, homeAbsent := true }

/-- ED at the entry to JOINING: channels (R204), views and reports (R43), home absent marks (R39), what
RESTART empties (R56), and at the first START the idle times (R52). -/
def State.edJoin (s : State) : State :=
  let first := !s.ed.everStarted
  let s := s.withEd { s.ed with
    elChan := s.homeElements.take Config.homeElementLimit
    anChan := s.homeAntennas.take Config.homeAntennaLimit
    driveQ := [], slewQ := [], motion := none, slew := none, refusals := [], exPtr := none
    exercise := none }
  let s := s.withEd { s.ed with
    elView := s.ed.elements.map fun p =>
      (p.1, { s.joinElv p.1 p.2 with idle := if first then 0 else (s.elv p.1).idle })
    anView := s.ed.antennas.map fun p => (p.1, s.joinAnv p.1 p.2)
    everStarted := true }
  (s.offerPositions s.owedItems).1

/-- Entry to HALTED or LINK-FAULT (R55). -/
def State.edStop (s : State) : State :=
  let s := s.abandonExercise
  s.withEd { s.ed with
    driveQ := [], slewQ := [], motion := none, slew := none, refusals := []
    elView := s.ed.elView.map fun p => (p.1, { p.2 with owed := false })
    anView := s.ed.anView.map fun p => (p.1, { p.2 with owed := false }) }

/-! ## Outputs (R47, R204) -/

/-- EDRV: the drive enables by channel; ETGT: the target of the element being driven. -/
def State.edrv (s : State) : List Bool :=
  (List.range Config.homeElementLimit).map fun c =>
    match s.ed.motion, s.ed.elChan[c]? with
    | some m, some el => m.req.item == el
    | _, _ => false

/-- ASLW: the channel of the antenna being slewed and the side of its target, true toward the higher
azimuth. The limits do not wrap, so that side is the direction that stays within them (R49). Where the sensed azimuth is not
valid, at the start of the slew or during it, R49 and R204 give no direction, and it is a free value (assumption 59). -/
def State.aslw (s : State) : Option (Nat × Option Bool) :=
  match s.ed.slew with
  | some w =>
    (channelOf w.req.item s.ed.anChan).map fun c =>
      (c, match s.sensedAz w.req.item with
        | some a => some (decide (a < w.req.target))
        | none => Config.blindSlew s.absNow w.req.item w.req.target)
  | none => none

def State.etgt (s : State) : Nat :=
  match s.ed.motion with
  | some m => m.req.target
  | none => 0

end Sys2Proof.Machine
end

