-- ==== Sys2Proof/Machine/RampLog.lean ====
section
/-! DEFINITION. The hall ramp log (chapter 5): the window rule, picks, the re-check by link order,
withdrawal, peer intents, expiry. -/

namespace Sys2Proof.Machine

open Sys2Proof

/-! ## Plans as the ramp log and the sequencer see them -/

/-- Change the plan with an id. -/
def State.updPlan (s : State) (id : Nat) (f : Plan → Plan) : State :=
  s.withCp { s.cp with plans := s.cp.plans.map fun p => if p.id = id then f p else p }

/-- A plan shows the intent the ramp log reports (R147). -/
def State.showIntent (s : State) (id : Nat) (i : Option (Nat × Nat)) : State :=
  s.updPlan id fun p => { p with intent := i }

/-- Plans that show intent `num` show none any more (R147). -/
def State.hideIntent (s : State) (num : Nat) : State :=
  s.withCp { s.cp with plans := s.cp.plans.map fun p =>
    match p.intent with
    | some (n, _) => if n = num then { p with intent := none } else p
    | none => p }

/-! ## The list (R84) -/

/-- Order of intents by tick, then station; ticks are compared from tWRMP before now (R84). -/
def intentBefore (base : Nat) (x y : Intent) : Bool :=
  decide (fd base x.tick < fd base y.tick)
    || (decide (fd base x.tick = fd base y.tick) && decide (x.station < y.station))

/-- The tick from which the log's ticks are compared (R84). -/
def State.rampBase (s : State) : Nat := subT s.now s.cfg.tWRMP

/-- Put a record in its place (R84). -/
def State.insertIntent (s : State) (x : Intent) : State :=
  s.withRl { s.rl with intents := insertBy (intentBefore s.rampBase) x s.rl.intents }

/-- Keep the records that `keep` accepts. -/
def State.filterIntents (s : State) (keep : Intent → Bool) : State :=
  s.withRl { s.rl with intents := s.rl.intents.filter keep }

/-- An own intent in UNSENT or ANNOUNCED: the pending intent (R84). -/
def Intent.isPending (x : Intent) : Bool :=
  x.own == some .unsent || x.own == some .announced

def State.pendingIntent (s : State) : Option Intent := s.rl.intents.find? Intent.isPending

/-! ## The window rule (R85) -/

/-- How many of `ticks` lie in the window of `w` ticks that begins at `start`. -/
def inRampWindow (w start : Nat) (ticks : List Nat) : Nat :=
  ticks.countP fun x => decide (fd start x < w)

/-- The window rule at `t` (R85): no window containing `t` holds `n` of `ticks`. Of the windows that
contain `t`, those that begin at `t` or at one of the ticks hold the most. -/
def windowRule (n w : Nat) (ticks : List Nat) (t : Nat) : Bool :=
  (t :: ticks.filter fun x => decide (fd x t < w)).all fun start =>
    decide (inRampWindow w start ticks + 1 ≤ n)

/-! ## The search (R87) -/

/-- The first of `k` ticks from `t` downward that `ok` accepts. -/
def searchBack (ok : Nat → Bool) : Nat → Nat → Option Nat
  | 0, _ => none
  | k + 1, t => if ok t then some t else searchBack ok k (subT t 1)

/-- The first of `k` ticks from `t` upward that `ok` accepts. -/
def searchForward (ok : Nat → Bool) : Nat → Nat → Option Nat
  | 0, _ => none
  | k + 1, t => if ok t then some t else searchForward ok k (addT t 1)

/-- The two passes of R87 for desired tick `d`, earliest `l` and slack `slk`, ending before `limit`:
backward from `d` to the later of `l` and `d` − `slk`, then forward from after `d`. A tick at or after
the limit is no tick. -/
def searchTick (ok : Nat → Bool) (d l slk limit : Nat) : Option Nat :=
  match searchBack ok (min (fd l d) slk + 1) d with
  | some t => if atOrAfter limit t then none else some t
  | none => searchForward ok (afterBy d limit - 1) (addT d 1)

/-- L and D raised to at least now when L is before now (R86). -/
def PickReq.raise (q : PickReq) (now : Nat) : PickReq :=
  if atOrAfter now q.lowest then q
  else { q with lowest := now, desired := later q.desired now }

/-- The tick a request finds in the log as it stands (R87). -/
def State.findTick (s : State) (q : PickReq) : Option Nat :=
  searchTick (windowRule s.cfg.nRMP s.cfg.tWRMP (s.rl.intents.map Intent.tick))
    q.desired q.lowest s.cfg.tSLK q.limit

/-! ## Withdrawal (R93) -/

/-- Offer a RAMP-CANCEL; refused, it is owed (R93). -/
def State.offerCancel (s : State) (num : Nat) : State :=
  let r := s.offer (.rampCancel num)
  if r.2 then r.1
  else s.withRl { s.rl with owedCancel := appendBounded Config.owedCancelSize s.rl.owedCancel num }

/-- Withdraw the pending intent, the held request kept (R93). -/
def State.withdrawIntent (s : State) : State :=
  match s.pendingIntent with
  | none => s
  | some x =>
    let s := (s.filterIntents fun y => !y.isPending).hideIntent x.num
    if x.own = some .unsent then s.withRl { s.rl with unsent := s.rl.unsent ++ [x.num] }
    else s.offerCancel x.num

/-- Withdrawal at the requester's request: the held request is dropped as well (R93). -/
def State.cancelPick (s : State) : State :=
  let s := s.withdrawIntent
  s.withRl { s.rl with request := none }

/-! ## Picks (R86, R88) -/

/-- The latest peer record (R94): latest tick, then highest station. Of two stored records of one station at one latest tick
the rule names none; the last of them in the log's list is taken: the model's choice (assumption 55). -/
def latestPeer (base : Nat) (l : List Intent) : Option Intent :=
  (l.filter fun x => x.own.isNone).getLast?.map fun first =>
    (l.filter fun x => x.own.isNone).foldl (fun b x => if intentBefore base b x then x else b) first

/-- Make room for an own intent when the log is full (R94). With 32 own intents there is no peer record to discard, and the
new one enters as a 33rd: the model's choice (DESIGN CHOICE, assumption 61). -/
def State.roomForOwn (s : State) : State :=
  if s.rl.intents.length < Config.rampLogSize then s
  else match latestPeer s.rampBase s.rl.intents with
    | some y => s.filterIntents fun x => !(x.own.isNone && x.station == y.station && x.num == y.num)
    | none => s

/-- Numbers an own intent may not take (R84). -/
def State.intentNumbersUsed (s : State) : List Nat :=
  ((s.rl.intents.filter fun x => x.own.isSome).map Intent.num) ++ s.rl.unsent

/-- Offer the tick found for the held request `q` as a RAMP-INTENT (R88). A full log makes room when the offer is taken, and not at an offer
refused: the model's choice (R94, assumption 51). Refused, the plan shows no intent until the pick is made (R88), also at a
restart pick, whose plan R150 lets keep its STARTED intent until the pick replaces it: the model's choice (DESIGN CHOICE,
assumption 61). -/
def State.offerIntent (s : State) (q : PickReq) (t : Nat) : State :=
  let num := nextNumber s.rl.numCtr s.intentNumbersUsed
  let r := s.offer (.rampIntent num t)
  if r.2 then
    let s := r.1.roomForOwn.insertIntent
      { station := s.cfg.stationId, num := num, tick := t, order := none, own := some .unsent }
    let s := s.withRl { s.rl with numCtr := num, request := some { q with waiting := false } }
    (s.showIntent q.plan (some (num, t))).report [.pickMade q.plan q.bySeq]
  else
    (s.withRl { s.rl with request := some { q with waiting := true } }).showIntent q.plan none

/-- Search with the bounds of `search`, raised to at least now, and offer the tick for the held request `q`, which keeps
the bounds its requester gave (R86, R87, R88). -/
def State.pickWithin (s : State) (q search : PickReq) : State :=
  match s.findTick (search.raise s.now) with
  | some t => s.offerIntent q t
  | none => (s.withRl { s.rl with request := none }).report [.pickRefused q.plan q.bySeq]

/-- Search and offer with the request's own bounds. -/
def State.pickFrom (s : State) (q : PickReq) : State := s.pickWithin q q

/-- A pick request (R86): refused outside RUNNING; a pending intent is withdrawn first. -/
def State.requestPick (s : State) (q : PickReq) : State :=
  if s.phase = .running then s.withdrawIntent.pickFrom q
  else s.report [.pickRefused q.plan q.bySeq]

/-- Pick again from the held request (R88, R89). -/
def State.pickAgain (s : State) : State :=
  match s.rl.request with
  | some q => s.pickFrom q
  | none => s

/-! ## Reports of the link (R88, R89) -/

/-- The re-check by link order (R89): the windows containing the intent's tick, counting the intents
whose link order precedes `order`. -/
def State.recheckPasses (s : State) (num tick order : Nat) : Bool :=
  windowRule s.cfg.nRMP s.cfg.tWRMP
    ((s.rl.intents.filter fun x =>
        !(x.own.isSome && x.num == num)
        && (match x.order with
            | some o => seqPrecedes o order
            | none => false)).map Intent.tick) tick

/-- The own UNSENT intent with a number. -/
def State.unsentIntent (s : State) (num : Nat) : Option Intent :=
  s.rl.intents.find? fun x => x.own == some .unsent && x.num == num

/-- The own UNSENT intent `num` becomes ANNOUNCED at link order `order` (R89). -/
def Intent.announce (num order : Nat) (y : Intent) : Intent :=
  if y.own = some .unsent ∧ y.num = num then
    { y with order := some order, own := some .announced }
  else y

/-- SENT report of a RAMP-INTENT, with its reception sequence number (R88, R89). -/
def State.intentSent (s : State) (num order : Nat) : State :=
  if s.rl.unsent.contains num then
    (s.withRl { s.rl with unsent := s.rl.unsent.filter (· != num) }).offerCancel num
  else match s.unsentIntent num with
    | none => s
    | some x =>
      if s.recheckPasses num x.tick order then
        s.withRl { s.rl with intents := s.rl.intents.map (Intent.announce num order) }
      else
        (((s.filterIntents fun y => !y.isPending).hideIntent num).offerCancel num).pickAgain

/-- DROPPED report of a RAMP-INTENT (R88). -/
def State.intentDropped (s : State) (num : Nat) : State :=
  if s.rl.unsent.contains num then
    s.withRl { s.rl with unsent := s.rl.unsent.filter (· != num) }
  else match s.unsentIntent num with
    | none => s
    | some _ => ((s.filterIntents fun y => !y.isPending).hideIntent num).pickAgain

/-- Offer owed RAMP-CANCELs, oldest first, until one is refused (R93). -/
def State.offerOwedCancels (s : State) : Nat → State
  | 0 => s
  | k + 1 =>
    match s.rl.owedCancel with
    | [] => s
    | n :: rest =>
      let r := s.offer (.rampCancel n)
      if r.2 then (r.1.withRl { r.1.rl with owedCancel := rest }).offerOwedCancels k else s

/-- RL's pending slot has emptied (R88, R93). -/
def State.rampSlotEmptied (s : State) : State :=
  let s := s.offerOwedCancels Config.owedCancelSize
  match s.rl.request with
  | some q => if q.waiting then s.pickFrom q else s
  | none => s

/-! ## Late tune end (R90) -/

/-- The planner reports its plan's tune end; `q` is what a fresh request would be (R90). -/
def State.tuneEnded (s : State) (q : PickReq) : State :=
  match s.pendingIntent with
  | some x => if atOrAfter s.now x.tick then s else s.requestPick q
  | none =>
    match s.rl.request with
    | some held => if held.waiting then s else s.requestPick q
    | none => s.requestPick q

/-! ## The start check (R91) -/

/-- Fewer than NRMP other intents lie in the last tWRMP ticks (R91). -/
def State.startCheckPasses (s : State) (num : Nat) : Bool :=
  decide ((s.rl.intents.countP fun x =>
    !(x.own.isSome && x.num == num) && decide (fd x.tick s.now < s.cfg.tWRMP)) < s.cfg.nRMP)

/-- A passed check starts the intent (R91). -/
def State.startIntent (s : State) (num : Nat) : State :=
  s.withRl { s.rl with
    request := none
    intents := s.rl.intents.map fun y =>
      if y.isPending && y.num == num then { y with own := some .started } else y }

/-- A failed check withdraws the intent and picks again from the held request with D and L at now; the bounds held stay
those the requester gave (R86, R91). -/
def State.failStartCheck (s : State) : State :=
  let s := s.withdrawIntent
  match s.rl.request with
  | some q => s.pickWithin q { q with desired := s.now, lowest := s.now }
  | none => s

/-! ## Peer intents (R94, R95) -/

/-- A tick the log does not take (R94). -/
def State.intentOutOfSpan (s : State) (t : Nat) : Bool :=
  !after s.now (addT t s.cfg.tWRMP) || (after s.now t && decide (Config.maxInterval < fd s.now t))

/-- A good RAMP-INTENT, numbered `order` (R94). A tick outside the week is not acted on (R200). With the log full and
the latest peer record of the same station at the same tick, the stored record goes and the new one is kept: the
model's choice (assumption 51). -/
def State.hearIntent (s : State) (sender num t order : Nat) : State :=
  let x : Intent := { station := sender, num := num, tick := t, order := some order, own := none }
  let same := fun y : Intent => y.own.isNone && y.station == sender && y.num == num
  if Config.weekTicks ≤ t ∨ s.intentOutOfSpan t then s
  else if s.rl.intents.any same then (s.filterIntents fun y => !same y).insertIntent x
  else if s.rl.intents.length < Config.rampLogSize then s.insertIntent x
  else match latestPeer s.rampBase s.rl.intents with
    | some y =>
      if intentBefore s.rampBase y x then s
      else (s.filterIntents fun z => !(z.own.isNone && z.station == y.station && z.num == y.num)).insertIntent x
    | none => s

/-- A good RAMP-CANCEL (R95). -/
def State.hearCancel (s : State) (sender num : Nat) : State :=
  s.filterIntents fun x => !(x.own.isNone && x.station == sender && x.num == num)

/-- A record's expiry is due (R95). -/
def State.intentExpired (s : State) (x : Intent) : Bool := due (addT x.tick s.cfg.tWRMP) s.now

/-- Expiry of every record whose expiry is due (R95): a plan that shows an expired own intent shows none any more
(R147), and an expired pending intent drops the held request. -/
def State.expireIntents (s : State) : State :=
  let gone := s.rl.intents.filter fun x => x.own.isSome && s.intentExpired x
  let s1 := gone.foldl (fun s x => s.hideIntent x.num) (s.filterIntents fun x => !s.intentExpired x)
  if gone.any Intent.isPending then s1.withRl { s1.rl with request := none } else s1

/-- An absent peer's records leave (R95). -/
def State.dropPeerIntents (s : State) (station : Nat) : State :=
  s.filterIntents fun x => !(x.own.isNone && x.station == station)

/-! ## Phases (R96, R97) -/

/-- Entry to LINK-FAULT (R96). -/
def State.rampLinkFault (s : State) : State :=
  let s := s.withCp { s.cp with plans := s.cp.plans.map fun p => { p with intent := none } }
  s.withRl { s.rl with
    intents := s.rl.intents.filter fun x => x.own.isNone
    request := none, owedCancel := [], unsent := [] }

/-- RESTART (R97): the number counter is kept. -/
def RampLog.restart (r : RampLog) : RampLog := { RampLog.reset with numCtr := r.numCtr }

end Sys2Proof.Machine
end

