-- ==== Sys2Proof/Machine/Sequencer.lean ====
section
/-! DEFINITION. The transmitter sequencer (chapter 9): state changes, the RF permit, trips, tune, ramp,
fold-back and recovery, restart, lockout. -/

namespace Sys2Proof.Machine

open Sys2Proof

/-! ## The current plan (R131) -/

def State.currentPlan (s : State) : Option Plan := s.cp.plans.find? fun p => p.state.current

def State.plan (s : State) (id : Nat) : Option Plan := s.cp.plans.find? fun p => p.id == id

/-- The booking of the current plan. -/
def State.currentBooking (s : State) : Option OwnBooking :=
  s.currentPlan.bind fun p => p.booking.bind s.ownBooking

/-! ## The RF permit (R164) -/

/-- States in which the permit may hold. -/
def SeqState.permits : SeqState → Bool
  | .tuning | .ramping | .onAir | .down => true
  | _ => false

/-- A plan's route stands: its booking is CONFIRMED or ACTIVE and every item stands (R164). -/
def State.pathWhole (s : State) : Bool :=
  match s.currentBooking with
  | some b => (b.state == .confirmed || b.state == .active) && s.stands b.desc
  | none => false

/-- The RF permit (R164). -/
def State.permit (s : State) : Bool :=
  Machine.SeqState.permits s.ts.state && s.pathWhole && dispatchesIn s.phase

/-- The RF-inhibit output is asserted while the permit does not hold (R164). -/
def State.inhibit (s : State) : Bool := !s.permit

/-! ## State changes and what follows them (R166, R172) -/

/-- The meter watch runs (R166). -/
def State.meterRuns (s : State) : Bool :=
  s.ts.state == .ramping || s.ts.state == .onAir || (s.ts.state == .tuning && s.pins.rfs)

/-- RF in these states with the inhibit asserted is stray (R172). -/
def State.strayRuns (s : State) : Bool :=
  s.pins.rfs && s.phase != .config
    && (s.ts.state == .idle || s.ts.state == .tuned || s.ts.state == .tripped
      || s.ts.state == .lockout)

/-- tOFO and tSRF: tDWN + tGRC (R163, R172). -/
def State.offLimit (s : State) : Nat := s.cfg.tDWN + s.cfg.tGRC

/-- The meter watch and the stray-RF timer start or stop with their conditions; METER-LOST ends with
the watch. -/
def State.retime (s : State) : State :=
  s.withTs { s.ts with
    meterGap := if s.meterRuns then some (s.ts.meterGap.getD 0) else none
    meterLost := s.ts.meterLost && s.meterRuns
    strayT := if s.strayRuns then some (s.ts.strayT.getD s.offLimit) else none }

/-- The sequencer enters a state: timers follow, the claim map tests its release condition. -/
def State.setSeq (s : State) (st : SeqState) : State :=
  ((s.withTs { s.ts with state := st }).retime).releaseTest

/-- A command on the transmitter line (R159). -/
def State.send (s : State) (m : TxMsg) : State := s.withTs { s.ts with sent := s.ts.sent ++ [m] }

/-! ## Trips and lockout (R173, R174, R177) -/

/-- Entries past the window leave the trip log (R174). -/
def State.dropTrips (s : State) : State :=
  s.withTs { s.ts with
    tripLog := s.ts.tripLog.filter fun e => !due (addT e.1 s.cfg.tWTRP) s.now }

/-- The timers a trip stops (R173). -/
def Sequencer.stopTimers (t : Sequencer) : Sequencer :=
  { t with
    tuneT := none, atpT := none, rfoffT := none, meterGap := none, foldT := none, floorT := none
    recT := none, meterLost := false }

/-- Entry to LOCKOUT (R177). -/
def State.enterLockout (s : State) : State :=
  let s := s.send .down
  let s := s.withTs { s.ts with restartT := none, restartWait := false }
  (s.cancelPick.setSeq .lockout).report [.lockedOut]

/-- Entry to TRIPPED (R173). -/
def State.enterTripped (s : State) : State :=
  let s := s.withTs { s.ts with restartT := some s.cfg.tRST, restartWait := false }
  (s.setSeq .tripped).report [.tripped, .leaveTripped]

/-- A trip (R173). Its entry is appended, and so stands last also where a backward step has left an entry of a later tick
before it, though R174 keeps the log in order of trip tick: the model's choice (assumption 53). -/
def State.trip (s : State) (c : TripCause) : State :=
  let s := (s.withTs s.ts.stopTimers).dropTrips
  let s := s.withTs { s.ts with tripLog := s.ts.tripLog ++ [(s.now, c)] }
  if s.cfg.nTRP ≤ s.ts.tripLog.length then s.enterLockout else s.enterTripped

/-- An RF-HOLD trip: DOWN is sent, by the entry to LOCKOUT when the trip makes one (R163, R172). -/
def State.tripHold (s : State) : State :=
  let s := s.trip .rfHold
  if s.ts.state = .lockout then s else s.send .down

/-- The permit is tested (R164, R165). -/
def State.permitTest (s : State) : State :=
  match s.ts.state with
  | .tuning | .ramping | .onAir => if s.permit then s else s.trip .permitLoss
  | .tuned => if s.pathWhole then s else s.trip .permitLoss
  | _ => s

/-! ## Tune (R160, R161) -/

/-- The planner's tune command (R160): positions, or none for an autotune. -/
def State.commandTune (s : State) (freq program t : Nat) (pos : Option (Nat × Nat × Nat)) : State :=
  match s.ts.state with
  | .idle =>
    let s := s.send (.set freq program)
    let s := match pos with
      | some (tune, load, band) => (s.send (.preset tune load band)).send .trim
      | none => s.send .autotune
    let s := s.withTs { s.ts with
      tuneT := some (t + s.cfg.tGRC), tuneFailed := false, upSent := false }
    (s.setSeq .tuning).report [.permitTest]
  | .lockout => s
  | _ => s.report [.tuneFailed]

/-- A TUNED report (R161). One that comes after the tune has ended, as in STOPPING after the entry's DOWN, is discarded
with its positions, though R128 takes the result of a tune under way: the model's choice (assumption 51). -/
def State.takeTuned (s : State) (tune load band : Nat) : State :=
  if s.ts.state = .tuning ∧ s.ts.tuneFailed = false then
    let s := (s.withTs { s.ts with tuneT := none }).setSeq .tuned
    let s := match s.currentPlan with
      | some p => s.storeTune p.freq p.ant tune load band
      | none => s
    s.report [.permitTest, .tuned]
  else s

/-- A TUNE-FAIL report (R161). -/
def State.takeTuneFail (s : State) (code : Nat) : State :=
  if s.ts.state = .tuning ∧ s.ts.tuneFailed = false then
    (s.withTs { s.ts with tuneT := none, lastTuneFail := some code, tuneFailed := true }).report
      [.tuneFailed]
  else s

/-- The tune timer ends (R161). -/
def State.tuneTimeout (s : State) : State :=
  if s.ts.state = .tuning ∧ s.ts.tuneT = some 0 then
    (s.withTs { s.ts with tuneT := none, tuneFailed := true }).report [.tuneFailed]
  else s

/-! ## Ramp-up, ramp-down (R162, R163) -/

/-- UP (R162): the first UP of a plan takes its commanded power; a restart, after an UP has been sent for it, keeps P
and the fold state. A restart after a trip taken in TUNED before any UP of the plan is both in R162's words; it takes the
commanded power, as a first ramp-up: the model's choice (DESIGN CHOICE, assumption 62). -/
def State.rampUp (s : State) (power : Nat) : State :=
  if s.ts.state = .tuned then
    let s := if s.ts.upSent then s
      else s.withTs { s.ts with
        p := power, ceiling := power, foldCount := 0, foldT := none, floorT := none, recT := none }
    let s := s.send (.up s.ts.p)
    (s.withTs { s.ts with atpT := some (s.cfg.tRMP + s.cfg.tGRC), upSent := true }).setSeq .ramping
  else s

/-- The planner's ramp-down command (R163). -/
def State.rampDown (s : State) : State :=
  match s.ts.state with
  | .tuning | .tuned | .ramping | .onAir =>
    let s := s.send .down
    (s.withTs { s.ts.stopTimers with rfoffT := some s.offLimit, rfOffTaken := false }).setSeq .down
  | _ => s

/-- DOWN is left for IDLE when RF-OFF has been taken and RF-sense is low (R163). -/
def State.downTest (s : State) : State :=
  if s.ts.state = .down ∧ s.ts.rfOffTaken = true ∧ s.pins.rfs = false then
    (s.withTs { s.ts with rfoffT := none }).setSeq .idle
  else s

/-- An RF-OFF report (R163). -/
def State.takeRfOff (s : State) : State :=
  if s.ts.state = .down then (s.withTs { s.ts with rfOffTaken := true }).downTest else s

/-- One more line error, stopping at 255 (R159). -/
def State.lineError (s : State) : State :=
  s.withTs { s.ts with lineErr := min Config.errorCountLimit (s.ts.lineErr + 1) }

/-- The RF-OFF timer ends (R163). A DOWN that a RESTART from LINK-FAULT and then a STOP have carried into HALTED ends as
elsewhere, with its RF-HOLD trip, though R180's row for HALTED names stray-RF and FAULT recording only: the model's
choice (assumption 53). -/
def State.rfOffTimeout (s : State) : State :=
  if s.ts.state = .down ∧ s.ts.rfoffT = some 0 then
    if s.pins.rfs then s.tripHold
    else (s.withTs { s.ts with rfoffT := none }).lineError.setSeq .idle
  else s

/-! ## Fold-back and recovery (R167–R170) -/

/-- One step of FOLD per cent, at least 1 kW (R168, R170). -/
def foldStep (p fold : Nat) : Nat := max 1 (p * fold / 100)

/-- A fold (R168). -/
def State.fold (s : State) : State :=
  let p := max s.cfg.pFlr (s.ts.p - foldStep s.ts.p s.cfg.fold)
  let n := min 65535 (s.ts.foldCount + 1)
  let s := (s.withTs { s.ts with p := p, foldCount := n, foldT := some s.cfg.tFLD, recT := none }).send
    (.power p)
  match s.currentPlan with
  | some q => s.updPlan q.id fun q => { q with folds := n }
  | none => s

/-- The fold, floor and recovery rules for a ratio below QTRP (R168–R170). -/
def State.foldRules (s : State) (q : Nat) : State :=
  if s.cfg.qWrn ≤ q then
    let s := s.withTs { s.ts with recT := none }
    if s.cfg.pFlr < s.ts.p then
      if s.ts.foldT.isNone then s.fold else s
    else s.withTs { s.ts with floorT := some (s.ts.floorT.getD s.cfg.tFLD) }
  else
    let s := s.withTs { s.ts with floorT := none }
    if s.cfg.qWrn / 2 ≤ q then s.withTs { s.ts with recT := none }
    else if s.ts.p < s.ts.ceiling then
      s.withTs { s.ts with recT := some (s.ts.recT.getD s.cfg.tRCV) }
    else s

/-- The reflected ratio in ‰ (R167). -/
def reflectedRatio (pf pr : Nat) : Nat := min 1000 (1000 * pr / pf)

/-- METER is taken in these states (R166). -/
def SeqState.meters : SeqState → Bool
  | .tuning | .ramping | .onAir => true
  | _ => false

/-- A METER report (R166, R167). -/
def State.takeMeter (s : State) (pf pr : Nat) : State :=
  if Machine.SeqState.meters s.ts.state then
    let s := s.withTs { s.ts with
      meterLost := false, meterGap := if s.meterRuns then some 0 else none }
    if s.cfg.pfMin ≤ pf then
      let q := reflectedRatio pf pr
      if s.cfg.qTrp ≤ q then s.trip .reflected
      else if s.ts.state = .tuning then s
      else s.foldRules q
    else if s.cfg.prAbs ≤ pr then s.trip .reflectedAbs
    else s.withTs { s.ts with floorT := none, recT := none }
  else s

/-- The 20-tick gap (R166). -/
def State.meterLoss (s : State) : State :=
  match s.ts.meterGap with
  | some g =>
    if Config.meterLostGap ≤ g ∧ s.ts.meterLost = false then
      s.withTs { s.ts with meterLost := true, foldT := none, floorT := none, recT := none }
    else s
  | none => s

/-- The 200-tick gap (R166). -/
def State.meterTimeout (s : State) : State :=
  match s.ts.meterGap with
  | some g => if Config.meterTripGap ≤ g then s.trip .meter else s
  | none => s

/-- The recovery timer ends (R170). -/
def State.recover (s : State) : State :=
  if s.ts.recT = some 0 then
    let p := min s.ts.ceiling (s.ts.p + foldStep s.ts.p s.cfg.fold)
    (s.withTs { s.ts with
      p := p, recT := if p < s.ts.ceiling then some s.cfg.tRCV else none }).send (.power p)
  else s

/-! ## Faults and stray RF (R171, R172) -/

def faultTrip : FaultCause → TripCause
  | .arc => .arc | .cooling => .cooling | .supply => .supply | .internal => .internal

/-- A FAULT report (R171). It is recorded in every state and phase, CONFIG included, where R180's row names no
recording: the model's choice (assumption 51). -/
def State.takeFault (s : State) (c : FaultCause) : State :=
  let s := s.withTs { s.ts with lastFault := some (c, s.now) }
  match s.ts.state with
  | .tuning | .tuned | .ramping | .onAir => s.trip (faultTrip c)
  | _ => s

/-- The stray-RF timer ends (R172); it starts again while its conditions hold. -/
def State.strayTimeout (s : State) : State :=
  if s.ts.strayT = some 0 then
    let s := s.withTs { s.ts with strayT := none }
    if s.ts.state = .lockout then (s.send .down).retime else s.tripHold
  else s

/-! ## Restart (R175, R176) -/

/-- A restart is still waited for: its delay runs, its test is repeated, or its pick waits (R175). -/
def State.restartPending (s : State) : Bool :=
  s.ts.restartT.isSome || s.ts.restartWait || (s.rl.request.map PickReq.bySeq).getD false

/-- The restart is abandoned: the planner is told, TRIPPED may be left (R175). -/
def State.abandonRestart (s : State) : State :=
  (s.withTs { s.ts with restartT := none, restartWait := false }).report [.noRestart, .leaveTripped]

/-- The restart test (R175). A current plan that is not in RAMP-WAIT, as one in SWITCHING at a stray-RF trip (R172), never
was there to leave it; the restart is abandoned for it too: the model's choice (assumption 56). -/
def State.restartTest (s : State) : State :=
  if s.ts.state = .tripped ∧ s.ts.restartWait = true then
    match s.currentPlan with
    | some p =>
      if p.state ≠ .rampWait ∨ due p.z s.now then s.abandonRestart
      else match p.booking.bind s.ownBooking with
        | some b =>
          if b.state = .ending then s.abandonRestart
          else if (b.state = .confirmed ∨ b.state = .active) ∧ s.pins.rfs = false then
            (s.withTs { s.ts with restartWait := false }).requestPick
              { plan := p.id, desired := s.now, lowest := s.now, limit := p.z, bySeq := true
                waiting := false }
          else s
        | none => s.abandonRestart
    | none => s.abandonRestart
  else s

/-- The restart delay ends (R175). -/
def State.restartDelayEnds (s : State) : State :=
  if s.ts.state = .tripped ∧ s.ts.restartT = some 0 then
    (s.withTs { s.ts with restartT := none, restartWait := true }).restartTest
  else s

/-- A restart pick is made: TUNED, ready to ramp (R175). A booking that fell back to MOVING while the pick waited for the
link trips PERMIT-LOSS at once, by the test of R165 at its level: the model's choice (assumption 51). RF-sense that has gone
high while the pick waited for the link does not hold the restart up, since the test has been passed when the pick was asked
for: the model's choice (assumption 55). -/
def State.restartPicked (s : State) (plan : Nat) : State :=
  match s.currentPlan with
  | some p =>
    if s.ts.state = .tripped ∧ p.id = plan ∧ p.state = .rampWait then
      ((s.withTs { s.ts with restartT := none, restartWait := false }).setSeq
        .tuned).report [.permitTest]
    else s
  | none => s

/-- TRIPPED is left for IDLE (R176): no plan is current, or the current one is ENDING, or the restart has been
abandoned. -/
def State.leaveTripped (s : State) : State :=
  let done := match s.currentPlan with
    | some p => p.state == .ending || !s.restartPending
    | none => true
  if s.ts.state = .tripped ∧ done = true ∧ s.pins.rfs = false then
    (s.withTs { s.ts with restartT := none, restartWait := false }).setSeq .idle
  else s

/-! ## RF-sense, program select (R68, R163, R166, R172, R179) -/

/-- RF-sense changes level. -/
def State.rfSense (s : State) (high : Bool) : State :=
  if s.pins.rfs = high then s
  else (((s.withPins { s.pins with rfs := high }).retime.releaseTest).downTest).report
    [.restartTest, .leaveTripped]

/-- The planner hands over the program source (R179). -/
def State.selectProgram (s : State) (program : Nat) : State := s.withTs { s.ts with psel := program }

/-- The commanded power of a continuation (R179). -/
def State.handPower (s : State) (power : Nat) : State :=
  let p := min s.ts.p power
  let changed := decide (p ≠ s.ts.p)
  let s := s.withTs { s.ts with ceiling := power, p := p, foldCount := 0 }
  if changed then s.send (.power p) else s

/-! ## Lockout cleared, phases (R178, R180, R181) -/

/-- CLEAR-LOCKOUT (R178). -/
def State.clearLockout (s : State) : State :=
  if s.ts.state = .lockout then (s.withTs { s.ts with tripLog := [] }).setSeq .idle else s

/-- RESTART (R181). -/
def State.tsRestart (s : State) : State :=
  let st := match s.ts.state with
    | .lockout => .lockout
    | .down => .down
    | .tripped => if s.pins.rfs then .tripped else .idle
    | _ => .idle
  (s.withTs { s.ts.stopTimers with
    state := st, p := 0, ceiling := 0, foldCount := 0, restartT := none, restartWait := false
    tuneFailed := false, upSent := false
    rfoffT := if st = .down then s.ts.rfoffT else none }).retime

end Sys2Proof.Machine
end

