-- ==== Sys2Proof/Machine/Planner.lean ====
section
/-! DEFINITION. The changeover planner (chapter 8): the plan queue, the phase computation, route choice,
switching, tuning and ramp, trips, ending, hand-over, air records. -/

namespace Sys2Proof.Machine

open Sys2Proof

/-! ## Air log (R196) and records (R156) -/

/-- Append an air record (R196). -/
def State.logRecord (s : State) (r : AirRecord) : State :=
  if s.sp.airLog.length < Config.airLogSize then
    s.withSp { s.sp with airLog := s.sp.airLog ++ [r] }
  else
    (s.withSp { s.sp with airLog := s.sp.airLog.drop 1 ++ [r], hold := false }).withFlags
      { s.flags with logOverflow := true }

/-- The record of an occurrence that takes no plan (R132). -/
def bareRecord (src : Source) (a : Nat) (outcome : AirOutcome) (cause : Option AirCause) : AirRecord :=
  { src := src, a := a, outcome := outcome, lateness := 0, early := 0, lost := 0, route := none
    preset := none, power := none, clampP := false, clampA := false, folds := 0, cause := cause }

/-- A plan's record (R156). -/
def Plan.record (p : Plan) (outcome : AirOutcome) (cause : Option AirCause) : AirRecord :=
  { src := p.src, a := p.a, outcome := outcome
    lateness := (p.firstFull.map fun f => afterBy p.a f).getD 0
    early := (p.firstFull.map fun f => afterBy f p.a).getD 0
    lost := p.lostAir, route := p.route, preset := some p.preset, power := p.cmdPower
    clampP := p.clampP, clampA := p.clampA, folds := p.folds, cause := cause }

/-! ## The plan queue (R130, R131) -/

/-- Plans in ROUTING, BLOCKED or READY. -/
def PlanState.waiting : PlanState → Bool
  | .routing | .blocked | .ready => true
  | _ => false

/-- Queue order: absolute air start, then creation (R131). -/
def planBefore (x y : Plan) : Bool := !absDue y.absA x.absA

/-- The plans that stand ahead of a plan. -/
def State.plansAhead (s : State) (id : Nat) : List Plan := s.cp.plans.takeWhile fun p => p.id != id

/-- The previous plan: of those ahead or current, the one with the latest Z (R131). Of two with the same Z the rule names
none; the first of the plans ahead and then the current plan is taken (assumption 51). -/
def State.previousPlan (s : State) (id : Nat) : Option Plan :=
  match (s.plansAhead id) ++ s.cp.plans.filter (fun p => p.state.current && p.id != id) with
  | [] => none
  | p :: rest => some (rest.foldl (fun best x => if after best.z x.z then x else best) p)

/-- A plan leaves the queue; an ad hoc entry leaves its slot with it (R103, R130). -/
def State.planLeaves (s : State) (p : Plan) : State :=
  let s := s.withCp { s.cp with plans := s.cp.plans.filter fun x => x.id != p.id }
  let s := match p.src with
    | .adhoc slot => s.withSs { s.ss with adhoc := dropKey slot s.ss.adhoc }
    | .table _ _ => s
  s.report [.planLeft, .contCheck, .leaveTripped, .stopTest]

/-- A plan's pin is released (R119). -/
def State.dropPin (s : State) (p : Plan) : State :=
  match p.pin with
  | some (i, w) => (s.releasePin i w).updPlan p.id fun p => { p with pin := none }
  | none => s

/-- A plan's booking is given up (R68). -/
def State.dropBooking (s : State) (p : Plan) : State :=
  match p.booking with
  | some n => (s.updPlan p.id fun p => { p with booking := none }).releaseBooking n
  | none => s

/-- A waiting plan is dropped (R154): with a record, or without one at a swap. -/
def State.dropPlan (s : State) (p : Plan) (out : Option (AirOutcome × Option AirCause)) : State :=
  let s := (s.dropBooking p).dropPin p
  let s := match out with
    | some (o, c) => s.logRecord (p.record o c)
    | none => s
  s.planLeaves p

/-! ## The phase computation (R135–R139) -/

/-- The tune time of a preset outcome (R135). -/
def State.tuneTime (s : State) : PresetOutcome → Nat
  | .fresh => s.cfg.tTRF
  | .stale => s.cfg.tTRS
  | .miss => s.cfg.tATN
  | .nopreset => s.cfg.tATN
  | .continues => 0

/-- A step's element needs to move (R136). -/
def State.needsMove (s : State) (st : Nat × Nat) : Bool := !s.elementStands st.1 st.2

/-- The slew time of an antenna to an azimuth, 0 when it does not slew (R136). -/
def State.slewNeed (s : State) (ant : Nat) (az : Option Nat) : Nat :=
  match (s.antenna ant).bind AntennaRec.slew, az with
  | some w, some b => w.time (s.anv ant).az b
  | _, _ => 0

/-- The route's items stand as booked for an own booking CONFIRMED or ACTIVE (R136). -/
def State.alreadyStanding (s : State) (ant : Nat) (az : Option Nat) (steps : List (Nat × Nat)) : Bool :=
  s.cm.own.any fun b =>
    (b.state == .confirmed || b.state == .active)
      && (steps.all fun st => b.desc.steps.contains st)
      && b.desc.antenna == some ant && b.desc.azimuth == az
      && (steps.all fun st => s.elementStands st.1 st.2) && s.antennaStands ant az

/-- The path time P of a route (R136). -/
def State.pathTime (s : State) (ant : Nat) (az : Option Nat) (steps : List (Nat × Nat)) : Nat :=
  if s.alreadyStanding ant az steps then 0
  else
    max ((steps.filter s.needsMove).foldl (fun acc st => acc + s.estimate st.1) 0) (s.slewNeed ant az)

/-- The backward plan (R137): W, U and R. -/
def State.backwardPlan (s : State) (a t path : Nat) (noSet : Bool) : Nat × Nat × Nat :=
  let r := subT a s.cfg.tRMP
  let u := subT r (s.cfg.tSLK + t)
  (subT u (path + if noSet then 0 else s.cfg.tSET), u, r)

/-- The earliest switching tick E (R138). -/
def State.earliest (s : State) (id : Nat) : Nat :=
  match s.previousPlan id with
  | some q => addT q.z (s.cfg.tDWN + s.cfg.tGRD)
  | none => addT s.now (s.cp.guardT.getD 0)

/-- A forward prediction (R139). -/
structure Prediction where
  switching : Nat
  tuneEnd   : Nat
  full      : Nat
  lateness  : Nat
  beyond    : Bool
  deriving DecidableEq, Repr

/-- The forward prediction of a plan with switching start `w` and path time `path` (R139); a phase
already reached is taken at its tick. -/
def State.predict (s : State) (p : Plan) (w path : Nat) : Prediction :=
  let sw := p.switchedAt.getD (later w (s.earliest p.id))
  let tune := p.tunedAt.getD (addT sw (path + s.cfg.tSET))
  let tuneEnd := addT tune p.t
  let full := addT (later (subT p.a s.cfg.tRMP) tuneEnd) s.cfg.tRMP
  { switching := sw, tuneEnd := tuneEnd, full := full, lateness := afterBy p.a full
    beyond := after (addT p.a s.cfg.tLATE) full || atOrAfter p.z full }

/-- A plan shows a prediction. -/
def Plan.showing (p : Plan) (q : Prediction) : Plan :=
  { p with swTick := some q.switching, predTune := some q.tuneEnd, predFull := some q.full
           lateness := q.lateness }

/-! ## Route choice (R133, R140, R141) -/

/-- The least of some powers. -/
def leastOf (n : Nat) (l : List Nat) : Nat := l.foldl min n

/-- The commanded power of a plan on a route (R133). -/
def State.routePower (s : State) (p : Plan) (steps : List (Nat × Nat)) : Nat :=
  leastOf p.entryPower
    (s.cfg.pMax :: ((s.antenna p.ant).map AntennaRec.rating).getD 0
      :: steps.map fun st => ((s.element st.1).map ElementRec.rating).getD 0)

/-- No item of the route is OUT and no element is rated below PFLR (R140). -/
def State.serviceable (s : State) (ant : Nat) (steps : List (Nat × Nat)) : Bool :=
  (s.anv ant).state != .out
    && steps.all fun st =>
      (s.elv st.1).state != .out
        && decide (s.cfg.pFlr ≤ ((s.element st.1).map ElementRec.rating).getD 0)

/-- A slewable antenna needs to slew. -/
def State.needsSlew (s : State) (ant : Nat) (az : Option Nat) : Bool :=
  ((s.antenna ant).bind AntennaRec.slew).isSome && !s.antennaStands ant az

/-- The homes of what needs to move are this station or present (R140). -/
def State.homesPresent (s : State) (ant : Nat) (az : Option Nat) (steps : List (Nat × Nat)) : Bool :=
  (steps.all fun st => !s.needsMove st || !(s.elv st.1).homeAbsent)
    && (!s.needsSlew ant az || !(s.anv ant).homeAbsent)

/-- The descriptor a plan asks for on a route (R141). -/
def State.planDesc (s : State) (p : Plan) (steps : List (Nat × Nat)) (start : Nat) : Desc :=
  { holder := s.cfg.stationId, num := 0
    cls := p.cls, stamp := 0, start := start, stop := addT p.z s.cfg.tDWN
    antenna := some p.ant, azimuth := p.az, steps := steps }

/-- The tests of R140 but the limit, for an interval from `start`. -/
def State.routeFree (s : State) (p : Plan) (steps : List (Nat × Nat)) (start : Nat) : Bool :=
  let d := s.planDesc p steps start
  s.serviceable p.ant steps && s.homesPresent p.ant p.az steps && !s.peerConflict d
    && !(s.cm.own.any fun b =>
        decide (b.req = .exercise) && b.desc.shares d
          && overlaps b.desc.start b.desc.stop d.start d.stop)
    && !s.pastHorizon d.stop

/-- A plan on a route: its power, P, backward plan and prediction (R140). -/
def State.planOn (s : State) (p : Plan) (id : Nat) (steps : List (Nat × Nat)) : Plan × Prediction :=
  let noSet := s.alreadyStanding p.ant p.az steps
  let path := s.pathTime p.ant p.az steps
  let b := s.backwardPlan p.a p.t path noSet
  let power := s.routePower p steps
  let p := { p with
    state := .routing, route := some id, cmdPower := some power
    clampP := decide (power < p.entryPower)
    w := some b.1, u := some b.2.1, r := some b.2.2, noSet := noSet, switchedAt := none
    tunedAt := none, path := path }
  let q := s.predict p b.1 path
  (p.showing q, q)

/-- Routes are tried lower preference first, then by id (R140). -/
def routeBefore (x y : Nat × RouteRec) : Bool :=
  decide (x.2.pref < y.2.pref) || (x.2.pref == y.2.pref && decide (x.1 < y.1))

/-- The station's routes to an antenna, in the order of R140. -/
def State.routesTo (s : State) (ant : Nat) : List (Nat × RouteRec) :=
  sortBy routeBefore (s.ed.routes.filter fun r => r.2.antenna == ant)

/-- A plan takes its new content in the queue. -/
def State.putPlan (s : State) (p : Plan) : State := s.updPlan p.id fun _ => p

/-- A plan becomes BLOCKED. Until the next route choice it keeps the route, commanded power, phase ticks and predictions
of its last one, as does a plan whose booking is lost (R142), and a record it writes then shows them: R130 says when they are
filled and not when they go, so this is the model's choice (assumption 56). -/
def State.blockPlan (s : State) (p : Plan) : State := s.putPlan { p with state := .blocked }

/-- What the claim's answer makes of a plan in ROUTING (R141). -/
def State.claimFor (s : State) (p : Plan) (d : Desc) : State :=
  let r := s.requestBooking (.plan p.id) d
  match r.2 with
  | .made n => r.1.updPlan p.id fun p => { p with booking := some n, state := .routing }
  | .refused .conflict | .refused .horizon => r.1.report [.routeChoice p.id]
  | .refused _ => r.1.blockPlan p

/-- Route choice (R140) and the claim (R141). -/
def State.chooseRoute (s : State) (p : Plan) : State :=
  let all := s.routesTo p.ant
  let rest := all.filter fun r => !p.excluded.contains r.1
  if rest.isEmpty then s.blockPlan { p with excluded := [] }
  else
    let on := rest.map fun r => (r.2.steps, s.planOn p r.1 r.2.steps)
    let free := on.filter fun x => s.routeFree x.2.1 x.1 (x.2.1.w.getD 0)
    match free.find? fun x => !x.2.2.beyond with
    | some x =>
      ((s.putPlan x.2.1).report [.contCheck]).claimFor x.2.1
        (s.planDesc x.2.1 x.1 (x.2.1.w.getD 0))
    | none =>
      if free.isEmpty then s.blockPlan p
      else s.dropPlan p (some (.missed, some .lateLimit))

/-- Route choice by plan id, for a plan in ROUTING or BLOCKED without a booking. -/
def State.chooseFor (s : State) (id : Nat) : State :=
  match s.plan id with
  | some p =>
    if (p.state = .routing ∨ p.state = .blocked) ∧ p.booking = none ∧ p.cont = false then
      s.chooseRoute p
    else s
  | none => s

/-- Every BLOCKED plan tries route choice again (R141), in queue order, which decides the numbers and stamps of their
claims: the model's choice (assumption 56). -/
def State.retryBlocked (s : State) : State :=
  ((s.cp.plans.filter fun p => p.state == .blocked).map Plan.id).foldl State.chooseFor s

/-! ## Recomputation (R138, R139, R143) -/

/-- The steps of a plan's route. -/
def State.routeSteps (s : State) (p : Plan) : List (Nat × Nat) :=
  match p.route.bind fun id => lookupKey id s.ed.routes with
  | some r => r.steps
  | none => []

/-- The phase tick U follows the tune time T (R137); W is kept, since the booking was claimed with it. -/
def State.rephase (s : State) (p : Plan) : Plan :=
  { p with u := p.r.map fun r => subT r (s.cfg.tSLK + p.t) }

/-- A waiting plan is computed again with its recorded W and P (R139, R140); beyond its limit it is dropped. A BLOCKED
plan tries route choice again (R141); a continuation is never beyond its limit. -/
def State.recompute (s : State) (id : Nat) : State :=
  match s.plan id with
  | some p =>
    if p.state.waiting = false ∨ p.cont = true then s
    else if p.state = .blocked then s.chooseFor id
    else match p.w, p.booking with
      | some w, some _ =>
        let q := s.predict p w p.path
        if q.beyond then s.dropPlan p (some (.missed, some .lateLimit))
        else s.putPlan ((s.rephase p).showing q)
      | _, _ => s
  | none => s

/-- Every plan in ROUTING, BLOCKED and READY is computed again (R138): at the guard timer's end, and whenever any plan
leaves the queue, be it the previous plan of another or not (the model's choice, assumption 51), in queue order (the
model's choice, assumption 56). -/
def State.recomputeAll (s : State) : State := (s.cp.plans.map Plan.id).foldl State.recompute s

/-- A void-pin notice (R121): the plans whose pin it names lose it (R135), and they and every READY plan (R143) are computed
again, in queue order (the model's choice, assumption 56). -/
def State.voidPin (s : State) (set way : Nat) : State :=
  let named := fun p : Plan => p.pin == some (set, way)
  let again := (s.cp.plans.filter fun p => named p || p.state == .ready).map Plan.id
  let s := ((s.cp.plans.filter named).map Plan.id).foldl (fun s id => s.updPlan id fun p =>
    { p with pin := none, preset := .miss, t := s.tuneTime .miss }) s
  again.foldl State.recompute s

/-! ## Creation (R132–R135) -/

/-- An offer of the schedule store (R106). -/
structure Offer where
  src     : Source
  cls     : Nat
  absA    : Nat
  a       : Nat
  z       : Nat
  freq    : Nat
  ant     : Nat
  az      : Option Nat
  power   : Nat
  program : Nat
  deriving DecidableEq, Repr

/-- The azimuth clamp (R133): the clamped azimuth and whether clamping changed it. -/
def SlewRec.clamp (w : SlewRec) (az : Nat) : Nat × Bool :=
  (max w.lo (min w.hi az), decide (max w.lo (min w.hi az) ≠ az))

/-- A plan as an offer makes it, before lookup and route. Until its first computation (R139) its predicted lateness is 0 and
its switching tick and predicted ticks are absent, though R130 marks none of them optional: the model's choice
(assumption 55). -/
def State.newPlan (s : State) (id : Nat) (o : Offer) : Plan :=
  let az := match (s.antenna o.ant).bind AntennaRec.slew, o.az with
    | some w, some a => (some (w.clamp a).1, (w.clamp a).2)
    | _, _ => (none, false)
  { id := id, src := o.src, cls := o.cls, absA := o.absA, a := o.a, z := o.z
    late := earlier (addT o.a s.cfg.tLATE) o.z
    freq := o.freq, ant := o.ant, az := az.1, program := o.program, entryPower := o.power
    cmdPower := none, clampP := false, clampA := az.2, route := none, excluded := []
    preset := .miss, pin := none, t := s.tuneTime .miss, w := none, u := none, r := none
    booking := none, intent := none, swTick := none, predTune := none, predFull := none
    lateness := 0, state := .routing, cont := false, firstFull := none, lostAir := 0, folds := 0
    pendOut := none, cause := none, lostOpen := none, progDone := false, noSet := false
    switchedAt := none, tunedAt := none, path := 0, limitPast := false }

/-- The lowest plan id not in use (R130). -/
def State.freePlanId (s : State) : Nat :=
  ((List.range Config.planQueueSize).find? fun i => (s.plan i).isNone).getD 0

/-- A plan of the queue that `p` can continue (R134). -/
def Plan.precedes (q p : Plan) : Bool :=
  q.z == p.a && q.route.isSome && q.state != .ending && q.freq == p.freq && q.ant == p.ant
    && q.az == p.az

/-- The continuation test at creation (R134): the previous plan that the new plan continues. -/
def State.continues (s : State) (p : Plan) : Option Plan :=
  (s.previousPlan p.id).filter fun q => q.precedes p && s.routeFree p (s.routeSteps q) p.a

/-- The lookup of a plan (R135). -/
def State.lookupFor (s : State) (p : Plan) : State × Plan :=
  let r := s.lookup p.freq p.ant
  (r.1, { p with preset := r.2.outcome, pin := r.2.pin, t := r.1.tuneTime r.2.outcome })

/-- A plan that is no continuation looks up and chooses its route. At a dual match the plan that asked routes and claims before
the planner acts on the void-pin notices of the lookup (R121): the model's choice (assumption 56). -/
def State.planFresh (s : State) (p : Plan) : State :=
  let r := s.lookupFor p
  (r.1.putPlan r.2).chooseRoute r.2

/-- A continuation stops being one (R134). The route, commanded power, clamp mark and predictions it took from its predecessor
go at once: the model's choice (assumption 56). -/
def State.stopContinuation (s : State) (p : Plan) : State :=
  let s := s.dropBooking p
  s.planFresh { p with
    booking := none, cont := false, state := .routing, route := none, cmdPower := none
    clampP := false, swTick := none, predTune := none, predFull := none, lateness := 0 }

/-- A continuation takes its predecessor's route and claims (R134, R141). -/
def State.planContinuation (s : State) (p q : Plan) : State :=
  let steps := s.routeSteps q
  let power := s.routePower p steps
  let p := { p with
    cont := true, preset := .continues, t := 0, route := q.route, cmdPower := some power
    clampP := decide (power < p.entryPower), predFull := some p.a }
  let s := s.putPlan p
  let r := s.requestBooking (.plan p.id) (s.planDesc p steps p.a)
  match r.2 with
  | .made n => r.1.updPlan p.id fun p => { p with booking := some n }
  | .refused _ => r.1.stopContinuation p

/-- An offer (R132): the state after, and whether it was taken. -/
def State.takeOffer (s : State) (o : Offer) : State × Bool :=
  if s.ts.state = .lockout then
    (s.logRecord (bareRecord o.src o.a .missed (some .lockout)), true)
  else if Config.planQueueSize ≤ s.cp.plans.length then (s, false)
  else
    let p := s.newPlan s.freePlanId o
    let s := s.withCp { s.cp with plans := insertBy planBefore p s.cp.plans }
    let least := leastOf p.entryPower
      [s.cfg.pMax, ((s.antenna p.ant).map AntennaRec.rating).getD 0]
    if least < s.cfg.pFlr then
      ((s.logRecord { bareRecord p.src p.a .missed (some .power) with clampA := p.clampA }).planLeaves p,
        true)
    else match s.continues p with
      | some q => (s.planContinuation p q, true)
      | none => (s.planFresh p, true)

/-- Continuations whose predecessor is gone, ending, or on another route stop being ones (R134), in queue order: the model's
choice (assumption 58). -/
def State.contCheck (s : State) : State :=
  ((s.cp.plans.filter fun p => p.cont && p.state.waiting).map Plan.id).foldl
    (fun s id => match s.plan id with
      | some p =>
        if s.cp.plans.any fun q => q.id != id && q.precedes p && q.route == p.route then s
        else s.stopContinuation p
      | none => s) s

/-! ## Ending (R150, R153) -/

/-- A lost-air interval open at `now` closes (R150). -/
def Plan.closeLost (p : Plan) (now : Nat) : Plan :=
  match p.lostOpen with
  | some t => { p with lostOpen := none, lostAir := min Config.max32 (p.lostAir + afterBy t now) }
  | none => p

/-- The record outcome and cause of an ending plan (R153). -/
def Plan.ending (p : Plan) : AirOutcome × Option AirCause :=
  match p.pendOut with
  | some o => (o, p.cause)
  | none =>
    match p.firstFull with
    | some f => (if after p.a f then .late else .aired, none)
    | none => (.missed, some .lateLimit)

/-- The plan reaches its terminal state: record, pin, queue (R153). -/
def State.finishPlan (s : State) (p : Plan) : State :=
  ((s.dropPin p).logRecord (p.record p.ending.1 p.ending.2)).planLeaves p

/-- The current plan's booking is gone: terminal state, and the guard timer starts (R138, R153). -/
def State.planReleased (s : State) (p : Plan) : State :=
  let s := s.withCp { s.cp with guardT := some s.cfg.tGRD }
  s.finishPlan p

/-- Entry to ENDING (R153). A plan already there is left as it is, its outcome and cause too: R154 says so of the
schedule store's commands; of LINK-FAULT, STOP and LOCKOUT (R22, R155, R157) it is the model's choice
(assumption 27). A booking that is still BOOKED goes at once (the model's choice, assumption 56, at
`State.releaseBooking`). -/
def State.enterEnding (s : State) (p : Plan) (out : Option (AirOutcome × AirCause)) : State :=
  if p.state = .ending then s
  else
    let p := (p.closeLost s.now)
    let p := { p with
      state := .ending
      pendOut := match out with
        | some (o, _) => some o
        | none => if p.firstFull.isNone then some .missed else none
      cause := match out with
        | some (_, c) => some c
        | none => if p.firstFull.isNone then some .lateLimit else none }
    let s := (s.putPlan p).withCp { (s.putPlan p).cp with owedMoves := [] }
    let s := s.rampDown.cancelPick.report [.contCheck, .leaveTripped]
    match p.booking.bind s.ownBooking with
    | some b => s.releaseBooking b.desc.num
    | none =>
      match s.plan p.id with
      | some p => s.finishPlan p
      | none => s

/-! ## Reports of the claim map (R142, R147, R153) -/

/-- The limit of a plan's pick (R147). -/
def State.pickLimit (s : State) (p : Plan) : Nat :=
  earlier (subT (addT p.a (s.cfg.tLATE + 1)) s.cfg.tRMP) (subT p.z s.cfg.tRMP)

/-- The pick request of a plan whose tune ends at `tuneEnd` (R86, R147). -/
def State.pickFor (s : State) (p : Plan) (tuneEnd : Nat) : PickReq :=
  { plan := p.id, desired := later (subT p.a s.cfg.tRMP) tuneEnd, lowest := tuneEnd
    limit := s.pickLimit p, bySeq := false, waiting := false }

/-- The tune-start read of a plan (R120, R147): the positions, and the plan after it. -/
def State.readAtTune (s : State) (p : Plan) : State × Plan × Option (Nat × Nat × Nat) :=
  match p.pin with
  | some (i, w) =>
    let r := s.tuneStartRead i w p.freq p.ant
    let p := { p with pin := none }
    match r.2 with
    | .positions t l b => (r.1, p, some (t, l, b))
    | .miss => (r.1, { p with preset := .miss, t := r.1.tuneTime .miss }, none)
    | .nopreset => (r.1, { p with preset := .nopreset, t := r.1.tuneTime .nopreset }, none)
  | none => (s, p, none)

/-- The booking is CONFIRMED: tune start (R147). -/
def State.startTune (s : State) (p : Plan) : State :=
  let x := s.readAtTune p
  let s := x.1.withCp { x.1.cp with owedMoves := [] }
  let p := s.rephase { x.2.1 with state := .tuning, tunedAt := some s.now }
  let q := s.predict p (p.w.getD s.now) 0
  let p := p.showing q
  let s := s.putPlan p
  if q.beyond then s.enterEnding p (some (.missed, .lateLimit))
  else (s.commandTune p.freq p.program p.t x.2.2).requestPick (s.pickFor p (addT s.now p.t))

/-- What the claim map tells a plan about its booking (R142, R147, R153). -/
def State.planTold (s : State) (id num : Nat) (what : Told) : State :=
  match s.plan id with
  | some p =>
    if p.booking ≠ some num then s
    else match what with
      | .booked => if p.state = .routing then s.putPlan { p with state := .ready } else s
      | .withdrawn | .displaced | .dropped =>
        if p.state.waiting then
          let p := { p with booking := none, state := .routing }
          let s := s.putPlan p
          if p.cont then s.stopContinuation p else s.report [.routeChoice id]
        else s
      | .expired =>
        if p.state.waiting then
          (s.putPlan { p with booking := none }).dropPlan { p with booking := none }
            (some (.missed, some .lateLimit))
        else s
      | .released => if p.state = .ending then s.planReleased p else s
      | .stopped => s.putPlan { p with booking := none }
      | .confirmed => if p.state = .switching then s.startTune p else s
      | .fellBack => s
  | none => s

/-! ## Switching (R144–R146) -/

/-- The frame of a MOVE of a plan. -/
def moveFrame (num : Nat) (kind : ItemKind) (item target : Nat) : Frame :=
  .move (kindNat kind) item num target

/-- A request of the current plan: to ED for a home item, as a MOVE for a peer's; a refused offer is
owed (R144, R145). -/
def State.moveItem (s : State) (num : Nat) (m : ItemKind × Nat × Nat) : State :=
  if s.isHome m.1 m.2.1 then
    s.request m.1 { item := m.2.1, target := m.2.2, station := s.cfg.stationId, booking := num }
  else
    let r := s.offer (moveFrame num m.1 m.2.1 m.2.2)
    if r.2 then r.1
    else s.withCp { s.cp with owedMoves := s.cp.owedMoves ++ [(m.1, m.2.1)] }

/-- The requests of a plan: every step in order, then the slew (R144). -/
def State.planMoves (s : State) (p : Plan) : List (ItemKind × Nat × Nat) :=
  ((s.routeSteps p).map fun st => (ItemKind.element, st.1, st.2))
    ++ match p.az with
      | some a => [(ItemKind.antenna, p.ant, a)]
      | none => []

/-- The READY plan that may enter SWITCHING now (R144). -/
def State.switchReady (s : State) : Option Plan :=
  match s.cp.plans with
  | p :: _ =>
    if p.state = .ready ∧ p.cont = false ∧ s.currentPlan = none ∧ s.cp.guardT = none
        ∧ s.ts.state = .idle ∧ due (p.swTick.getD s.now) s.now then some p
    else none
  | [] => none

/-- A plan enters SWITCHING, taking P from the view at that moment (R144). -/
def State.startSwitching (s : State) (p : Plan) : State :=
  let p := { p with path := s.pathTime p.ant p.az (s.routeSteps p) }
  let q := s.predict { p with switchedAt := some s.now } (p.w.getD s.now) p.path
  if q.beyond then
    (s.putPlan (p.showing q)).enterEnding (p.showing q) (some (.missed, .lateLimit))
  else match p.booking with
    | some n =>
      let s1 := s.putPlan ({ p with switchedAt := some s.now, state := .switching }.showing q)
      let r := s1.beginMoving n
      if r.2 then (s1.planMoves p).foldl (fun s m => s.moveItem n m) r.1 else s
    | none => s

/-- A plan's item stands as booked. -/
def State.planItemStands (s : State) (p : Plan) (kind : ItemKind) (item : Nat) : Bool :=
  match kind with
  | .element =>
    match (s.routeSteps p).find? fun st => st.1 == item with
    | some st => s.elementStands st.1 st.2
    | none => true
  | .antenna => s.antennaStands item p.az

/-- A plan's route includes an item. -/
def State.planIncludes (s : State) (p : Plan) (kind : ItemKind) (item : Nat) : Bool :=
  match kind with
  | .element => (s.routeSteps p).any fun st => st.1 == item
  | .antenna => p.ant == item

/-- Offer the owed MOVEs in step order, slew last, until one is refused (R145). -/
def State.offerMoves (s : State) (num : Nat) : List (ItemKind × Nat × Nat) → State
  | [] => s
  | m :: rest =>
    if s.cp.owedMoves.contains (m.1, m.2.1) then
      let r := s.offer (moveFrame num m.1 m.2.1 m.2.2)
      if r.2 then
        (r.1.withCp { r.1.cp with
          owedMoves := r.1.cp.owedMoves.filter (· != (m.1, m.2.1)) }).offerMoves num rest
      else s
    else s.offerMoves num rest

/-- CP's pending slot has emptied (R145). -/
def State.cpSlotEmptied (s : State) : State :=
  match s.currentPlan with
  | some p =>
    match p.booking with
    | some n => s.offerMoves n (s.planMoves p)
    | none => s
  | none => s

/-- A MOVE was DROPPED (R145). -/
def State.moveDropped (s : State) (kind item num target : Nat) : State :=
  let k := if kind = 0 then ItemKind.element else ItemKind.antenna
  match s.currentPlan with
  | some p =>
    if p.state = .switching ∧ p.booking = some num ∧ s.planItemStands p k item = false then
      s.moveItem num (k, item, target)
    else s
  | none => s

/-- A route fault on the plan in SWITCHING (R146). Of its order against the retry of BLOCKED plans, see assumption 66. -/
def State.routeFault (s : State) (p : Plan) : State :=
  let s := s.putPlan { p with
    state := .routing, switchedAt := none
    excluded := p.excluded ++ (match p.route with
      | some r => [r]
      | none => []) }
  let s := s.withCp { s.cp with owedMoves := [] }
  (s.dropBooking p).report [.contCheck, .routeChoice p.id, .leaveTripped]

/-- A request of this station's planner was refused, at home or by a peer: a route fault for any reason (R38, R44, R146). -/
def State.planMoveRefused (s : State) (num : Nat) (kind : ItemKind) (item _reason : Nat) : State :=
  match s.currentPlan with
  | some p =>
    if p.state = .switching ∧ p.booking = some num ∧ s.planIncludes p kind item then s.routeFault p
    else s
  | none => s

/-- The planner hears a view change (R146). -/
def State.planViewChanged (s : State) (kind : ItemKind) (item : Nat) : State :=
  match s.currentPlan with
  | some p =>
    if p.state = .switching ∧ s.planIncludes p kind item
        ∧ (s.itemState kind item = .fault ∨ s.itemState kind item = .out) then s.routeFault p
    else s
  | none => s

/-- The home absent mark of an item was set (R146). -/
def State.planHomeGone (s : State) (kind : ItemKind) (item : Nat) : State :=
  match s.currentPlan with
  | some p =>
    if p.state = .switching ∧ s.planIncludes p kind item ∧ s.planItemStands p kind item = false then
      s.routeFault p
    else s
  | none => s

/-! ## Tuning, ramp, air (R148, R149, R151) -/

/-- The sequencer reports TUNED (R148). -/
def State.planTuned (s : State) : State :=
  match s.currentPlan with
  | some p =>
    if p.state = .tuning then
      (s.putPlan { p with state := .rampWait }).tuneEnded (s.pickFor p s.now)
    else s
  | none => s

/-- The sequencer reports a tune failure (R148). -/
def State.planTuneFailed (s : State) : State :=
  match s.currentPlan with
  | some p => if p.state = .tuning then s.enterEnding p (some (.aborted, .tune)) else s
  | none => s

/-- A pick of the planner is refused (R147). -/
def State.planPickRefused (s : State) (id : Nat) : State :=
  match s.plan id with
  | some p =>
    if p.state = .tuning ∨ p.state = .rampWait then s.enterEnding p (some (.missed, .lateLimit))
    else s
  | none => s

/-- The intent a start check would start now (R91). -/
def State.checkReady (s : State) : Option (Plan × Intent) :=
  match s.currentPlan, s.pendingIntent with
  | some p, some x =>
    if p.state = .rampWait ∧ s.ts.state = .tuned ∧ x.own = some .announced
        ∧ p.intent = some (x.num, x.tick) ∧ due x.tick s.now then some (p, x)
    else none
  | _, _ => none

/-- The start check (R91, R149). -/
def State.startCheck (s : State) (p : Plan) (x : Intent) : State :=
  if s.startCheckPasses x.num then
    let s := ((s.startIntent x.num).updPlan p.id fun p => { p with state := .ramping }).rampUp
      (p.cmdPower.getD 0)
    match p.booking with
    | some n => s.beginAir n
    | none => s
  else s.failStartCheck

/-- The program source is handed over (R149, R179). -/
def State.handProgram (s : State) (p : Plan) : State :=
  (s.updPlan p.id fun p => { p with progDone := true }).selectProgram p.program

/-- AT-POWER (R149, R150, R163). -/
def State.atPower (s : State) : State :=
  if s.ts.state = .ramping then
    let s := (s.withTs { s.ts with atpT := none }).setSeq .onAir
    match s.currentPlan with
    | some p =>
      if p.state = .ramping then
        let p := { p.closeLost s.now with
          state := .onAir, firstFull := some (p.firstFull.getD s.now) }
        let s := (s.putPlan p).report [.permitTest]
        if due p.a s.now ∧ p.progDone = false then s.handProgram p else s
      else s
    | none => s
  else s

/-- A hand-over to a continuation, or the end of the plan, at its Z (R151, R152). The commanded power is handed over
when it differs from the predecessor's. At equal power the sequencer's count of folds goes on while the continuation's
record shows 0 until its first fold and the whole count from then on: the model's choice (assumption 53). -/
def State.airEnd (s : State) (p : Plan) : State :=
  let next := s.cp.plans.find? fun c => c.cont && c.state == .ready && p.precedes c
  match next, p.booking, next.bind Plan.booking with
  | some c, some n, some m =>
    if p.state = .onAir then
      let r := s.handOver n m
      if r.2 then
        let c := { c with state := .onAir, firstFull := some c.a }
        let s := (r.1.logRecord (p.record p.ending.1 p.ending.2)).putPlan c
        let s := (s.planLeaves p).handProgram c
        (if c.cmdPower = p.cmdPower then s else s.handPower (c.cmdPower.getD 0)).report [.permitTest]
      else s.enterEnding p none
    else s.enterEnding p none
  | _, _, _ => s.enterEnding p none

/-! ## Trips, lockout, no restart (R150, R155) -/

/-- The sequencer reports a trip (R150). A late limit that passed while the plan was RAMPING or ON-AIR lets it go on
(R151). A further trip while a lost-air interval is open leaves that interval open from its first opening tick: the model's
choice (assumption 55). -/
def State.planTripped (s : State) : State :=
  match s.currentPlan with
  | some p =>
    match p.state with
    | .tuning => s.enterEnding p (some (.aborted, .trip))
    | .rampWait | .ramping | .onAir =>
      let p := { p with
        state := .rampWait, lostOpen := some (p.lostOpen.getD (later s.now p.a))
        limitPast := p.limitPast || (p.state != .rampWait && due p.late s.now) }
      (s.putPlan p).cancelPick
    | _ => s
  | none => s

/-- The sequencer reports LOCKOUT (R155): the current plan first, then the others in queue order, which orders their records:
the model's choice (assumption 58). -/
def State.planLockedOut (s : State) : State :=
  let s := match s.currentPlan with
    | some p => s.enterEnding p (some (.aborted, .lockout))
    | none => s
  (s.cp.plans.filter fun p => p.state.waiting).foldl
    (fun s p => s.dropPlan p (some (.missed, some .lockout))) s

/-- The sequencer reports that no restart can be made (R150). R150 ends the plan that a trip left in RAMP-WAIT; a plan in
SWITCHING, which a stray-RF trip does not touch, goes on: the model's choice (assumption 56). -/
def State.planNoRestart (s : State) : State :=
  match s.currentPlan with
  | some p =>
    if p.state = .rampWait then
      if due p.z s.now then s.enterEnding p none else s.enterEnding p (some (.aborted, .trip))
    else s
  | none => s

/-! ## Phases (R157, R158) -/

/-- Entry to STOPPING or LINK-FAULT (R157): waiting plans are dropped, in queue order, and then the current plan, the only
other one, goes to ENDING; that order is the model's choice (assumption 58). -/
def State.planStop (s : State) (c : AirCause) : State :=
  let s := (s.cp.plans.filter fun p => p.state.waiting).foldl
    (fun s p => s.dropPlan p (some (.aborted, some c))) s
  s.cp.plans.foldl (fun s p => s.enterEnding p (some (.aborted, c))) s

/-- RESTART from LINK-FAULT finishes the plan still awaiting RF-off (R83, R158). -/
def State.planRestart (s : State) : State :=
  let s := s.cp.plans.foldl (fun s p => s.finishPlan p) s
  s.withCp { s.cp with plans := [], guardT := none, owedMoves := [] }

end Sys2Proof.Machine
end

