-- ==== Sys2Proof/Machine/Schedule.lean ====
section
/-! DEFINITION. The schedule store (chapter 6): the checks of loading, offers, precedence, late limits,
swaps, cancels. -/

namespace Sys2Proof.Machine

open Sys2Proof

/-! ## Checks at loading (R99–R103) -/

/-- The band of a frequency (R99). -/
def bandOf (freq : Nat) : Option Nat :=
  Config.bandTable.findIdx? fun b => decide (b.1 ≤ freq) && decide (freq ≤ b.2)

/-- The frequency and route checks of an entry (R100, tests 2 to 4). -/
def State.pathCheck (s : State) (freq ant : Nat) : Option Status :=
  match bandOf freq with
  | none => some .freqRange
  | some b =>
    match s.antenna ant with
    | none => some .noRoute
    | some a =>
      if (s.routesTo ant).isEmpty then some .noRoute
      else if a.bands.testBit b then none
      else some .antBand

/-- Forward distance over the minutes of the week (R101). -/
def minuteFd (a b : Nat) : Nat := (b + Config.weekMinutes - a % Config.weekMinutes) % Config.weekMinutes

/-- Two occurrences, by start minute of the week and duration, overlap (R101). -/
def minutesOverlap (s1 d1 s2 d2 : Nat) : Bool :=
  decide (minuteFd s1 s2 < d1) || decide (minuteFd s2 s1 < d2)

/-- Two entries overlap (R101). -/
def Entry.overlapsWith (x y : Entry) : Bool :=
  x.dayList.any fun d => y.dayList.any fun e =>
    minutesOverlap (d * 1440 + x.minute) x.dur (e * 1440 + y.minute) y.dur

/-- An antenna that does not slew stores no azimuth (R100). -/
def State.storedAz (s : State) (ant : Nat) (az : Option Nat) : Option Nat :=
  if ((s.antenna ant).bind AntennaRec.slew).isSome then az else none

/-- Field ranges of an entry (R98, R100). -/
def Entry.inRange (e : Entry) : Bool :=
  decide (e.minute ≤ 1439) && decide (1 ≤ e.days) && decide (e.days ≤ 127)
    && decide (1 ≤ e.dur) && decide (e.dur ≤ 1440)
    && (match e.az with
        | some a => decide (a ≤ 359)
        | none => true)
    && decide (1 ≤ e.power) && decide (e.power ≤ 1000) && decide (e.program ≤ 15)
    && (e.cls == 1 || e.cls == 2)

/-- LOAD-ENTRY (R100): the index, or the first status that refuses it. -/
def State.loadEntry (s : State) (e : Entry) : State × Except Status Nat :=
  if e.inRange = false then (s, .error .badArg)
  else match s.pathCheck e.freq e.ant with
    | some st => (s, .error st)
    | none =>
      if s.ss.pending.entries.any fun p => !p.2.cancelled && p.2.overlapsWith e then
        (s, .error .overlap)
      else match lowestFree Config.tableSize s.ss.pending.entries with
        | some i =>
          let e := { e with az := s.storedAz e.ant e.az, cancelled := false, mark := none }
          (s.withSs { s.ss with
            pending := { s.ss.pending with entries := putKey i e s.ss.pending.entries } }, .ok i)
        | none => (s, .error .full)

/-- CLEAR-PENDING (R102). -/
def State.clearPending (s : State) : State :=
  s.withSs { s.ss with pending := { entries := [], floor := none }, arm := none }

/-- Field ranges of an ad hoc entry (R103); its week and second come apart. -/
def AdHoc.inRange (x : AdHoc) : Bool :=
  decide (1 ≤ x.dur) && decide (x.dur ≤ 1440)
    && (match x.az with
        | some a => decide (a ≤ 359)
        | none => true)
    && decide (1 ≤ x.power) && decide (x.power ≤ 1000) && decide (x.program ≤ 15)
    && decide (1 ≤ x.cls) && decide (x.cls ≤ 3)

/-- The absolute intervals of two ad hoc entries overlap (R103). -/
def AdHoc.overlapsWith (x y : AdHoc) : Bool :=
  absOverlaps x.start (x.dur * 6000) y.start (y.dur * 6000)

/-- Checks of LOAD-ADHOC (R103): the slot, or the first status that refuses it. -/
def State.adhocCheck (s : State) (x : AdHoc) : Except Status Nat :=
  if x.inRange = false ∨ (s.phase ≠ .config ∧ absDue x.absEnd s.absNow = true) then .error .badArg
  else match s.pathCheck x.freq x.ant with
    | some st => .error st
    | none =>
      if s.ss.adhoc.any fun p => p.2.overlapsWith x then .error .overlap
      else match lowestFree Config.adhocSlots s.ss.adhoc with
        | some i => .ok i
        | none => .error .full

/-! ## Offers (R105, R106, R108) -/

/-- The azimuth an offer carries (R106). -/
def State.offeredAz (s : State) (ant : Nat) (az : Option Nat) : Option Nat :=
  match (s.antenna ant).bind AntennaRec.slew with
  | some w => some (az.getD w.deflt)
  | none => none

/-- The offer of a table occurrence (R106). -/
def State.tableOffer (s : State) (idx : Nat) (e : Entry) (day : Nat) : Offer :=
  { src := .table true idx, cls := e.cls, absA := s.absStart (e.airStart day), a := e.airStart day
    z := airEndOf (e.airStart day) e.dur, freq := e.freq, ant := e.ant
    az := s.offeredAz e.ant e.az, power := e.power, program := e.program }

/-- The offer of an ad hoc occurrence (R104, R106). -/
def State.adhocOffer (s : State) (slot : Nat) (x : AdHoc) : Offer :=
  let a := x.start % Config.weekTicks
  { src := .adhoc slot, cls := x.cls, absA := x.start, a := a, z := airEndOf a x.dur, freq := x.freq
    ant := x.ant, az := s.offeredAz x.ant x.az, power := x.power, program := x.program }

/-- A table occurrence becomes handled: the mark takes its absolute start (R106). -/
def State.markEntry (s : State) (idx abs : Nat) : State :=
  s.withSs { s.ss with active := { s.ss.active with
    entries := s.ss.active.entries.map fun p =>
      if p.1 = idx then (p.1, { p.2 with mark := some abs }) else p } }

/-- An ad hoc occurrence becomes handled (R106). -/
def State.markAdhoc (s : State) (slot : Nat) : State :=
  s.withSs { s.ss with adhoc := s.ss.adhoc.map fun p =>
    if p.1 = slot then (p.1, { p.2 with taken := true }) else p }

/-- An ad hoc entry of the list overlaps an absolute interval (R108). -/
def State.overridden (s : State) (start len : Nat) : Bool :=
  s.ss.adhoc.any fun p => absOverlaps p.2.start (p.2.dur * 6000) start len

/-- One open occurrence is suppressed or offered (R106, R108). -/
def State.offerOcc (s : State) (o : OccRef) : State :=
  match o with
  | .table idx day =>
    match lookupKey idx s.ss.active.entries with
    | some e =>
      if s.tableOpen e day then
        let offer := s.tableOffer idx e day
        if s.overridden offer.absA (e.dur * 6000) then
          (s.logRecord (bareRecord offer.src offer.a .suppressed none)).markEntry idx offer.absA
        else
          let r := s.takeOffer offer
          if r.2 then r.1.markEntry idx offer.absA else s
      else s
    | none => s
  | .adhoc slot =>
    match lookupKey slot s.ss.adhoc with
    | some x =>
      if s.adhocOpen x then
        let r := s.takeOffer (s.adhocOffer slot x)
        if r.2 then r.1.markAdhoc slot else s
      else s
    | none => s

/-- The test for open occurrences (R105): in RUNNING each is acted on, in order. -/
def State.openTest (s : State) : State :=
  if s.phase = .running then s.openOccs.foldl State.offerOcc s else s

/-! ## Late limits and ad hoc ends (R107) -/

/-- One occurrence is missed at its late limit (R107). A note of an ad hoc slot is of the entry the slot holds: loading an
entry takes the notes of the slot's former one away (`State.placeAdhoc`). A limit noted and no longer due, after a backward
step, waits for now to reach it again (R12). -/
def State.missOcc (s : State) (o : OccRef) : State :=
  if s.pastLimit o then
    match o with
    | .table idx day =>
      match lookupKey idx s.ss.active.entries with
      | some e =>
        (s.logRecord (bareRecord (.table true idx) (e.airStart day) .missed (some .lateLimit))).markEntry
          idx (s.absStart (e.airStart day))
      | none => s
    | .adhoc slot =>
      match lookupKey slot s.ss.adhoc with
      | some x =>
        let s := s.logRecord
          (bareRecord (.adhoc slot) (x.start % Config.weekTicks) .missed (some .lateLimit))
        s.withSs { s.ss with adhoc := dropKey slot s.ss.adhoc }
      | none => s
  else s

/-- The late limits that fell due are taken in start order (R107). Outside RUNNING they pass without
any record. -/
def State.lateLimits (s : State) : State :=
  let l := s.sortOccs s.ss.lateDue
  let s := s.withSs { s.ss with lateDue := [] }
  if s.phase = .running then l.foldl State.missOcc s else s

/-- The ad hoc ends that fell due outside RUNNING are taken (R107). -/
def State.adhocEnds (s : State) : State :=
  let l := s.ss.endDue.filter fun slot => !s.slotPlanned slot
  s.withSs { s.ss with
    endDue := []
    adhoc := s.ss.adhoc.filter fun p => !(l.contains p.1 && absDue p.2.absEnd s.absNow) }

/-! ## Ad hoc precedence at loading (R103, R108) -/

/-- A plan made from a table. -/
def Source.isTable : Source → Bool
  | .table _ _ => true
  | .adhoc _ => false

/-- LOAD-ADHOC accepted into a slot: what was noted of the slot's former entry goes; in RUNNING, waiting plans it overlaps
are dropped SUPPRESSED, and the open occurrences are tested (R103, R105, R108). An entry whose late limit has passed already is due to be missed
(R103, R107). The plans it suppresses (R108) are dropped in queue order: the model's choice (assumption 58). -/
def State.placeAdhoc (s : State) (slot : Nat) (x : AdHoc) : State :=
  let x := { x with az := s.storedAz x.ant x.az, taken := false }
  let s := s.withSs { s.ss with
    adhoc := putKey slot x s.ss.adhoc
    lateDue := s.ss.lateDue.filter (· != .adhoc slot)
    endDue := s.ss.endDue.filter (· != slot) }
  if s.phase = .running then
    let s := if absDue (s.adhocLate x) s.absNow then
        s.withSs { s.ss with lateDue := s.ss.lateDue ++ [.adhoc slot] }
      else s
    ((s.cp.plans.filter fun p =>
        p.src.isTable && p.state.waiting
          && absOverlaps x.start (x.dur * 6000) p.absA (fd p.a p.z)).foldl
      (fun s p => s.dropPlan p (some (.suppressed, none))) s).report [.openTest]
  else s

/-! ## Swap (R109–R111) -/

/-- The absolute instant of the arm (R109). -/
def armInstant (arm : Nat × Nat) : Nat := arm.1 * Config.weekTicks + arm.2 * 100

/-- A swap at a changeover instant (R110, R111). Late limits of the former table that are due and not yet taken go with
it, without a record (the model's choice, assumption 51); in RUNNING those of the new table that have passed with the
same change of now are due to be taken (R107). A kept plan names a place of the former table for good (R111).
The plans are dropped in queue order: the model's choice (assumption 58). -/
def State.swapAt (s : State) (instant : Nat) : State :=
  let late := s.ss.lateDue.filter fun o => match o with
    | .table _ _ => false
    | .adhoc _ => true
  let s := s.withSs { s.ss with
    active := { s.ss.pending with
      floor := if s.phase = .config then s.ss.pending.floor else some instant }
    pending := s.ss.active, arm := none, lateDue := late }
  let s := if s.phase = .running then s.withSs { s.ss with lateDue := s.ss.lateDue ++ s.pastLate } else s
  let s := (s.cp.plans.filter fun p => match p.src with
      | .table true _ => p.state.waiting && absDue instant p.absA
      | _ => false).foldl (fun s p => s.dropPlan p none) s
  let s := s.withCp { s.cp with plans := s.cp.plans.map fun p => match p.src with
    | .table _ i => { p with src := .table false i }
    | .adhoc _ => p }
  s.report [.openTest]

/-- The armed instant is due (R109). -/
def State.armDue (s : State) : Bool :=
  match s.ss.arm with
  | some arm => absDue (armInstant arm) s.absNow
  | none => false

/-- The swap at the armed instant, when it is due (R109, R110). -/
def State.armTest (s : State) : State :=
  match s.ss.arm with
  | some arm => if absDue (armInstant arm) s.absNow then s.swapAt (armInstant arm) else s
  | none => s

/-! ## Cancel (R112) -/

/-- A plan of a cancelled entry (R112, R154). -/
def State.cancelPlan (s : State) (p : Plan) : State :=
  if p.state.waiting then s.dropPlan p (some (.missed, some .cancelled))
  else if p.state = .ending then s
  else s.enterEnding p (some (.cut, .cancelled))

/-- CANCEL-ENTRY of an active table entry (R112): its plans in queue order, then its waiting occurrences in start order, which
orders their records: the model's choice (assumption 58). -/
def State.cancelTable (s : State) (idx : Nat) (e : Entry) : State :=
  if e.cancelled then s
  else
    let open_ := s.sortOccs ((e.dayList.filter fun d => s.tableOpen e d).map (OccRef.table idx))
    let s := s.withSs { s.ss with active := { s.ss.active with
      entries := s.ss.active.entries.map fun p =>
        if p.1 = idx then (p.1, { p.2 with cancelled := true }) else p } }
    let s := (s.cp.plans.filter fun p => p.src == .table true idx).foldl State.cancelPlan s
    open_.foldl (fun s o => match o with
      | .table i d =>
        (s.logRecord (bareRecord (.table true i) (e.airStart d) .missed (some .cancelled))).markEntry i
          (s.absStart (e.airStart d))
      | .adhoc _ => s) s

/-- CANCEL-ENTRY of an ad hoc entry (R112): with a plan, the slot empties as the plan leaves. -/
def State.cancelAdhoc (s : State) (slot : Nat) (x : AdHoc) : State :=
  if s.slotPlanned slot then
    (s.cp.plans.filter fun p => p.src == .adhoc slot).foldl State.cancelPlan s
  else
    let s := if s.adhocOpen x then
        s.logRecord (bareRecord (.adhoc slot) (x.start % Config.weekTicks) .missed (some .cancelled))
      else s
    s.withSs { s.ss with adhoc := dropKey slot s.ss.adhoc }

end Sys2Proof.Machine
end

