-- ==== Sys2Proof/Machine/Phases.lean ====
section
/-! DEFINITION. The station phases (R186, R189–R192): what every block does at each change, peer absence
(R31), and what the resets leave (R199). -/

namespace Sys2Proof.Machine

open Sys2Proof

/-! ## Pin reset (R14, R33, R56, R83, R97, R114, R129, R158, R181, R199) -/

/-- Pin reset: everything but the level inputs, the queue of commands and the count of free values used. -/
def State.pinReset (s : State) : State :=
  { State.reset with pins := s.pins, pending := s.pending, freeCtr := s.freeCtr }

/-! ## Peers (R7, R31, R39, R78, R95) -/

/-- The absence effects of a peer, in the order of R31. -/
def State.absenceEffects (s : State) (station : Nat) : State :=
  ((((s.dropPeerRecs station).dropPeerIntents station).markStation station true).removeOffset station)

/-- A peer becomes absent (R31). -/
def State.peerAbsent (s : State) (station : Nat) : State :=
  (s.setPeer station { s.peer station with present := false, absence := none }).absenceEffects station

/-- A BEACON at the presence table and the profile check (R30, steps 1 and 2). -/
def State.beaconPresence (s : State) (sender : Nat) (b : BeaconBody) : State :=
  let s := if (s.peer sender).present then s.hearPeer sender b.phase b.seq
    else (s.hearPeer sender b.phase b.seq).markStation sender false
  if b.profile = s.cfg.profile then s else s.withFlags { s.flags with profileMismatch := true }

/-! ## RESTART values (R14, R33, R83, R97, R129, R158, R181) -/

/-- Every block takes its RESTART values, as the station enters JOINING. -/
def State.blocksRestart (s : State) : State :=
  let s := s.planRestart
  let s := s.withCm s.cm.restart
  let s := s.withRl s.rl.restart
  let s := s.withPd s.pd.restart
  let s := s.withTb s.tb.restart
  let s := s.withHlc s.hlc.restart
  s.tsRestart

/-! ## JOINING and RUNNING (R32, R189, R191) -/

/-- The entry to JOINING, whose RESTART values are already taken: beacon and JOINING timers, home items,
the changeover arm. -/
def State.enterJoining (s : State) : State :=
  let s := s.withSp { s.sp with
    phase := .joining, restartMark := false, cpStopped := false, cmStopped := false }
  let s := s.retime.beaconNow
  let s := s.withHlc { s.hlc with joiningT := some (2 * s.cfg.tBCN) }
  s.edJoin.armTest

/-- RESTART's entry to JOINING (R191). -/
def State.restartJoining (s : State) : State := s.blocksRestart.enterJoining

/-- The JOINING timer ends: RUNNING (R32), and open occurrences are tested (R105). -/
def State.enterRunning (s : State) : State :=
  let s := (s.setPhase .running).withHlc { s.hlc with joiningT := none }
  (s.withSs { s.ss with lateDue := [] }).report [.openTest]

/-! ## STOPPING and HALTED (R82, R96, R157, R190) -/

/-- The entry to STOPPING; the restart mark gives the cause of the planner's records (R157). -/
def State.enterStopping (s : State) (restart : Bool) : State :=
  let s := s.withSp { s.sp with
    phase := .stopping, restartMark := restart, cpStopped := false, cmStopped := false }
  let s := (s.planStop (if restart then .restart else .stop)).cmStop
  s.cancelPick.report [.stopTest]

/-- The entry to HALTED (R28, R55, R190). -/
def State.enterHalted (s : State) : State :=
  let s := s.withSp { s.sp with
    phase := .halted, restartMark := false, cpStopped := false, cmStopped := false }
  (s.withHlc s.hlc.halt).edStop

/-- The two reports of R190 and the completion of STOPPING. A RELEASE is owed when it stands on the owed list (R81); one that
waits for the SENT report of an unsent CLAIM does not hold STOPPING up: the model's choice (R82, assumption 53). -/
def State.stopTest (s : State) : State :=
  if s.phase = .stopping then
    let s := s.withSp { s.sp with
      cpStopped := s.sp.cpStopped || s.cp.plans.isEmpty
      cmStopped := s.sp.cmStopped || (s.cm.own.isEmpty && s.cm.owedRel.isEmpty) }
    if s.sp.cpStopped && s.sp.cmStopped then
      if s.sp.restartMark then s.restartJoining else s.enterHalted
    else s
  else s

/-! ## LINK-FAULT (R22, R55, R82, R96, R157, R180, R192) -/

/-- Every peer becomes absent, then the absence effects of each (R22, R31); the peer map and the log are then
empty, whatever holders the records named (R82, R96). The stations are taken in id order: the model's choice
(assumption 58). -/
def State.allAbsent (s : State) : State :=
  let peers := (List.range 16).filter fun n => n != s.cfg.stationId
  let s := s.withHlc { s.hlc with
    presence := s.hlc.presence.map fun e => { e with present := false, absence := none } }
  ((peers.foldl State.absenceEffects s).emptyMap).filterIntents fun x => x.own.isSome

/-- The entry to LINK-FAULT (R22): the sequencer ramps down first, then the other blocks. -/
def State.enterLinkFault (s : State) : State :=
  let s := s.withSp { s.sp with
    phase := .linkFault, restartMark := false, cpStopped := false, cmStopped := false }
  let s := (s.withHlc s.hlc.linkFault).rampDown
  ((s.planStop .link).cmLinkFault).rampLinkFault.edStop.allAbsent

end Sys2Proof.Machine
end

