-- ==== Sys2Proof/Machine/Settle.lean ====
section
/-! DEFINITION. Delivery of the reports the blocks hand one another within one step, first in first out,
and `run`, which makes a command's effect a whole step. -/

namespace Sys2Proof.Machine

open Sys2Proof

/-- What the claim map tells a requester (R59). -/
def State.told (s : State) (req : Requester) (num : Nat) (what : Told) : State :=
  match req with
  | .plan id => s.planTold id num what
  | .exercise => s.exerciseTold num what

/-- A request of this station refused at home: the exercise's, which is for its element, or the planner's (R44, R54). -/
def State.moveRefused (s : State) (num : Nat) (kind : ItemKind) (item reason : Nat) : State :=
  match s.ed.exercise with
  | some x =>
    if x.booking = num ∧ kind = .element then s.exerciseStops item
    else s.planMoveRefused num kind item reason
  | none => s.planMoveRefused num kind item reason

/-- A pick made (R147, R175). -/
def State.pickMade (s : State) (plan : Nat) (bySeq : Bool) : State :=
  if bySeq then s.restartPicked plan else s

/-- A pick refused (R147, R175). -/
def State.pickRefused (s : State) (plan : Nat) (bySeq : Bool) : State :=
  if bySeq then s.abandonRestart else s.planPickRefused plan

/-- The block a report goes to acts on it. At a view change a route fault (R146) comes before the retry of the BLOCKED plans
(R141), which takes in the faulted plan where its choice left it BLOCKED: the model's choice (DESIGN CHOICE, assumption 66). -/
def deliver (r : Report) (s : State) : State :=
  match r with
  | .told req num what => s.told req num what
  | .permitTest => s.permitTest
  | .viewChanged kind item => (s.planViewChanged kind item).report [.retryBlocked]
  | .homeGone kind item => s.planHomeGone kind item
  | .retryBlocked => s.retryBlocked
  | .routeChoice id => s.chooseFor id
  | .planLeft => s.recomputeAll.report [.openTest]
  | .contCheck => s.contCheck
  | .moveRefused num kind item reason => s.moveRefused num kind item reason
  | .peerRefused num kind item reason => s.planMoveRefused num kind item reason
  | .elementSet item => s.exerciseSet item
  | .elementFault item => s.exerciseStops item
  | .pickMade plan bySeq => s.pickMade plan bySeq
  | .pickRefused plan bySeq => s.pickRefused plan bySeq
  | .tuned => s.planTuned
  | .tuneFailed => s.planTuneFailed
  | .tripped => s.planTripped
  | .lockedOut => s.planLockedOut
  | .noRestart => s.planNoRestart
  | .voidPin set way => s.voidPin set way
  | .restartTest => s.restartTest
  | .leaveTripped => s.leaveTripped
  | .stopTest => s.stopTest
  | .openTest => s.openTest

/-- How many reports one step may deliver: the model's own bound, far above what a step makes
(assumption 9). -/
def reportFuel : Nat := 100000

/-- Deliver reports in order, at most `fuel` of them. -/
def drain : Nat → State → State
  | 0, s => s
  | fuel + 1, s =>
    match s.reports with
    | [] => s
    | r :: rest => drain fuel (deliver r (s.withReports rest))

/-- A command's effect with every report it gives rise to delivered. -/
def run (f : State → State) (s : State) : Host.Outcome State Fault Refusal :=
  .next (drain reportFuel (f (s.withReports [])))

end Sys2Proof.Machine
end

