-- ==== Sys2Proof/Machine/BookingCommands.lean ====
section
/-! DEFINITION. The events of bookings and ramp intents: their timers, untils and expiries (R62, R64, R69,
R78, R95) and the start check (R91). -/

namespace Sys2Proof.Machine

open Sys2Proof

/-- The start check, at the moment its conditions hold together (R91). -/
def State.startChecked (s : State) : State :=
  match s.checkReady with
  | some (p, x) => s.startCheck p x
  | none => s

/-- LISTEN_TIMER_END (R62). -/
def execListenTimerEnd (num : Nat) (s : State) : Host.Outcome State Fault Refusal :=
  run (fun s => s.listenEnds num) s
/-- CONFIRM_TIMER_END (R64). -/
def execConfirmTimerEnd (num : Nat) (s : State) : Host.Outcome State Fault Refusal :=
  run (fun s => s.confirmEnds num) s
/-- OWN_BOOKING_UNTIL (R69). -/
def execOwnBookingUntil (s : State) : Host.Outcome State Fault Refusal := run State.ownUntils s
/-- PEER_RECORD_EXPIRY (R78). -/
def execPeerRecordExpiry (s : State) : Host.Outcome State Fault Refusal := run State.expireRecs s
/-- INTENT_EXPIRY (R95). -/
def execIntentExpiry (s : State) : Host.Outcome State Fault Refusal := run State.expireIntents s
/-- START_CHECK (R91). -/
def execStartCheck (s : State) : Host.Outcome State Fault Refusal := run State.startChecked s

end Sys2Proof.Machine
end

