-- ==== Sys2Proof/Machine/DriveCommands.lean ====
section
/-! DEFINITION. The events of the drive and slew channels and of the sense lines (R46–R50). -/

namespace Sys2Proof.Machine

open Sys2Proof

/-- A change of the sense lines of one channel (R48). -/
def State.unbidden (s : State) (kind : ItemKind) (chan : Nat) (valid : Bool) (code : Nat) : State :=
  match kind with
  | .element => s.unbiddenElement chan valid code
  | .antenna => s.unbiddenAntenna chan code

/-- DRIVE_TURN (R46). -/
def execDriveTurn (s : State) : Host.Outcome State Fault Refusal := run State.driveTurn s
/-- TARGET_SENSED (R47). -/
def execTargetSensed (s : State) : Host.Outcome State Fault Refusal := run State.targetSensed s
/-- MOTION_TIMEOUT (R47). -/
def execMotionTimeout (valid : Bool) (code : Nat) (s : State) : Host.Outcome State Fault Refusal :=
  run (fun s => s.motionTimeout valid code) s
/-- SLEW_TURN (R49). -/
def execSlewTurn (s : State) : Host.Outcome State Fault Refusal := run State.slewTurn s
/-- SLEW_TARGET_SENSED (R50). -/
def execSlewTargetSensed (s : State) : Host.Outcome State Fault Refusal := run State.slewSensed s
/-- SLEW_TIMEOUT (R50). -/
def execSlewTimeout (code : Nat) (s : State) : Host.Outcome State Fault Refusal :=
  run (fun s => s.slewTimeout code) s
/-- UNBIDDEN_CHANGE (R48). -/
def execUnbiddenChange (kind : ItemKind) (chan : Nat) (valid : Bool) (code : Nat) (s : State) :
    Host.Outcome State Fault Refusal :=
  run (fun s => s.unbidden kind chan valid code) s

end Sys2Proof.Machine
end

