-- ==== Sys2Proof/Machine/LinkCommands.lean ====
section
/-! DEFINITION. The events of sending on the hall link (R16–R24), peer and station timers of the link
(R28, R31, R32), and what the blocks do with SENT and DROPPED. -/

namespace Sys2Proof.Machine

open Sys2Proof

/-! ## SENT and DROPPED (R42, R61, R81, R88, R145) -/

/-- The producing block takes a SENT report; `seq` is the frame's reception sequence number. -/
def State.frameReported (s : State) (f : Frame) (seq : Nat) : State :=
  match f with
  | .claim d => s.claimSent d.num
  | .rampIntent num _ => s.intentSent num seq
  | _ => s

/-- The producing block takes a DROPPED report. -/
def State.frameDropped (s : State) (f : Frame) : State :=
  match f with
  | .claim d => s.claimDropped d.num
  | .release num =>
    s.withCm { s.cm with owedRel := appendBounded Config.owedListSize s.cm.owedRel num }
  | .air num => s.updOwn num fun b => if b.state = .active then { b with owedAir := true } else b
  | .position p => s.positionDropped p
  | .move kind item num target => s.moveDropped kind item num target
  | .rampIntent num _ => s.intentDropped num
  | _ => s

/-- A charge of a failed attempt, and the DROPPED report when it drops the frame (R20, R21). -/
def State.chargeFrame (s : State) (hit : QFrame → Bool) : State :=
  let r := s.hlc.charge hit
  let s := s.withHlc r.1
  match r.2 with
  | some f => s.frameDropped f
  | none => s

/-! ## The events -/

/-- An attempt may start: a frame waits, none is in progress, the phase sends (R17, R22). -/
def State.mayStart (s : State) : Bool :=
  !s.hlc.queue.isEmpty && s.hlc.attempt.isNone && sendsIn s.phase
    && decide (s.hlc.txErr < Config.linkFaultDrops)

def State.attemptStart (s : State) : State :=
  if s.mayStart then s.withHlc (s.hlc.startAttempt s.now) else s

def State.lostArbitration (s : State) : State :=
  if s.hlc.attempt.isSome then s.withHlc s.hlc.endAttempt else s

/-- The abort charges the frame of the attempt, which then stands in no attempt (R20). The station's own aborted frame is
not one it receives, and leaves its receive error count as it is, though R25 excepts its successful frames only: the
model's choice (assumption 53). -/
def State.attemptAbort (s : State) : State :=
  if s.hlc.attempt.isSome then
    let r := s.hlc.charge QFrame.sending
    let s := s.withHlc r.1.endAttempt
    match r.2 with
    | some f => s.frameDropped f
    | none => s
  else s

/-- The busy timer reaches tBSY: the head frame is charged (R17). -/
def State.busyTimeout (s : State) : State :=
  if s.mayStart then s.chargeFrame fun _ => true else s

/-- The consecutive transmit error count has reached 32 (R22). -/
def State.linkFaultEntry (s : State) : State :=
  if s.hlc.txErr = Config.linkFaultDrops ∧ sendsIn s.phase = true then s.enterLinkFault else s

/-- An own frame completes (R21). -/
def State.frameSent (s : State) : State :=
  match s.hlc.attempt, s.hlc.sendingFrame with
  | some _, some f =>
    let s := s.withHlc s.hlc.succeed
    s.frameReported f s.hlc.seq
  | _, _ => s

/-- The block told that its slot has emptied offers what it owes (R24). -/
def State.slotEmptied (s : State) (b : Block) : State :=
  match b with
  | .cm => s.cmSlotEmptied
  | .cp => s.cpSlotEmptied
  | .ed => s.edSlotEmptied
  | .rl => s.rampSlotEmptied
  | .hlc => s

/-- A freed place takes a pending frame (R24). -/
def State.slotEnters (s : State) : State :=
  if s.hlc.queue.length < Config.queueSize then
    match pickSlot s.hlc.slots with
    | some (f, rest) =>
      (s.withHlc { s.hlc with queue := enqueue s.hlc.queue f, slots := rest }).slotEmptied
        (frameBlock f)
    | none => s
  else s

/-- A frame is bad: discarded and counted (R25). -/
def State.badFrame (s : State) : State :=
  s.withHlc { s.hlc with rxErr := min Config.errorCountLimit (s.hlc.rxErr + 1) }

/-- The beacon timer ends (R28). -/
def State.beaconTimer (s : State) : State := if s.hlc.beaconT = some 0 then s.beaconNow else s

/-- A peer's absence timer ends (R31). -/
def State.absenceEnds (s : State) (station : Nat) : State :=
  if (s.peer station).present = true ∧ (s.peer station).absence = some 0 then s.peerAbsent station
  else s

/-- The JOINING timer ends (R32). -/
def State.joiningEnds (s : State) : State :=
  if s.phase = .joining ∧ s.hlc.joiningT = some 0 then s.enterRunning else s

/-! ## The commands -/

/-- ATTEMPT_START (R17). -/
def execAttemptStart (s : State) : Host.Outcome State Fault Refusal := run State.attemptStart s
/-- LOST_ARBITRATION (R18). -/
def execLostArbitration (s : State) : Host.Outcome State Fault Refusal := run State.lostArbitration s
/-- ATTEMPT_ABORT (R20). -/
def execAttemptAbort (s : State) : Host.Outcome State Fault Refusal := run State.attemptAbort s
/-- BUSY_TIMEOUT (R17). -/
def execBusyTimeout (s : State) : Host.Outcome State Fault Refusal := run State.busyTimeout s
/-- LINK_FAULT_ENTRY (R22). -/
def execLinkFaultEntry (s : State) : Host.Outcome State Fault Refusal := run State.linkFaultEntry s
/-- FRAME_SENT (R21). -/
def execFrameSent (s : State) : Host.Outcome State Fault Refusal := run State.frameSent s
/-- PENDING_SLOT_EMPTIED (R24). -/
def execPendingSlotEmptied (s : State) : Host.Outcome State Fault Refusal := run State.slotEnters s
/-- BAD_FRAME (R25). -/
def execBadFrame (s : State) : Host.Outcome State Fault Refusal := run State.badFrame s
/-- BEACON_TIMER (R28). -/
def execBeaconTimer (s : State) : Host.Outcome State Fault Refusal := run State.beaconTimer s
/-- PEER_ABSENT (R31). -/
def execPeerAbsent (station : Nat) (s : State) : Host.Outcome State Fault Refusal :=
  run (fun s => s.absenceEnds station) s
/-- JOINING_TIMER_END (R32). -/
def execJoiningTimerEnd (s : State) : Host.Outcome State Fault Refusal := run State.joiningEnds s

end Sys2Proof.Machine
end

