-- ==== Sys2Proof/Machine/LinkFormat.lean ====
section
/-! DEFINITION. Hall link frames as bits (Formats and Signals, R200, R201): what a sender puts on the
link and what a receiver reads from it. -/

namespace Sys2Proof.Machine

open Sys2Proof

/-! ## Bits and bytes, most significant first -/

/-- The `w` low bits of `n`, most significant first. -/
def natBits : Nat → Nat → List Bool
  | 0, _ => []
  | w + 1, n => n.testBit w :: natBits w n

/-- The number a list of bits spells, most significant first. -/
def bitsNat (l : List Bool) : Nat := l.foldl (fun acc b => 2 * acc + (if b then 1 else 0)) 0

/-- `n` in `k` bytes, most significant first. -/
def natBytes : Nat → Nat → List Nat
  | 0, _ => []
  | k + 1, n => n / 256 ^ k % 256 :: natBytes k n

/-- The number a list of bytes spells, most significant first. -/
def bytesNat (l : List Nat) : Nat := l.foldl (fun acc b => 256 * acc + b) 0

/-- A field that may be absent, in `k` bytes: absence is all ones (field widths table). -/
def optBytes (k : Nat) : Option Nat → List Nat
  | some n => natBytes k n
  | none => natBytes k (256 ^ k - 1)

/-- Reading such a field. -/
def optOf (k n : Nat) : Option Nat := if n = 256 ^ k - 1 then none else some n

/-! ## Bodies -/

/-- A booking descriptor: 19 + 2n bytes. -/
def descBytes (d : Desc) : List Nat :=
  [d.holder, d.num, d.cls] ++ natBytes 4 d.stamp ++ natBytes 4 d.start ++ natBytes 4 d.stop
    ++ optBytes 1 d.antenna ++ optBytes 2 d.azimuth ++ [d.steps.length]
    ++ d.steps.flatMap fun st => [st.1, st.2]

/-- The kind code of a frame. -/
def kindCode : Frame → Nat
  | .object .. => 1 | .air .. => 2 | .position .. => 3 | .move .. => 4 | .release .. => 5
  | .claim .. => 6 | .rampIntent .. => 7 | .rampCancel .. => 8 | .beacon .. => 9

/-- The body of a frame. -/
def frameBody : Frame → List Nat
  | .object c n o => [c, n, o]
  | .air n => [n]
  | .release n => [n]
  | .claim d => descBytes d
  | .move k i n t => [k, i, n] ++ natBytes 2 t
  | .position p =>
    [p.kind, p.item, p.report] ++ optBytes 2 p.value ++ natBytes 2 p.motion
      ++ [p.reqStation, p.reqBooking, p.reason]
  | .rampIntent n t => n :: natBytes 4 t
  | .rampCancel n => [n]
  | .beacon b =>
    [b.phase, b.seq, b.profile] ++ natBytes 4 b.stampCtr ++ [b.bookings.length]
      ++ b.bookings.flatMap fun e => descBytes e.1 ++ [e.2]

/-- The counts a frame announces are in range, so that it has an expected length (R200). -/
def frameCountsOk : Frame → Bool
  | .claim d => decide (1 ≤ d.steps.length) && decide (d.steps.length ≤ 6)
  | .beacon b =>
    decide (b.bookings.length ≤ 5)
      && b.bookings.all fun e => decide (1 ≤ e.1.steps.length) && decide (e.1.steps.length ≤ 6)
  | _ => true

/-! ## The CRC (R201) -/

/-- One bit through the CRC register. -/
def crcStep (r : BitVec 16) (b : Bool) : BitVec 16 :=
  if r.msb ^^ b then (r <<< 1) ^^^ 4129#16 else r <<< 1

/-- The register after a list of bits, from 65535. -/
def crc (l : List Bool) : BitVec 16 := l.foldl crcStep 65535#16

/-! ## The frame on the link -/

/-- Bytes as bits in transmission order. -/
def bytesBits (l : List Nat) : List Bool := l.flatMap fun b => natBits 8 b

/-- Arbitration field, header and body: what the CRC covers. -/
def frameCovered (h : Head) (f : Frame) : List Bool :=
  natBits 3 (framePriority f) ++ natBits 4 h.sender
    ++ bytesBits ([kindCode f, (frameBody f).length] ++ natBytes 4 h.tick ++ frameBody f)

/-- The whole frame (R16, R200, R201). -/
def frameBits (h : Head) (f : Frame) : List Bool :=
  frameCovered h f ++ natBits 16 (crc (frameCovered h f)).toNat

/-! ## Reading a frame (R25, R200) -/

/-- Bits as bytes; none when they do not come out even. -/
def bitsBytes : Nat → List Bool → Option (List Nat)
  | 0, [] => some []
  | 0, _ :: _ => none
  | k + 1, l =>
    if l.length < 8 then none
    else (bitsBytes k (l.drop 8)).map (bitsNat (l.take 8) :: ·)

/-- Step pairs. -/
def pairsOf : List Nat → List (Nat × Nat)
  | a :: b :: rest => (a, b) :: pairsOf rest
  | _ => []

/-- A descriptor at the head of a list of bytes, and what follows it. -/
def readDesc (l : List Nat) : Option (Desc × List Nat) :=
  match l with
  | h :: n :: c :: rest =>
    let tail := rest.drop 12
    match tail with
    | a :: z1 :: z0 :: k :: more =>
      if k < 1 || 6 < k || more.length < 2 * k then none
      else some
        ({ holder := h, num := n, cls := c, stamp := bytesNat (rest.take 4)
           start := bytesNat ((rest.drop 4).take 4), stop := bytesNat ((rest.drop 8).take 4)
           antenna := optOf 1 a, azimuth := optOf 2 (bytesNat [z1, z0])
           steps := pairsOf (more.take (2 * k)) }, more.drop (2 * k))
    | _ => none
  | _ => none

/-- The booking entries of a BEACON. -/
def readEntries : Nat → List Nat → Option (List (Desc × Nat))
  | 0, [] => some []
  | 0, _ :: _ => none
  | c + 1, l =>
    match readDesc l with
    | some (d, st :: rest) => (readEntries c rest).map ((d, st) :: ·)
    | _ => none

/-- A body by its kind code; none when its length is not that of the kind (R25). -/
def readBody (kind : Nat) (l : List Nat) : Option Frame :=
  match kind, l with
  | 1, [c, n, o] => some (.object c n o)
  | 2, [n] => some (.air n)
  | 3, [k, i, r, v1, v0, m1, m0, s, b, why] =>
    some (.position
      { kind := k, item := i, report := r, value := optOf 2 (bytesNat [v1, v0])
        motion := bytesNat [m1, m0], reqStation := s, reqBooking := b, reason := why })
  | 4, [k, i, n, t1, t0] => some (.move k i n (bytesNat [t1, t0]))
  | 5, [n] => some (.release n)
  | 6, l =>
    match readDesc l with
    | some (d, []) => some (.claim d)
    | _ => none
  | 7, [n, t3, t2, t1, t0] => some (.rampIntent n (bytesNat [t3, t2, t1, t0]))
  | 8, [n] => some (.rampCancel n)
  | 9, p :: q :: f :: s3 :: s2 :: s1 :: s0 :: c :: rest =>
    if 5 < c then none
    else (readEntries c rest).map fun es =>
      .beacon { phase := p, seq := q, profile := f, stampCtr := bytesNat [s3, s2, s1, s0]
                bookings := es }
  | _, _ => none

/-- A frame read from the link: none when the CRC, kind, priority or length test fails (R25). The
own-id test is made where the frame is received. -/
def readFrame (l : List Bool) : Option (Head × Frame) :=
  if crc l ≠ 0#16 then none
  else
    match bitsBytes ((l.length - 23) / 8) ((l.drop 7).take (l.length - 23)) with
    | some (kind :: len :: t3 :: t2 :: t1 :: t0 :: body) =>
      if body.length ≠ len then none
      else match readBody kind body with
        | some f =>
          if bitsNat (l.take 3) = framePriority f then
            some ({ sender := bitsNat ((l.drop 3).take 4), tick := bytesNat [t3, t2, t1, t0] }, f)
          else none
        | none => none
    | _ => none

/-- The command a frame heard is to the part. -/
def frameCommand (h : Head) : Frame → Instr
  | .object c n o => .object h c n o
  | .air n => .air h n
  | .position p => .position h p
  | .move k i n t => .move h k i n t
  | .release n => .release h n
  | .claim d => .claim h d
  | .rampIntent n t => .rampIntent h n t
  | .rampCancel n => .rampCancel h n
  | .beacon b => .beacon h b

/-- The command the bits of a frame heard on the link are to the part: BAD_FRAME when they fail the tests
of R25. -/
def linkCommand (l : List Bool) : Instr :=
  match readFrame l with
  | some (h, f) => frameCommand h f
  | none => .badFrame

/-! ## The link receiver (R16, R25, R33) -/

/-- What the receiver of the hall link meets: a bit time of a frame that is not the station's own successful one, an idle
link after a frame has ended or broken off, and the two resets that discard a frame being assembled (R33). -/
inductive LinkEvent
  | bit (b : Bool)
  | idle
  | pinReset
  | restart
  deriving DecidableEq, Repr

/-- Where the receiver stands: waiting for an idle link, ready for a frame's first bit, or assembling a frame. -/
inductive LinkRx
  | waiting
  | ready
  | frame (bits : List Bool)
  deriving DecidableEq, Repr

/-- The bits received reach to the 16th CRC bit of the body length they announce (R200). -/
def frameComplete (l : List Bool) : Bool :=
  decide (23 ≤ l.length) && decide (l.length = 71 + 8 * bitsNat ((l.drop 15).take 8))

/-- A bit joins a frame, which becomes a command at its completion bit. -/
def LinkRx.join (l : List Bool) (b : Bool) : LinkRx × Option Instr :=
  if frameComplete (l ++ [b]) then (.waiting, some (linkCommand (l ++ [b]))) else (.frame (l ++ [b]), none)

/-- One event at the receiver: a frame is taken at its completion bit, one that breaks off is bad (R25), and both resets
discard one being assembled without counting it and wait for the link to be idle anew (R33). A frame begins on an idle
link only (R16). -/
def LinkRx.take : LinkRx → LinkEvent → LinkRx × Option Instr
  | .waiting, .bit _ => (.waiting, none)
  | .ready, .bit b => LinkRx.join [] b
  | .frame l, .bit b => LinkRx.join l b
  | .frame _, .idle => (.ready, some .badFrame)
  | .waiting, .idle => (.ready, none)
  | .ready, .idle => (.ready, none)
  | _, .pinReset => (.waiting, some .pinReset)
  | _, .restart => (.waiting, none)

/-- The commands a run of events at the receiver gives the part, in order. -/
def linkCommands (r : LinkRx) : List LinkEvent → List Instr
  | [] => []
  | e :: rest => (r.take e).2.toList ++ linkCommands (r.take e).1 rest

/-- What LTX carries of the attempt in progress: the frame with its header tick (R19, R200). -/
def State.sendingBits (s : State) : Option (List Bool) :=
  match s.hlc.attempt, s.hlc.sendingFrame with
  | some t, some f => some (frameBits { sender := s.cfg.stationId, tick := t } f)
  | _, _ => none

end Sys2Proof.Machine
end

