-- ==== Sys2Proof/Machine/FrameCommands.lean ====
section
/-! DEFINITION. The frames heard on the hall link (R25, R26, R30): each is checked, numbered and
dispatched by kind. -/

namespace Sys2Proof.Machine

open Sys2Proof

/-- A frame heard is good: its counts give a length and, outside CONFIG, its sender is another station
(R25, R200). -/
def State.goodFrame (s : State) (h : Head) (f : Frame) : Bool :=
  frameCountsOk f && (s.phase == .config || h.sender != s.cfg.stationId)

/-- The claim stamp counter follows a CLAIM's stamp or a BEACON's counter (R27). -/
def followFrame (l : Link) : Frame → Link
  | .claim d => l.follow d.stamp
  | .beacon b => l.follow b.stampCtr
  | _ => l

/-- The header tick is a tick of the week: a frame with any other is dispatched and not acted on (R200). -/
def headReadable (h : Head) : Bool := decide (h.tick < Config.weekTicks)

/-- A frame heard: a good one is numbered, its stamp followed, and in the phases that dispatch `act`
takes it with its number; a bad one is counted (R25, R26, R27). A header tick outside the week names no tick, and
the frame is not acted on (R200). -/
def State.receive (s : State) (h : Head) (f : Frame) (act : Nat → State → State) : State :=
  if s.goodFrame h f then
    let s := s.withHlc (followFrame s.hlc.number f)
    if dispatchesIn s.phase && headReadable h then act s.hlc.seq s else s
  else s.badFrame

/-- Every code and the header tick of a BEACON name a value (R200); its list is judged entry by entry. -/
def beaconReadable (h : Head) (b : BeaconBody) : Bool :=
  headReadable h && decide (b.phase ≤ 5) && decide (b.seq ≤ 7)

/-- A BEACON in the order of R30; in HALTED, and where a code of it names no value (R200), the presence table and
the profile check only. -/
def State.hearBeacon (s : State) (h : Head) (b : BeaconBody) : State :=
  if s.goodFrame h (.beacon b) then
    let s := s.withHlc (followFrame s.hlc.number (.beacon b))
    if dispatchesIn s.phase && beaconReadable h b then
      ((s.beaconPresence h.sender b).hearList h.sender b.stampCtr b.bookings).recordOffset h
    else if dispatchesIn s.phase || s.phase == .halted then s.beaconPresence h.sender b
    else s
  else s.badFrame

/-- A MOVE at ED (R44); a kind that names no item is not acted on (R200). -/
def State.hearMove (s : State) (sender kind item num target : Nat) : State :=
  match kind with
  | 0 => s.request .element { item := item, target := target, station := sender, booking := num }
  | 1 => s.request .antenna { item := item, target := target, station := sender, booking := num }
  | _ => s

/-! ## The commands -/

/-- BEACON (R30). -/
def execBeacon (h : Head) (b : BeaconBody) (s : State) : Host.Outcome State Fault Refusal :=
  run (fun s => s.hearBeacon h b) s
/-- CLAIM (R72). -/
def execClaim (h : Head) (d : Desc) (s : State) : Host.Outcome State Fault Refusal :=
  run (fun s => s.receive h (.claim d) fun _ s => s.hearClaim d) s
/-- OBJECT (R73). -/
def execObject (h : Head) (claimant claimNum objNum : Nat) (s : State) :
    Host.Outcome State Fault Refusal :=
  run (fun s => s.receive h (.object claimant claimNum objNum) fun _ s =>
    s.hearObject claimant claimNum) s
/-- RELEASE (R75). -/
def execRelease (h : Head) (num : Nat) (s : State) : Host.Outcome State Fault Refusal :=
  run (fun s => s.receive h (.release num) fun _ s => s.hearRelease h.sender num) s
/-- AIR (R76). -/
def execAir (h : Head) (num : Nat) (s : State) : Host.Outcome State Fault Refusal :=
  run (fun s => s.receive h (.air num) fun _ s => s.hearAir h.sender num) s
/-- MOVE (R44). -/
def execMove (h : Head) (kind item num target : Nat) (s : State) : Host.Outcome State Fault Refusal :=
  run (fun s => s.receive h (.move kind item num target) fun _ s =>
    s.hearMove h.sender kind item num target) s
/-- POSITION (R38). -/
def execPosition (h : Head) (p : PosReport) (s : State) : Host.Outcome State Fault Refusal :=
  run (fun s => s.receive h (.position p) fun _ s => s.hearPosition h.sender p) s
/-- RAMP_INTENT (R94). -/
def execRampIntent (h : Head) (num at_ : Nat) (s : State) : Host.Outcome State Fault Refusal :=
  run (fun s => s.receive h (.rampIntent num at_) fun order s =>
    s.hearIntent h.sender num at_ order) s
/-- RAMP_CANCEL (R95). -/
def execRampCancel (h : Head) (num : Nat) (s : State) : Host.Outcome State Fault Refusal :=
  run (fun s => s.receive h (.rampCancel num) fun _ s => s.hearCancel h.sender num) s

end Sys2Proof.Machine
end

