-- ==== Sys2Proof/Machine/PlanCommands.lean ====
section
/-! DEFINITION. The instants of the schedule store and the planner (R105–R110, R138, R144, R149, R151). -/

namespace Sys2Proof.Machine

open Sys2Proof

/-- The armed instant is tested in every phase but CONFIG (R109). -/
def State.changeover (s : State) : State := if s.phase = .config then s else s.armTest

/-- SWITCHING starts when a plan is ready for it (R144). -/
def State.switchingStart (s : State) : State :=
  match s.switchReady with
  | some p => s.startSwitching p
  | none => s

/-- The guard timer ends (R138). -/
def State.guardEnds (s : State) : State :=
  if s.cp.guardT = some 0 then (s.withCp { s.cp with guardT := none }).recomputeAll else s

/-- A plan's late limit (R141, R143, R151): a READY plan is dropped, a continuation too. -/
def State.planLate (s : State) (id : Nat) : State :=
  match s.plan id with
  | some p =>
    if due p.late s.now then
      match p.state with
      | .blocked => s.dropPlan p (some (.missed, some .noRoute))
      | .ready => s.dropPlan p (some (.missed, some .lateLimit))
      | .switching | .tuning | .rampWait =>
        if p.firstFull.isNone && !p.limitPast then s.enterEnding p (some (.missed, .lateLimit)) else s
      | _ => s
    else s
  | none => s

/-- The program source is due for the plan (R149, R179): A has come, and the plan has been at power, be it that a trip
has taken it off air since. To a plan already ENDING nothing is handed over: the model's choice (assumption 56). -/
def State.programDue (s : State) (p : Plan) : Bool :=
  (p.state == .onAir || p.state == .ramping || p.state == .rampWait) && p.firstFull.isSome && !p.progDone
    && due p.a s.now

/-- A falls due for the current plan (R149, R179). -/
def State.airStart (s : State) : State :=
  match s.currentPlan with
  | some p => if s.programDue p then s.handProgram p else s
  | none => s

/-- Z falls due for the current plan (R151). -/
def State.airEnds (s : State) : State :=
  match s.currentPlan with
  | some p =>
    if (p.state = .onAir ∨ p.state = .ramping ∨ p.state = .rampWait) ∧ due p.z s.now then s.airEnd p
    else s
  | none => s

/-- CHANGEOVER_INSTANT (R110). -/
def execChangeoverInstant (s : State) : Host.Outcome State Fault Refusal := run State.changeover s
/-- PLANNING_INSTANT (R106). -/
def execPlanningInstant (s : State) : Host.Outcome State Fault Refusal := run State.openTest s
/-- OCCURRENCE_LATE_LIMIT (R107). -/
def execOccurrenceLateLimit (s : State) : Host.Outcome State Fault Refusal := run State.lateLimits s
/-- AD_HOC_END (R107). -/
def execAdHocEnd (s : State) : Host.Outcome State Fault Refusal := run State.adhocEnds s
/-- SWITCHING_START (R144). -/
def execSwitchingStart (s : State) : Host.Outcome State Fault Refusal := run State.switchingStart s
/-- GUARD_TIMER_END (R138). -/
def execGuardTimerEnd (s : State) : Host.Outcome State Fault Refusal := run State.guardEnds s
/-- PLAN_LATE_LIMIT (R151). -/
def execPlanLateLimit (plan : Nat) (s : State) : Host.Outcome State Fault Refusal :=
  run (fun s => s.planLate plan) s
/-- AIR_START (R149). -/
def execAirStart (s : State) : Host.Outcome State Fault Refusal := run State.airStart s
/-- AIR_END (R151). -/
def execAirEnd (s : State) : Host.Outcome State Fault Refusal := run State.airEnds s

end Sys2Proof.Machine
end

