-- ==== Sys2Proof/Machine/Flags.lean ====
section
/-! DEFINITION. The status flags (R193), latched and condition, and the ATTN output (R198). -/

namespace Sys2Proof.Machine

open Sys2Proof

/-- The flags of R193, numbered by their bit (Formats and Signals): latched flags as stored,
condition flags from the condition they follow. -/
def State.flagBits (s : State) : List Bool :=
  [s.flags.ppsMissing, s.flags.ppsReject, s.flags.timeStepped, s.tb.skew, s.flags.poorTime,
   s.sp.phase == .linkFault, s.flags.profileMismatch, s.cm.horizon.isSome,
   s.flags.directoryError, s.flags.elementOverdue, s.ts.state == .lockout,
   s.flags.collision, s.flags.overrun, s.flags.logOverflow]

/-- The number a list of bits spells, bit 0 first. -/
def bitsValue : List Bool → Nat
  | [] => 0
  | b :: rest => (if b then 1 else 0) + 2 * bitsValue rest

/-- The flag word of the status record. -/
def State.flagWord (s : State) : Nat := bitsValue s.flagBits

/-- ATTN (R198): a record in the air log or any flag set. -/
def State.attn (s : State) : Bool := !s.sp.airLog.isEmpty || s.flagBits.any id

/-- CLEAR-FLAGS (R193): each latched flag named in the mask is cleared; clearing DIRECTORY-ERROR also
empties the latch and the further-errors mark (R121). Condition flags stay. -/
def State.clearFlags (s : State) (mask : Nat) : State :=
  let f := s.flags
  let s := s.withFlags
    { ppsMissing := f.ppsMissing && !mask.testBit 0
      ppsReject := f.ppsReject && !mask.testBit 1
      timeStepped := f.timeStepped && !mask.testBit 2
      poorTime := f.poorTime && !mask.testBit 4
      profileMismatch := f.profileMismatch && !mask.testBit 6
      directoryError := f.directoryError && !mask.testBit 8
      elementOverdue := f.elementOverdue && !mask.testBit 9
      collision := f.collision && !mask.testBit 11
      overrun := f.overrun && !mask.testBit 12
      logOverflow := f.logOverflow && !mask.testBit 13 }
  if mask.testBit 8 then s.withPd { s.pd with latch := none, further := false } else s

end Sys2Proof.Machine
end

