-- ==== Sys2Proof/Machine/Operands.lean ====
section
/-! DEFINITION. What host messages carry (Formats and Signals, R202): the fields of a command payload,
clamping, and the bytes of every response payload. -/

namespace Sys2Proof.Machine

open Sys2Proof

/-! ## Fields of a payload -/

/-- The `k` bytes at offset `off`, most significant first. -/
def field (l : List Byte) (off k : Nat) : Nat := bytesNat (((l.drop off).take k).map BitVec.toNat)

/-- A field that may be absent: all ones stand for absence. -/
def optField (l : List Byte) (off k : Nat) : Option Nat := optOf k (field l off k)

/-- Numbers 0–255 as bytes of a response. -/
def bytesOf (l : List Nat) : List Byte := l.map byte

def flagNat (b : Bool) : Nat := if b then 1 else 0

/-- Pairs at the head of a list. -/
def stepPairs : List Byte → List (Nat × Nat)
  | a :: b :: rest => (a.toNat, b.toNat) :: stepPairs rest
  | _ => []

/-! ## Clamping (R187, R188) and durations (Conventions) -/

/-- A value clamped to the nearer limit, and whether clamping changed it. -/
def clampTo (lo hi v : Nat) : Nat × Bool := (max lo (min hi v), decide (max lo (min hi v) ≠ v))

/-- Milliseconds in ticks: ceil(ms / 10), at least 1. -/
def msTicks (ms : Nat) : Nat := max 1 (ceilDiv ms 10)

/-! ## Commands that load settings -/

/-- The nine values of SET-STATION with REFNOM last (R187); the second component says that a value was
clamped. -/
def stationOf (l : List Byte) (c : Settings) : Settings × Bool :=
  let bcn := clampTo 1 30 (field l 2 1)
  let lsn := clampTo 50 2000 (field l 3 2)
  let nrmp := clampTo 1 8 (field l 5 1)
  let wrmp := clampTo 1 60 (field l 6 1)
  let ref := clampTo 8000 12000 (field l 7 2)
  ({ c with
    stationId := field l 0 1, profile := field l 1 1, tBCN := bcn.1 * 100, tLSN := msTicks lsn.1
    nRMP := nrmp.1, tWRMP := wrmp.1 * 100, refnom := ref.1 },
   bcn.2 || lsn.2 || nrmp.2 || wrmp.2 || ref.2)

/-- The station parameters of SET-TIMING in their order (R188): offset, bytes, limits. PFLR and QTRP are
clamped in the second pass. -/
def timingOf (l : List Byte) (c : Settings) : Settings × Bool :=
  let tGRD := clampTo 100 5000 (field l 0 2)
  let tSET := clampTo 50 2000 (field l 2 2)
  let tTRF := clampTo 500 30000 (field l 4 2)
  let tTRS := clampTo 1000 60000 (field l 6 2)
  let tATN := clampTo 5000 180000 (field l 8 4)
  let tRMP := clampTo 200 10000 (field l 12 2)
  let tDWN := clampTo 100 5000 (field l 14 2)
  let tGRC := clampTo 1000 60000 (field l 16 2)
  let tSLK := clampTo 0 10000 (field l 18 2)
  let tHZN := clampTo 2 60 (field l 20 1)
  let tLATE := clampTo 0 30 (field l 21 1)
  let tEXR := clampTo 0 720 (field l 22 2)
  let tEXL := clampTo 10 600 (field l 24 2)
  let ageV := clampTo 1 8760 (field l 26 2)
  let nTRP := clampTo 1 8 (field l 28 1)
  let tWTRP := clampTo 1 60 (field l 29 1)
  let tRST := clampTo 1 60 (field l 30 1)
  let pMax := clampTo 10 1000 (field l 31 2)
  let pFlr := clampTo 1 pMax.1 (field l 33 2)
  let pfMin := clampTo 1 10000 (field l 35 2)
  let prAbs := clampTo 1 10000 (field l 37 2)
  let qWrn := clampTo 5 299 (field l 39 2)
  let qTrp := clampTo (qWrn.1 + 1) 300 (field l 41 2)
  let fold := clampTo 5 25 (field l 43 1)
  let tFLD := clampTo 100 2000 (field l 44 2)
  let tRCV := clampTo 1 60 (field l 46 1)
  ({ c with
    tGRD := msTicks tGRD.1, tSET := msTicks tSET.1, tTRF := msTicks tTRF.1, tTRS := msTicks tTRS.1
    tATN := msTicks tATN.1, tRMP := msTicks tRMP.1, tDWN := msTicks tDWN.1, tGRC := msTicks tGRC.1
    tSLK := msTicks tSLK.1, tHZN := tHZN.1 * 6000, tLATE := tLATE.1 * 6000, tEXR := tEXR.1 * 360000
    tEXL := tEXL.1 * 100, ageV := ageV.1, nTRP := nTRP.1, tWTRP := tWTRP.1 * 6000
    tRST := tRST.1 * 100, pMax := pMax.1, pFlr := pFlr.1, pfMin := pfMin.1, prAbs := prAbs.1
    qWrn := qWrn.1, qTrp := qTrp.1, fold := fold.1, tFLD := msTicks tFLD.1, tRCV := tRCV.1 * 100 },
   [tGRD, tSET, tTRF, tTRS, tATN, tRMP, tDWN, tGRC, tSLK, tHZN, tLATE, tEXR, tEXL, ageV, nTRP, tWTRP,
    tRST, pMax, pFlr, pfMin, prAbs, qWrn, qTrp, fold, tFLD, tRCV].any Prod.snd)

/-! ## Records from the host -/

/-- The entry record (Formats and Signals). -/
def entryOf (l : List Byte) : Entry :=
  { minute := field l 0 2, days := field l 2 1, dur := field l 3 2, freq := field l 5 2
    ant := field l 7 1, az := optField l 8 2, power := field l 10 2, program := field l 12 1
    cls := field l 13 1, cancelled := false, mark := none }

/-- The ad hoc record: the start second, and the entry with its absolute start (R103). -/
def adhocOf (l : List Byte) : Nat × AdHoc :=
  let sec := field l 2 4
  (sec,
   { start := field l 0 2 * Config.weekTicks + sec * 100, dur := field l 6 2, freq := field l 8 2
     ant := field l 10 1, az := optField l 11 2, power := field l 13 2, program := field l 15 1
     cls := field l 16 1, taken := false })

/-- The preset record at an offset; its valid byte comes apart. -/
def presetOf (l : List Byte) : Nat × Preset :=
  (field l 0 1,
   { valid := field l 0 1 == 1, freq := field l 1 2, ant := field l 3 1, tune := field l 4 2
     load := field l 6 2, band := field l 8 1, age := field l 9 2, hits := field l 11 1 })

/-- Field ranges of a preset written valid (R116, R127), its key computing to the named set (R115). -/
def Preset.writable (p : Preset) (i : Nat) : Bool :=
  decide (2300 ≤ p.freq) && decide (p.freq ≤ 26100) && decide (p.ant ≤ 31) && decide (p.tune ≤ 4095)
    && decide (p.load ≤ 4095) && decide (p.band ≤ 15) && presetIndex p.freq p.ant == i

/-! ## Enumeration codes -/

def statusCode : Status → Nat
  | .ok => 0 | .okClamped => 1 | .badPhase => 2 | .badArg => 3 | .full => 4 | .overlap => 5
  | .freqRange => 6 | .antBand => 7 | .noRoute => 8 | .busy => 9 | .notReady => 10 | .unknown => 11

def markCode : Mark → Nat
  | .heard => 0 | .active => 1 | .yielded => 2 | .objected => 3

def planCode : PlanState → Nat
  | .routing => 0 | .blocked => 1 | .ready => 2 | .switching => 3 | .tuning => 4 | .rampWait => 5
  | .ramping => 6 | .onAir => 7 | .ending => 8 | .done => 9 | .missed => 10 | .aborted => 11

def presetCode : PresetOutcome → Nat
  | .fresh => 0 | .stale => 1 | .miss => 2 | .nopreset => 3 | .continues => 4

def outcomeCode : AirOutcome → Nat
  | .aired => 0 | .late => 1 | .cut => 2 | .missed => 3 | .suppressed => 4 | .aborted => 5

def causeCode : AirCause → Nat
  | .noRoute => 1 | .lateLimit => 2 | .cancelled => 3 | .link => 4 | .lockout => 5 | .restart => 6
  | .stop => 7 | .tune => 8 | .trip => 9 | .power => 10

def tripCode : TripCause → Nat
  | .permitLoss => 1 | .reflected => 2 | .reflectedAbs => 3 | .foldFloor => 4 | .meter => 5
  | .rampTimeout => 6 | .rfHold => 7 | .arc => 8 | .cooling => 9 | .supply => 10 | .internal => 11

def faultCode : FaultCause → Nat
  | .arc => 1 | .cooling => 2 | .supply => 3 | .internal => 4

/-- The order of R37, to which the free codes of the view states are assigned (assumption 3). -/
def viewOrder : ViewState → Nat
  | .unknown => 0 | .set => 1 | .moving => 2 | .fault => 3 | .out => 4

/-- The code of a view state: a free value (assumption 3). -/
def viewByte (v : ViewState) : Byte := Config.viewStateCode (viewOrder v)

/-- A source: kind, then index or slot. -/
def sourceBytes : Source → List Nat
  | .table _ i => [0, i]
  | .adhoc k => [1, k]

/-- Clamp marks: bit 0 power, bit 1 azimuth. -/
def clampByte (p a : Bool) : Nat := flagNat p + 2 * flagNat a

def causeByte (c : Option AirCause) : Nat := (c.map causeCode).getD 0

/-! ## Response payloads -/

/-- The air record, 27 bytes. -/
def airBytes (r : AirRecord) : List Nat :=
  sourceBytes r.src ++ natBytes 4 r.a ++ [outcomeCode r.outcome] ++ natBytes 4 r.lateness
    ++ natBytes 4 r.early ++ natBytes 4 r.lost ++ optBytes 1 r.route
    ++ optBytes 1 (r.preset.map presetCode) ++ natBytes 2 (r.power.getD 0)
    ++ [clampByte r.clampP r.clampA] ++ natBytes 2 r.folds ++ [causeByte r.cause]

/-- READ-LOG, 29 bytes (R197, R202). -/
def State.logBytes (s : State) : List Nat :=
  match s.sp.airLog with
  | [] => List.replicate 29 0
  | r :: rest => [rest.length, 1] ++ airBytes r

/-- The preset record, 12 bytes. -/
def presetBytes (p : Preset) : List Nat :=
  [flagNat p.valid] ++ natBytes 2 p.freq ++ [p.ant] ++ natBytes 2 p.tune ++ natBytes 2 p.load
    ++ [p.band] ++ natBytes 2 p.age ++ [p.hits]

/-- The excluded routes as one 48-bit number. -/
def routeMask (l : List Nat) : Nat :=
  (List.range 48).foldl (fun acc r => acc + if l.contains r then 2 ^ r else 0) 0

/-- Bytes of the plan record. -/
def planRecordSize : Nat := 95

/-- The plan record in the order of R130. The field-width table has no row for its clamp marks; they take one byte, as in the
air record (assumption 42). -/
def planBytes (p : Plan) : List Nat :=
  [p.id] ++ sourceBytes p.src ++ [p.cls] ++ natBytes 6 p.absA ++ natBytes 4 p.a ++ natBytes 4 p.z
    ++ natBytes 4 p.late ++ natBytes 2 p.freq ++ [p.ant] ++ optBytes 2 p.az ++ [p.program]
    ++ natBytes 2 p.entryPower ++ optBytes 2 p.cmdPower ++ [clampByte p.clampP p.clampA]
    ++ optBytes 1 p.route ++ natBytes 6 (routeMask p.excluded) ++ [presetCode p.preset]
    ++ optBytes 1 (p.pin.map Prod.fst) ++ optBytes 1 (p.pin.map Prod.snd) ++ natBytes 4 p.t
    ++ optBytes 4 p.w ++ optBytes 4 p.u ++ optBytes 4 p.r ++ optBytes 1 p.booking
    ++ optBytes 1 (p.intent.map Prod.fst) ++ optBytes 4 (p.intent.map Prod.snd)
    ++ optBytes 4 p.swTick ++ optBytes 4 p.predTune ++ optBytes 4 p.predFull
    ++ natBytes 4 p.lateness ++ [planCode p.state, flagNat p.cont] ++ optBytes 4 p.firstFull
    ++ natBytes 4 p.lostAir ++ natBytes 2 p.folds ++ optBytes 1 (p.pendOut.map outcomeCode)
    ++ [causeByte p.cause]

/-- READ-PLAN (R131, R202). -/
def State.planReply (s : State) (id : Nat) : List Nat :=
  match s.plan id with
  | some p => 1 :: planBytes p
  | none => 0 :: List.replicate planRecordSize 0

/-- Bytes of an empty booking record: a descriptor of six steps and three bytes (assumption 17). -/
def emptyBookingSize : Nat := 34

/-- READ-BOOKING (R59, R70, R195): state or mark, announced state, release-pending. -/
def State.bookingReply (s : State) (idx : Nat) : List Nat :=
  if idx < 5 then
    match s.cm.own[idx]? with
    | some b => 1 :: descBytes b.desc ++ [bkCode b.state, 255, flagNat b.relPending]
    | none => 0 :: List.replicate emptyBookingSize 0
  else
    match s.mapOrder[idx - 5]? with
    | some r => 1 :: descBytes r.desc ++ [markCode r.mark, r.announced, 255]
    | none => 0 :: List.replicate emptyBookingSize 0

/-- A motion history: count, then four values, unused 0. -/
def historyBytes (h : List Nat) : List Nat :=
  h.length :: ((h ++ List.replicate (Config.historySize - h.length) 0).flatMap (natBytes 2))

/-- READ-ELEMENT of an element (R195, R202). -/
def State.elementReply (s : State) (id : Nat) (r : ElementRec) : List Byte :=
  let v := s.elv id
  let queued := (s.ed.driveQ.any fun q => q.item == id) || (s.inMotion .element id).isSome
  bytesOf ([id, r.home, r.count] ++ natBytes 2 r.rating ++ natBytes 4 r.nominal
      ++ [flagNat r.inService])
    ++ [viewByte v.state]
    ++ bytesOf (optBytes 2 v.pos ++ historyBytes v.history ++ [flagNat v.homeAbsent]
      ++ if s.homeHere r.home then
          natBytes 4 v.idle ++ [flagNat (s.exerciseDue id), flagNat (s.exerciseOverdue id),
            flagNat queued]
        else List.replicate 7 0)

/-- READ-ELEMENT of an antenna (R195, R202). The slew rate of an antenna that does not slew reads 255, since the
field-width table gives a slew rate no absent code: the model's choice (assumption 55). -/
def State.antennaReply (s : State) (id : Nat) (r : AntennaRec) : List Byte :=
  let v := s.anv id
  let queued := (s.ed.slewQ.any fun q => q.item == id) || (s.inMotion .antenna id).isSome
  bytesOf ([id, r.home] ++ natBytes 2 r.bands ++ natBytes 2 r.rating ++ [flagNat r.slew.isSome]
      ++ optBytes 2 (r.slew.map SlewRec.lo) ++ optBytes 2 (r.slew.map SlewRec.hi)
      ++ optBytes 1 (r.slew.map SlewRec.rate) ++ optBytes 2 (r.slew.map SlewRec.deflt))
    ++ [viewByte v.state]
    ++ bytesOf (optBytes 2 v.az ++ [flagNat v.homeAbsent,
      if s.homeHere r.home then flagNat queued else 0])

/-! ## The status record (R194) -/

/-- The presence byte and the sequencer byte of a station; the phase bits of a station never heard are a
free value (assumption 4), and so are those of a phase code that three bits cannot hold (assumption 57). -/
def State.peerBytes (s : State) (station : Nat) : List Byte :=
  let e := s.peer station
  match e.heard with
  | some (ph, sq) =>
    let phase := if ph < 8 then BitVec.ofNat 3 ph else Config.widePhaseBits ph
    [(BitVec.ofBool e.present ++ 0#4) ++ phase, byte sq]
  | none => [(0#5) ++ Config.unheardPhaseBits station, byte 255]

/-- The trip log of the status record: eight entries, unused ones absent. -/
def tripBytes (l : List (Nat × TripCause)) : List Nat :=
  (l.flatMap fun e => natBytes 4 e.1 ++ [tripCode e.2])
    ++ (List.replicate (Config.tripLogSize - l.length) [255, 255, 255, 255, 255]).flatten

/-- Ad hoc occupancy, bit s for slot s. -/
def State.adhocMask (s : State) : Nat :=
  (List.range Config.adhocSlots).foldl
    (fun acc k => acc + if (lookupKey k s.ss.adhoc).isSome then 2 ^ k else 0) 0

/-- The status record, 126 bytes. -/
def State.statusBytes (s : State) : List Byte :=
  bytesOf ([phaseCode s.phase,
      flagNat s.sp.restartMark + 2 * flagNat s.sp.stationLoaded + 4 * flagNat s.sp.timingLoaded
        + 8 * flagNat s.tb.timeSet,
      if s.sp.stationLoaded then s.cfg.stationId else 255, s.cfg.profile]
    ++ natBytes 2 s.flagWord
    ++ natBytes 2 s.tb.week ++ natBytes 4 s.tb.sow
    ++ [s.tb.tis, flagNat s.tb.timeSet + 2 * flagNat s.tb.good] ++ natBytes 2 s.tb.freeCount
    ++ [s.hlc.rxErr, s.hlc.txErr])
  ++ (List.range 16).flatMap s.peerBytes
  ++ bytesOf ([s.cm.own.length, s.cm.map.length] ++ optBytes 4 s.cm.horizon
    ++ [s.rl.intents.length]
    ++ [s.ss.active.entries.length, s.ss.pending.entries.length, s.adhocMask]
    ++ (match s.ss.arm with
        | some (w, sec) => natBytes 2 w ++ natBytes 4 sec
        | none => natBytes 2 0 ++ natBytes 4 4294967295)
    ++ [s.cp.plans.length] ++ optBytes 1 (s.currentPlan.map Plan.id)
    ++ [flagNat s.pd.freeze + 2 * flagNat s.pd.flush + 4 * flagNat s.pd.latch.isSome
        + 8 * flagNat s.pd.further]
    ++ optBytes 1 (s.pd.latch.map fun l => l.1) ++ optBytes 2 (s.pd.latch.map fun l => l.2.1)
    ++ optBytes 1 (s.pd.latch.map fun l => l.2.2)
    ++ [seqCode s.ts.state, flagNat s.ts.meterLost] ++ natBytes 2 s.ts.p
    ++ [s.ts.tripLog.length] ++ tripBytes s.ts.tripLog
    ++ [((s.ts.lastFault.map fun f => faultCode f.1)).getD 0]
    ++ optBytes 4 (s.ts.lastFault.map Prod.snd)
    ++ [s.ts.lastTuneFail.getD 0, s.ts.lineErr]
    ++ [s.sp.airLog.length])

end Sys2Proof.Machine
end

