-- ==== Sys2Proof/Machine/Port.lean ====
section
/-! DEFINITION. The schedule port (chapter 10): the SPI receiver, windows, the response buffer, and the effect and answer of
every host command at its completion. -/

namespace Sys2Proof.Machine

open Sys2Proof

/-! ## Windows (R182–R185) -/

/-- The port byte: response state and ATTN at the start of the window. -/
def State.portByte (s : State) : Byte :=
  byte ((match s.sp.resp with
    | .empty => 0
    | .busy => 1
    | .ready => 2) + 4 * flagNat s.attn)

/-- The command a select window is to the part, from what the host clocked in (R182): code 0 is the
fetch code; a window released before its first byte is none. -/
def windowCommand : List Byte → Option Instr
  | [] => none
  | c :: win =>
    some (match c.toNat with
      | 0 => .fetch (win.length + 1)
      | 1 => .setStation win | 2 => .setTiming win | 3 => .loadElement win
      | 4 => .loadAntenna win | 5 => .loadRoute win | 6 => .setTime win | 7 => .start win
      | 8 => .readStatus win | 9 => .clearFlags win | 10 => .readLog win | 11 => .readPreset win
      | 12 => .writePreset win | 13 => .readPlan win | 14 => .readBooking win
      | 15 => .readElement win | 16 => .loadEntry win | 17 => .clearPending win
      | 18 => .armChangeover win | 19 => .swapNow win | 20 => .loadAdhoc win
      | 21 => .cancelEntry win | 22 => .service win | 23 => .presetMode win
      | 24 => .setWindow win | 25 => .clearLockout win | 26 => .stop win | 27 => .restart win
      | _ => .unknownCommand c win)

/-! ## The SPI receiver (R182)

Mode 0: a bit of SDI is taken at each rising clock edge, and SDO changes at each falling one. -/

/-- What happens at the port's lines. -/
inductive SpiEvent
  | select
  | clock (sdi : Bool)
  | release
  | pinReset
  deriving DecidableEq, Repr

/-- The window in progress: the bits clocked in since select was asserted; none while it is released. -/
structure SpiInput where
  window : Option (List Bool)
  deriving DecidableEq, Repr

/-- No window in progress: after release, and after pin reset, which abandons one (R199). -/
def SpiInput.idle : SpiInput := { window := none }

/-- The bytes of a window, most significant bit first; a last byte left incomplete is discarded. -/
def spiBytes (l : List Bool) : List Byte :=
  (List.range (l.length / 8)).map fun i => byte (bitsNat ((l.drop (8 * i)).take 8))

/-- The bits SDO sends for the bytes of a window, most significant first. -/
def sdoBits (l : List Byte) : List Bool := l.flatMap fun b => natBits 8 b.toNat

/-- One event at the lines: an assertion begins a window, bits clocked while select is released are ignored, and the
release makes the window a command (R182). -/
def SpiInput.take (r : SpiInput) : SpiEvent → SpiInput × Option Instr
  | .select => ({ window := some [] }, none)
  | .clock b => ({ window := r.window.map (· ++ [b]) }, none)
  | .release => (SpiInput.idle, r.window.bind fun l => windowCommand (spiBytes l))
  | .pinReset => (SpiInput.idle, some .pinReset)

/-- The commands a run of events at the lines gives the part, in order. -/
def spiCommands (r : SpiInput) : List SpiEvent → List Instr
  | [] => []
  | e :: rest => (r.take e).2.toList ++ spiCommands (r.take e).1 rest

/-! ## Command windows (R183, R184) -/

/-- Phases in which a command is taken, by its code (R186). -/
def takenIn (code : Nat) (p : Phase) : Bool :=
  match code with
  | 1 | 2 | 3 | 4 | 5 | 6 | 7 => p == .config
  | 8 | 9 | 10 | 11 | 12 | 13 | 14 | 15 => true
  | 16 | 17 | 18 | 19 | 20 => p == .config || p == .running
  | 21 | 22 | 23 | 24 | 25 => p == .running
  | 26 => p == .joining || p == .running
  | 27 => p == .running || p == .halted || p == .linkFault
  | _ => false

/-- The payload length of a command (R202); none for a LOAD-ROUTE whose step count gives none. -/
def payloadLength (code : Nat) (payload : List Byte) : Option Nat :=
  match code with
  | 1 => some 9 | 2 => some 47 | 3 => some 8 | 4 => some 14
  | 5 =>
    let n := field payload 3 1
    if 1 ≤ n ∧ n ≤ 6 ∧ 4 ≤ payload.length then some (4 + 2 * n) else none
  | 6 => some 6 | 9 => some 2 | 11 => some 2 | 12 => some 14 | 13 => some 1 | 14 => some 1
  | 15 => some 2 | 16 => some 14 | 18 => some 6 | 20 => some 17 | 21 => some 2 | 22 => some 3
  | 23 => some 1 | 24 => some 5
  | _ => some 0

/-- A code that names a command. -/
def isCommand (code : Nat) : Bool := decide (1 ≤ code) && decide (code ≤ 27)

/-- How a command window that is neither ignored nor unknown is taken (R183, steps 4 to 6): the length
byte first, then the payload clocked in. -/
def takeWindow (phase : Phase) (code : Nat) (win : List Byte) : Taken :=
  match win with
  | [] => { code := code, payload := [], answer := some .badArg }
  | len :: rest =>
    if payloadLength code rest = some len.toNat ∧ len.toNat ≤ rest.length then
      if takenIn code phase then { code := code, payload := rest.take len.toNat, answer := none }
      else { code := code, payload := [], answer := some .badPhase }
    else { code := code, payload := [], answer := some .badArg }

/-- A command window, at the release of select (R183, R184): the receive buffer holds its bytes, the port byte and fill
bytes have been shifted out. The window is one step, so the port byte shows the state at that one moment, though select
was asserted earlier: the model's choice (assumption 39). -/
def State.commandWindow (s : State) (code : Nat) (win : List Byte) : State :=
  let s := s.withSp { s.sp with
    rx := byte code :: win, sdo := s.portByte :: List.replicate win.length (byte 0) }
  match s.sp.resp with
  | .busy => s.withFlags { s.flags with collision := true }
  | r =>
    let s := if r = .ready then
        (s.withSp { s.sp with response := none, hold := false }).withFlags
          { s.flags with overrun := true }
      else s
    s.withSp { s.sp with
      resp := .busy
      taken := some (if isCommand code then takeWindow s.phase code win
        else { code := code, payload := [], answer := some .unknown }) }

/-- The bytes a fetch window shifts out after the port byte (R185). -/
def State.fetchBytes (s : State) : List Byte :=
  match s.sp.resp, s.sp.response with
  | .ready, some r => byte (statusCode r.status) :: r.payload
  | _, _ => []

/-- A fetch window of `count` bytes, the fetch code included (R185, R197); a window released before its
first byte is no window (R182). Of the bytes clocked in the receive buffer keeps the fetch code, since no rule reads the
others (assumption 52). -/
def State.fetchWindow (s : State) (count : Nat) : State :=
  if count = 0 then s
  else
    let out := s.fetchBytes
    let s1 := s.withSp { s.sp with
      rx := [byte 0]
      sdo := (s.portByte :: out ++ List.replicate count (byte 0)).take count }
    match s.sp.resp, s.sp.response with
    | .ready, some _ =>
      if out.length + 1 ≤ count then
        s1.withSp { s1.sp with
          resp := .empty, response := none, hold := false
          airLog := if s1.sp.hold then s1.sp.airLog.drop 1 else s1.sp.airLog }
      else s1
    | _, _ => s1

/-! ## Answers -/

/-- A command's answer with its effect. -/
structure Answer where
  state   : State
  status  : Status
  payload : List Byte

/-- A refusal changes nothing (R183). -/
def State.answer (s : State) (st : Status) : Answer := { state := s, status := st, payload := [] }

/-- OK, or OK-CLAMPED. -/
def State.okIf (s : State) (clamped : Bool) : Answer := s.answer (if clamped then .okClamped else .ok)

/-- A read: OK, nothing changed. -/
def State.reply (s : State) (l : List Byte) : Answer := { state := s, status := .ok, payload := l }

/-! ## Configuration commands -/

/-- SET-STATION (R1, R187). -/
def State.doSetStation (s : State) (l : List Byte) : Answer :=
  if 15 < field l 0 1 then s.answer .badArg
  else
    let c := stationOf l s.cfg
    let s1 := if c.1.refnom = s.cfg.refnom then s
      else (s.withTb (s.tb.newRefnom s.cfg.refnom c.1.refnom (s.tb.cyclesRun s.freeCtr))).withFreeCtr
        (s.freeCtr + 1)
    ((s1.withCfg c.1).withSp { s.sp with stationLoaded := true }).okIf c.2

/-- SET-TIMING (R188). -/
def State.doSetTiming (s : State) (l : List Byte) : Answer :=
  let c := timingOf l s.cfg
  ((s.withCfg c.1).withSp { s.sp with timingLoaded := true }).okIf c.2

/-- LOAD-ELEMENT (R34). -/
def State.doLoadElement (s : State) (l : List Byte) : Answer :=
  let id := field l 0 1
  let home := field l 1 1
  let count := field l 2 1
  let rating := field l 3 2
  let ms := clampTo 100 60000 (field l 5 2)
  let service := field l 7 1
  if 95 < id ∨ 15 < home ∨ count < 2 ∨ 8 < count ∨ rating < 1 ∨ 1000 < rating ∨ 1 < service then
    s.answer .badArg
  else if Config.homeElementLimit ≤ s.ed.elements.countP (fun p => p.1 != id && p.2.home == home) then
    s.answer .full
  else if (s.element id).isSome
      && s.ed.routes.any fun r => r.2.steps.any fun st => st.1 == id && decide (count ≤ st.2) then
    s.answer .badArg
  else
    (s.withEd { s.ed with
      elements := putKey id { home := home, count := count, rating := rating
                              nominal := msTicks ms.1, inService := service == 1 } s.ed.elements
      elView := putKey id (s.elv id) s.ed.elView }).okIf ms.2

/-- LOAD-ANTENNA (R35). -/
def State.doLoadAntenna (s : State) (l : List Byte) : Answer :=
  let id := field l 0 1
  let home := field l 1 1
  let bands := field l 2 2
  let rating := field l 4 2
  let slewable := field l 6 1
  let w : SlewRec := { lo := field l 7 2, hi := field l 9 2, rate := field l 11 1, deflt := field l 12 2 }
  if 31 < id ∨ 15 < home ∨ 16383 < bands ∨ rating < 1 ∨ 1000 < rating ∨ 1 < slewable
      ∨ (slewable = 1 ∧ (359 < w.hi ∨ w.hi < w.lo ∨ w.rate < 5 ∨ 200 < w.rate ∨ w.deflt < w.lo
        ∨ w.hi < w.deflt)) then
    s.answer .badArg
  else if Config.homeAntennaLimit ≤ s.ed.antennas.countP (fun p => p.1 != id && p.2.home == home) then
    s.answer .full
  else
    (s.withEd { s.ed with
      antennas := putKey id { home := home, bands := bands, rating := rating
                              slew := if slewable = 1 then some w else none } s.ed.antennas
      anView := putKey id (s.anv id) s.ed.anView }).answer .ok

/-- No element stands in two steps. -/
def distinctSteps : List (Nat × Nat) → Bool
  | [] => true
  | st :: rest => !(rest.any fun x => x.1 == st.1) && distinctSteps rest

/-- LOAD-ROUTE (R36). -/
def State.doLoadRoute (s : State) (l : List Byte) : Answer :=
  let id := field l 0 1
  let ant := field l 1 1
  let pref := field l 2 1
  let steps := (stepPairs (l.drop 4)).take (field l 3 1)
  let stepOk := fun st : Nat × Nat => match s.element st.1 with
    | some r => decide (st.2 < r.count)
    | none => false
  if 47 < id ∨ (s.antenna ant).isNone ∨ 2 < pref ∨ steps.isEmpty ∨ 6 < steps.length
      ∨ steps.all stepOk = false ∨ distinctSteps steps = false then s.answer .badArg
  else if Config.routesPerAntenna ≤ s.ed.routes.countP (fun p => p.1 != id && p.2.antenna == ant) then
    s.answer .full
  else
    (s.withEd { s.ed with
      routes := putKey id { antenna := ant, pref := pref, steps := steps } s.ed.routes }).answer .ok

/-- SET-TIME (R6). -/
def State.doSetTime (s : State) (l : List Byte) : Answer :=
  let week := field l 0 2
  let sec := field l 2 4
  if Config.weekSeconds ≤ sec then s.answer .badArg
  else
    ((s.withTb { s.tb with week := week, sow := sec, timeSet := true }).noteInstants s.absNow).answer .ok

/-- START (R189). -/
def State.doStart (s : State) : Answer :=
  if s.sp.stationLoaded && s.sp.timingLoaded && s.tb.timeSet then s.enterJoining.answer .ok
  else s.answer .notReady

/-! ## Reading -/

/-- READ-LOG (R197). -/
def State.doReadLog (s : State) : Answer :=
  { state := s.withSp { s.sp with hold := !s.sp.airLog.isEmpty }
    status := .ok, payload := bytesOf s.logBytes }

/-- READ-PRESET (R127). -/
def State.doReadPreset (s : State) (l : List Byte) : Answer :=
  let i := field l 0 1
  let w := field l 1 1
  if 63 < i ∨ 1 < w then s.answer .badArg
  else
    let x := s.presetSet i
    s.reply (bytesOf (presetBytes (x.way w) ++ [x.pins w, x.lru]))

/-- WRITE-PRESET (R127). -/
def State.doWritePreset (s : State) (l : List Byte) : Answer :=
  let i := field l 0 1
  let w := field l 1 1
  let p := presetOf (l.drop 2)
  if 63 < i ∨ 1 < w ∨ 1 < p.1 ∨ (p.2.valid = true ∧ p.2.writable i = false) then s.answer .badArg
  else
    let x := s.presetSet i
    if 0 < x.pins w then s.answer .busy
    else
      (s.setPresetSet i (x.setWay w (if p.2.valid then p.2 else (x.way w).invalidate))).answer .ok

/-- READ-PLAN (R131). -/
def State.doReadPlan (s : State) (l : List Byte) : Answer :=
  if 3 < field l 0 1 then s.answer .badArg else s.reply (bytesOf (s.planReply (field l 0 1)))

/-- READ-BOOKING (R195). -/
def State.doReadBooking (s : State) (l : List Byte) : Answer :=
  if 68 < field l 0 1 then s.answer .badArg else s.reply (bytesOf (s.bookingReply (field l 0 1)))

/-- READ-ELEMENT (R195). -/
def State.doReadElement (s : State) (l : List Byte) : Answer :=
  let id := field l 1 1
  match field l 0 1 with
  | 0 =>
    match s.element id with
    | some r => s.reply (s.elementReply id r)
    | none => s.answer .badArg
  | 1 =>
    match s.antenna id with
    | some r => s.reply (s.antennaReply id r)
    | none => s.answer .badArg
  | _ => s.answer .badArg

/-! ## Tables -/

/-- LOAD-ENTRY (R100). -/
def State.doLoadEntry (s : State) (l : List Byte) : Answer :=
  let r := s.loadEntry (entryOf l)
  match r.2 with
  | .ok i => { state := r.1, status := .ok, payload := [byte i] }
  | .error st => s.answer st

/-- ARM-CHANGEOVER (R109). -/
def State.doArm (s : State) (l : List Byte) : Answer :=
  let arm := (field l 0 2, field l 2 4)
  if Config.weekSeconds ≤ arm.2 ∨ (s.phase = .running ∧ absDue (armInstant arm) s.absNow = true) then
    s.answer .badArg
  else (s.withSs { s.ss with arm := some arm }).answer .ok

/-- LOAD-ADHOC (R103). -/
def State.doLoadAdhoc (s : State) (l : List Byte) : Answer :=
  let x := adhocOf l
  if Config.weekSeconds ≤ x.1 then s.answer .badArg
  else match s.adhocCheck x.2 with
    | .ok i => { state := s.placeAdhoc i x.2, status := .ok, payload := [byte i] }
    | .error st => s.answer st

/-- CANCEL-ENTRY (R112). -/
def State.doCancel (s : State) (l : List Byte) : Answer :=
  let i := field l 1 1
  match field l 0 1 with
  | 0 =>
    match lookupKey i s.ss.active.entries with
    | some e => (s.cancelTable i e).answer .ok
    | none => s.answer .badArg
  | 1 =>
    match lookupKey i s.ss.adhoc with
    | some x => (s.cancelAdhoc i x).answer .ok
    | none => s.answer .badArg
  | _ => s.answer .badArg

/-! ## Plant and modes -/

/-- SERVICE (R51). -/
def State.doService (s : State) (l : List Byte) : Answer :=
  let id := field l 1 1
  let dir := field l 2 1
  let act := fun kind : ItemKind =>
    if s.isHome kind id = false ∨ 1 < dir then s.answer .badArg
    else if dir = 0 then (s.serviceOut kind id).answer .ok
    else (s.serviceIn kind id).answer .ok
  match field l 0 1 with
  | 0 => act .element
  | 1 => act .antenna
  | _ => s.answer .badArg

/-- PRESET-MODE (R125). -/
def State.doPresetMode (s : State) (l : List Byte) : Answer :=
  let m := field l 0 1
  if 3 < m then s.answer .badArg
  else (s.withPd { s.pd with freeze := m.testBit 0, flush := m.testBit 1 }).answer .ok

/-- SET-WINDOW (R117). -/
def State.doSetWindow (s : State) (l : List Byte) : Answer :=
  let n := field l 0 1
  let enable := field l 1 1
  let base := field l 2 2
  let k := field l 4 1
  if 3 < n ∨ 1 < enable ∨ 26100 < base ∨ k < 4 ∨ 14 < k then s.answer .badArg
  else
    (s.withPd { s.pd with
      windows := setAt n { enabled := enable == 1, base := base, k := k } s.pd.windows }).answer .ok

/-- STOP (R190). -/
def State.doStop (s : State) : Answer :=
  (match s.phase with
    | .joining => s.enterHalted
    | .running => s.enterStopping false
    | _ => s).answer .ok

/-- RESTART (R191). -/
def State.doRestart (s : State) : Answer :=
  (match s.phase with
    | .running => s.enterStopping true
    | .halted | .linkFault => s.restartJoining
    | _ => s).answer .ok

/-! ## Completion (R183) -/

/-- The command of a code with its payload: its effect and its answer. -/
def State.effect (s : State) (code : Nat) (l : List Byte) : Answer :=
  match code with
  | 1 => s.doSetStation l
  | 2 => s.doSetTiming l
  | 3 => s.doLoadElement l
  | 4 => s.doLoadAntenna l
  | 5 => s.doLoadRoute l
  | 6 => s.doSetTime l
  | 7 => s.doStart
  | 8 => s.reply s.statusBytes
  | 9 => (s.clearFlags (field l 0 2)).answer .ok
  | 10 => s.doReadLog
  | 11 => s.doReadPreset l
  | 12 => s.doWritePreset l
  | 13 => s.doReadPlan l
  | 14 => s.doReadBooking l
  | 15 => s.doReadElement l
  | 16 => s.doLoadEntry l
  | 17 => s.clearPending.answer .ok
  | 18 => s.doArm l
  | 19 => (s.swapAt s.absNow).answer .ok
  | 20 => s.doLoadAdhoc l
  | 21 => s.doCancel l
  | 22 => s.doService l
  | 23 => s.doPresetMode l
  | 24 => s.doSetWindow l
  | 25 => s.clearLockout.answer .ok
  | 26 => s.doStop
  | 27 => s.doRestart
  | _ => s.answer .unknown

/-- The answer of a taken command: the window's own, or its rule's. -/
def State.judge (s : State) (t : Taken) : Answer :=
  match t.answer with
  | some st => s.answer st
  | none => s.effect t.code t.payload

/-- A taken command completes: effect and response are one event (R183). -/
def State.complete (s : State) : State :=
  match s.sp.resp, s.sp.taken with
  | .busy, some t =>
    let a := s.judge t
    a.state.withSp { a.state.sp with
      resp := .ready, taken := none, response := some { status := a.status, payload := a.payload } }
  | _, _ => s

end Sys2Proof.Machine
end

