-- ==== Sys2Proof/Machine/PortCommands.lean ====
section
/-! DEFINITION. The windows of the schedule port. A command window is judged and taken at the release of
select (R183); COMMAND_COMPLETION makes its effect, by the rule each definition names. -/

namespace Sys2Proof.Machine

open Sys2Proof

/-- SET_STATION: the window of code 1; its effect (R187) comes at completion. -/
def execSetStation (win : List Byte) (s : State) : Host.Outcome State Fault Refusal :=
  run (fun s => s.commandWindow 1 win) s
/-- SET_TIMING: the window of code 2; its effect (R188) comes at completion. -/
def execSetTiming (win : List Byte) (s : State) : Host.Outcome State Fault Refusal :=
  run (fun s => s.commandWindow 2 win) s
/-- LOAD_ELEMENT: the window of code 3; its effect (R34) comes at completion. -/
def execLoadElement (win : List Byte) (s : State) : Host.Outcome State Fault Refusal :=
  run (fun s => s.commandWindow 3 win) s
/-- LOAD_ANTENNA: the window of code 4; its effect (R35) comes at completion. -/
def execLoadAntenna (win : List Byte) (s : State) : Host.Outcome State Fault Refusal :=
  run (fun s => s.commandWindow 4 win) s
/-- LOAD_ROUTE: the window of code 5; its effect (R36) comes at completion. -/
def execLoadRoute (win : List Byte) (s : State) : Host.Outcome State Fault Refusal :=
  run (fun s => s.commandWindow 5 win) s
/-- SET_TIME: the window of code 6; its effect (R6) comes at completion. -/
def execSetTime (win : List Byte) (s : State) : Host.Outcome State Fault Refusal :=
  run (fun s => s.commandWindow 6 win) s
/-- START: the window of code 7; its effect (R189) comes at completion. -/
def execStart (win : List Byte) (s : State) : Host.Outcome State Fault Refusal :=
  run (fun s => s.commandWindow 7 win) s
/-- READ_STATUS: the window of code 8; its effect (R194) comes at completion. -/
def execReadStatus (win : List Byte) (s : State) : Host.Outcome State Fault Refusal :=
  run (fun s => s.commandWindow 8 win) s
/-- CLEAR_FLAGS: the window of code 9; its effect (R193) comes at completion. -/
def execClearFlags (win : List Byte) (s : State) : Host.Outcome State Fault Refusal :=
  run (fun s => s.commandWindow 9 win) s
/-- READ_LOG: the window of code 10; its effect (R197) comes at completion. -/
def execReadLog (win : List Byte) (s : State) : Host.Outcome State Fault Refusal :=
  run (fun s => s.commandWindow 10 win) s
/-- READ_PRESET: the window of code 11; its effect (R127) comes at completion. -/
def execReadPreset (win : List Byte) (s : State) : Host.Outcome State Fault Refusal :=
  run (fun s => s.commandWindow 11 win) s
/-- WRITE_PRESET: the window of code 12; its effect (R127) comes at completion. -/
def execWritePreset (win : List Byte) (s : State) : Host.Outcome State Fault Refusal :=
  run (fun s => s.commandWindow 12 win) s
/-- READ_PLAN: the window of code 13; its effect (R131) comes at completion. -/
def execReadPlan (win : List Byte) (s : State) : Host.Outcome State Fault Refusal :=
  run (fun s => s.commandWindow 13 win) s
/-- READ_BOOKING: the window of code 14; its effect (R195) comes at completion. -/
def execReadBooking (win : List Byte) (s : State) : Host.Outcome State Fault Refusal :=
  run (fun s => s.commandWindow 14 win) s
/-- READ_ELEMENT: the window of code 15; its effect (R195) comes at completion. -/
def execReadElement (win : List Byte) (s : State) : Host.Outcome State Fault Refusal :=
  run (fun s => s.commandWindow 15 win) s
/-- LOAD_ENTRY: the window of code 16; its effect (R100) comes at completion. -/
def execLoadEntry (win : List Byte) (s : State) : Host.Outcome State Fault Refusal :=
  run (fun s => s.commandWindow 16 win) s
/-- CLEAR_PENDING: the window of code 17; its effect (R102) comes at completion. -/
def execClearPending (win : List Byte) (s : State) : Host.Outcome State Fault Refusal :=
  run (fun s => s.commandWindow 17 win) s
/-- ARM_CHANGEOVER: the window of code 18; its effect (R109) comes at completion. -/
def execArmChangeover (win : List Byte) (s : State) : Host.Outcome State Fault Refusal :=
  run (fun s => s.commandWindow 18 win) s
/-- SWAP_NOW: the window of code 19; its effect (R110) comes at completion. -/
def execSwapNow (win : List Byte) (s : State) : Host.Outcome State Fault Refusal :=
  run (fun s => s.commandWindow 19 win) s
/-- LOAD_ADHOC: the window of code 20; its effect (R103) comes at completion. -/
def execLoadAdhoc (win : List Byte) (s : State) : Host.Outcome State Fault Refusal :=
  run (fun s => s.commandWindow 20 win) s
/-- CANCEL_ENTRY: the window of code 21; its effect (R112) comes at completion. -/
def execCancelEntry (win : List Byte) (s : State) : Host.Outcome State Fault Refusal :=
  run (fun s => s.commandWindow 21 win) s
/-- SERVICE: the window of code 22; its effect (R51) comes at completion. -/
def execService (win : List Byte) (s : State) : Host.Outcome State Fault Refusal :=
  run (fun s => s.commandWindow 22 win) s
/-- PRESET_MODE: the window of code 23; its effect (R125) comes at completion. -/
def execPresetMode (win : List Byte) (s : State) : Host.Outcome State Fault Refusal :=
  run (fun s => s.commandWindow 23 win) s
/-- SET_WINDOW: the window of code 24; its effect (R117) comes at completion. -/
def execSetWindow (win : List Byte) (s : State) : Host.Outcome State Fault Refusal :=
  run (fun s => s.commandWindow 24 win) s
/-- CLEAR_LOCKOUT: the window of code 25; its effect (R178) comes at completion. -/
def execClearLockout (win : List Byte) (s : State) : Host.Outcome State Fault Refusal :=
  run (fun s => s.commandWindow 25 win) s
/-- STOP: the window of code 26; its effect (R190) comes at completion. -/
def execStop (win : List Byte) (s : State) : Host.Outcome State Fault Refusal :=
  run (fun s => s.commandWindow 26 win) s
/-- RESTART: the window of code 27; its effect (R191) comes at completion. -/
def execRestart (win : List Byte) (s : State) : Host.Outcome State Fault Refusal :=
  run (fun s => s.commandWindow 27 win) s
/-- UNKNOWN_COMMAND (R183): a window whose code names no command and is not the fetch code. -/
def execUnknownCommand (code : Byte) (win : List Byte) (s : State) :
    Host.Outcome State Fault Refusal :=
  run (fun s => if code.toNat = 0 ∨ isCommand code.toNat = true then s
    else s.commandWindow code.toNat win) s
/-- FETCH (R185). -/
def execFetch (count : Nat) (s : State) : Host.Outcome State Fault Refusal :=
  run (fun s => s.fetchWindow count) s
/-- COMMAND_COMPLETION (R183). -/
def execCommandCompletion (s : State) : Host.Outcome State Fault Refusal := run State.complete s

end Sys2Proof.Machine
end

