-- ==== Sys2Proof/Machine/SequencerCommands.lean ====
section
/-! DEFINITION. The reports of the transmitter line, RF-sense, and the sequencer's timers (R161–R176). -/

namespace Sys2Proof.Machine

open Sys2Proof

/-- The AT-POWER timer ends (R163). -/
def State.atPowerTimeout (s : State) : State :=
  if s.ts.state = .ramping ∧ s.ts.atpT = some 0 then s.trip .rampTimeout else s

/-- The fold interval timer ends (R168). -/
def State.foldIntervalEnds (s : State) : State :=
  if s.ts.foldT = some 0 then s.withTs { s.ts with foldT := none } else s

/-- The floor timer ends (R169). -/
def State.floorEnds (s : State) : State :=
  if s.ts.floorT = some 0 then s.trip .foldFloor else s

/-- TUNED (R161). -/
def execTuned (tune load band : Nat) (s : State) : Host.Outcome State Fault Refusal :=
  run (fun s => s.takeTuned tune load band) s
/-- TUNE_FAIL (R161). -/
def execTuneFail (code : Nat) (s : State) : Host.Outcome State Fault Refusal :=
  run (fun s => s.takeTuneFail code) s
/-- TUNE_TIMEOUT (R161). -/
def execTuneTimeout (s : State) : Host.Outcome State Fault Refusal := run State.tuneTimeout s
/-- AT_POWER (R163). -/
def execAtPower (s : State) : Host.Outcome State Fault Refusal := run State.atPower s
/-- AT_POWER_TIMEOUT (R163). -/
def execAtPowerTimeout (s : State) : Host.Outcome State Fault Refusal := run State.atPowerTimeout s
/-- RF_OFF (R163). -/
def execRfOff (s : State) : Host.Outcome State Fault Refusal := run State.takeRfOff s
/-- RF_OFF_TIMEOUT (R163). -/
def execRfOffTimeout (s : State) : Host.Outcome State Fault Refusal := run State.rfOffTimeout s
/-- RF_SENSE_CHANGE (R68). -/
def execRfSenseChange (high : Bool) (s : State) : Host.Outcome State Fault Refusal :=
  run (fun s => s.rfSense high) s
/-- METER (R167). -/
def execMeter (pf pr : Nat) (s : State) : Host.Outcome State Fault Refusal :=
  run (fun s => s.takeMeter pf pr) s
/-- FAULT (R171). -/
def execFault (c : FaultCause) (s : State) : Host.Outcome State Fault Refusal :=
  run (fun s => s.takeFault c) s
/-- TX_REPORT_DISCARDED (R203): whatever the reason, the line error count rises. -/
def execTxReportDiscarded (_why : DiscardReason) (s : State) : Host.Outcome State Fault Refusal :=
  run State.lineError s
/-- METER_LOST (R166). -/
def execMeterLost (s : State) : Host.Outcome State Fault Refusal := run State.meterLoss s
/-- METER_TIMEOUT (R166). -/
def execMeterTimeout (s : State) : Host.Outcome State Fault Refusal := run State.meterTimeout s
/-- FOLD_INTERVAL_END (R168). -/
def execFoldIntervalEnd (s : State) : Host.Outcome State Fault Refusal := run State.foldIntervalEnds s
/-- FOLD_FLOOR (R169). -/
def execFoldFloor (s : State) : Host.Outcome State Fault Refusal := run State.floorEnds s
/-- RECOVERY (R170). -/
def execRecovery (s : State) : Host.Outcome State Fault Refusal := run State.recover s
/-- STRAY_RF_TIMEOUT (R172). -/
def execStrayRfTimeout (s : State) : Host.Outcome State Fault Refusal := run State.strayTimeout s
/-- RESTART_DELAY_END (R175). -/
def execRestartDelayEnd (s : State) : Host.Outcome State Fault Refusal := run State.restartDelayEnds s
/-- TRIP_LOG_EXPIRY (R174). -/
def execTripLogExpiry (s : State) : Host.Outcome State Fault Refusal := run State.dropTrips s

end Sys2Proof.Machine
end

