-- ==== Sys2Proof/Machine/TimeCommands.lean ====
section
/-! DEFINITION. Pin reset, ticks, PPS edges, hour events and idle seconds (chapters 1 and 3). An event
whose condition does not hold changes nothing (assumption 1). -/

namespace Sys2Proof.Machine

open Sys2Proof

/-! ## What a tick counts (R12) -/

def PeerEntry.count (e : PeerEntry) : PeerEntry := { e with absence := countDown e.absence }

def Link.countTimers (l : Link) : Link :=
  { l with
    beaconT := countDown l.beaconT, joiningT := countDown l.joiningT
    presence := l.presence.map PeerEntry.count }

def Motion.count1 (m : Motion) : Motion := { m with count := m.count + 1, timer := m.timer - 1 }
def Slew.count1 (w : Slew) : Slew := { w with timer := w.timer - 1 }

/-- The motion and slew timers; every 100 ticks outside CONFIG an idle second is counted (R52). -/
def Drive.countTimers (d : Drive) (inConfig : Bool) : Drive :=
  let d := { d with motion := d.motion.map Motion.count1, slew := d.slew.map Slew.count1 }
  if inConfig then d
  else if d.idleTicks + 1 < 100 then { d with idleTicks := d.idleTicks + 1 }
  else { d with idleTicks := 0, idleDue := d.idleDue + 1 }

def OwnBooking.count (b : OwnBooking) : OwnBooking :=
  { b with listen := countDown b.listen, confirm := countDown b.confirm }

/-- The meter watch counts up (R166); the other timers count down. -/
def Sequencer.countTimers (t : Sequencer) : Sequencer :=
  { t with
    foldT := countDown t.foldT, floorT := countDown t.floorT, recT := countDown t.recT
    meterGap := t.meterGap.map (· + 1), restartT := countDown t.restartT
    tuneT := countDown t.tuneT, atpT := countDown t.atpT, rfoffT := countDown t.rfoffT
    strayT := countDown t.strayT }

/-- Every elapsed timer of the part counts one tick (R12). -/
def State.countTimers (s : State) : State :=
  { s with
    hlc := s.hlc.countTimers
    ed := s.ed.countTimers (s.phase == .config)
    cm := { s.cm with own := s.cm.own.map OwnBooking.count }
    cp := { s.cp with guardT := countDown s.cp.guardT }
    ts := s.ts.countTimers }

/-- A second advance: the exercise scan (R53) and the retry of BLOCKED plans (R141). The scan comes first, so that it claims
before a retried plan does: the model's choice (assumption 56). -/
def State.secondWork (s : State) : State := s.exerciseScan.report [.retryBlocked]

/-- A counted tick (R2). -/
def State.tick (s : State) : State :=
  let missing := s.tb.freeMark
  let poor := s.tb.turnsPoor
  let advances := decide (99 ≤ s.tb.tis)
  let s1 := (s.withTb (s.tb.countTick s.cfg.refnom)).withFlags
    { s.flags with
      ppsMissing := s.flags.ppsMissing || missing, poorTime := s.flags.poorTime || poor }
  let s2 := s1.countTimers.noteInstants s.absNow
  if advances then s2.secondWork else s2

/-- A rising PPS edge, `cycles` reference cycles after the last tick or edge (R3, R4). -/
def State.ppsEdge (s : State) (cycles : Nat) : State :=
  let tb := s.tb.runTo s.cfg.refnom cycles
  let c := tb.capCount
  let tb := { tb with capCount := 0 }
  match edgeClass s.cfg.refnom c with
  | .reference => s.withTb tb
  | .rejected => (s.withTb tb).withFlags { s.flags with ppsReject := true }
  | .accepted =>
    let s1 := ((s.withTb (tb.acceptEdge c)).noteInstants s.absNow).afterGate s
    if tb.edgeAdvances then s1.secondWork else s1

/-- An hour event (R11, R126). -/
def State.hourEvent (s : State) : State :=
  if 0 < s.tb.hourDue then
    (s.withTb { s.tb with hourDue := s.tb.hourDue - 1 }).withPd s.pd.ageHour
  else s

/-- An idle second (R52). -/
def State.idleEvent (s : State) : State :=
  if 0 < s.ed.idleDue then (s.withEd { s.ed with idleDue := s.ed.idleDue - 1 }).idleSecond else s

/-! ## The commands -/

/-- PIN_RESET (R199). -/
def execPinReset (s : State) : Host.Outcome State Fault Refusal := run State.pinReset s
/-- TICK (R2). -/
def execTick (s : State) : Host.Outcome State Fault Refusal := run State.tick s
/-- PPS_EDGE (R3). -/
def execPpsEdge (cycles : Nat) (s : State) : Host.Outcome State Fault Refusal :=
  run (fun s => s.ppsEdge cycles) s
/-- HOUR_EVENT (R11). -/
def execHourEvent (s : State) : Host.Outcome State Fault Refusal := run State.hourEvent s
/-- IDLE_SECOND (R52). -/
def execIdleSecond (s : State) : Host.Outcome State Fault Refusal := run State.idleEvent s

end Sys2Proof.Machine
end

