-- ==== Sys2Proof/Machine/Dispatch.lean ====
section
/-! DEFINITION. `exec`: one arm per command of the table, each one direct call of its meaning. -/

namespace Sys2Proof.Machine

open Sys2Proof

def exec (i : Instr) (s : State) : Host.Outcome State Fault Refusal :=
  match i with
  | .pinReset => Sys2Proof.Machine.execPinReset s
  | .tick => Sys2Proof.Machine.execTick s
  | .ppsEdge cycles => Sys2Proof.Machine.execPpsEdge cycles s
  | .hourEvent => Sys2Proof.Machine.execHourEvent s
  | .idleSecond => Sys2Proof.Machine.execIdleSecond s
  | .setTime win => Sys2Proof.Machine.execSetTime win s
  | .attemptStart => Sys2Proof.Machine.execAttemptStart s
  | .lostArbitration => Sys2Proof.Machine.execLostArbitration s
  | .attemptAbort => Sys2Proof.Machine.execAttemptAbort s
  | .busyTimeout => Sys2Proof.Machine.execBusyTimeout s
  | .linkFaultEntry => Sys2Proof.Machine.execLinkFaultEntry s
  | .frameSent => Sys2Proof.Machine.execFrameSent s
  | .pendingSlotEmptied => Sys2Proof.Machine.execPendingSlotEmptied s
  | .badFrame => Sys2Proof.Machine.execBadFrame s
  | .beacon h b => Sys2Proof.Machine.execBeacon h b s
  | .claim h d => Sys2Proof.Machine.execClaim h d s
  | .object h claimant claimNum objNum => Sys2Proof.Machine.execObject h claimant claimNum objNum s
  | .release h num => Sys2Proof.Machine.execRelease h num s
  | .air h num => Sys2Proof.Machine.execAir h num s
  | .move h kind item num target => Sys2Proof.Machine.execMove h kind item num target s
  | .position h p => Sys2Proof.Machine.execPosition h p s
  | .rampIntent h num at_ => Sys2Proof.Machine.execRampIntent h num at_ s
  | .rampCancel h num => Sys2Proof.Machine.execRampCancel h num s
  | .beaconTimer => Sys2Proof.Machine.execBeaconTimer s
  | .peerAbsent station => Sys2Proof.Machine.execPeerAbsent station s
  | .joiningTimerEnd => Sys2Proof.Machine.execJoiningTimerEnd s
  | .loadElement win => Sys2Proof.Machine.execLoadElement win s
  | .loadAntenna win => Sys2Proof.Machine.execLoadAntenna win s
  | .loadRoute win => Sys2Proof.Machine.execLoadRoute win s
  | .driveTurn => Sys2Proof.Machine.execDriveTurn s
  | .targetSensed => Sys2Proof.Machine.execTargetSensed s
  | .motionTimeout valid code => Sys2Proof.Machine.execMotionTimeout valid code s
  | .slewTurn => Sys2Proof.Machine.execSlewTurn s
  | .slewTargetSensed => Sys2Proof.Machine.execSlewTargetSensed s
  | .slewTimeout code => Sys2Proof.Machine.execSlewTimeout code s
  | .unbiddenChange kind chan valid code => Sys2Proof.Machine.execUnbiddenChange kind chan valid code s
  | .service win => Sys2Proof.Machine.execService win s
  | .listenTimerEnd num => Sys2Proof.Machine.execListenTimerEnd num s
  | .confirmTimerEnd num => Sys2Proof.Machine.execConfirmTimerEnd num s
  | .ownBookingUntil => Sys2Proof.Machine.execOwnBookingUntil s
  | .peerRecordExpiry => Sys2Proof.Machine.execPeerRecordExpiry s
  | .intentExpiry => Sys2Proof.Machine.execIntentExpiry s
  | .startCheck => Sys2Proof.Machine.execStartCheck s
  | .loadEntry win => Sys2Proof.Machine.execLoadEntry win s
  | .clearPending win => Sys2Proof.Machine.execClearPending win s
  | .loadAdhoc win => Sys2Proof.Machine.execLoadAdhoc win s
  | .armChangeover win => Sys2Proof.Machine.execArmChangeover win s
  | .swapNow win => Sys2Proof.Machine.execSwapNow win s
  | .changeoverInstant => Sys2Proof.Machine.execChangeoverInstant s
  | .cancelEntry win => Sys2Proof.Machine.execCancelEntry win s
  | .planningInstant => Sys2Proof.Machine.execPlanningInstant s
  | .occurrenceLateLimit => Sys2Proof.Machine.execOccurrenceLateLimit s
  | .readPreset win => Sys2Proof.Machine.execReadPreset win s
  | .writePreset win => Sys2Proof.Machine.execWritePreset win s
  | .presetMode win => Sys2Proof.Machine.execPresetMode win s
  | .setWindow win => Sys2Proof.Machine.execSetWindow win s
  | .switchingStart => Sys2Proof.Machine.execSwitchingStart s
  | .guardTimerEnd => Sys2Proof.Machine.execGuardTimerEnd s
  | .planLateLimit plan => Sys2Proof.Machine.execPlanLateLimit plan s
  | .airStart => Sys2Proof.Machine.execAirStart s
  | .airEnd => Sys2Proof.Machine.execAirEnd s
  | .readPlan win => Sys2Proof.Machine.execReadPlan win s
  | .tuned tune load band => Sys2Proof.Machine.execTuned tune load band s
  | .tuneFail code => Sys2Proof.Machine.execTuneFail code s
  | .tuneTimeout => Sys2Proof.Machine.execTuneTimeout s
  | .atPower => Sys2Proof.Machine.execAtPower s
  | .atPowerTimeout => Sys2Proof.Machine.execAtPowerTimeout s
  | .rfOff => Sys2Proof.Machine.execRfOff s
  | .rfOffTimeout => Sys2Proof.Machine.execRfOffTimeout s
  | .rfSenseChange high => Sys2Proof.Machine.execRfSenseChange high s
  | .meter pf pr => Sys2Proof.Machine.execMeter pf pr s
  | .fault cause => Sys2Proof.Machine.execFault cause s
  | .txReportDiscarded why => Sys2Proof.Machine.execTxReportDiscarded why s
  | .meterLost => Sys2Proof.Machine.execMeterLost s
  | .meterTimeout => Sys2Proof.Machine.execMeterTimeout s
  | .foldIntervalEnd => Sys2Proof.Machine.execFoldIntervalEnd s
  | .foldFloor => Sys2Proof.Machine.execFoldFloor s
  | .recovery => Sys2Proof.Machine.execRecovery s
  | .strayRfTimeout => Sys2Proof.Machine.execStrayRfTimeout s
  | .restartDelayEnd => Sys2Proof.Machine.execRestartDelayEnd s
  | .tripLogExpiry => Sys2Proof.Machine.execTripLogExpiry s
  | .clearLockout win => Sys2Proof.Machine.execClearLockout win s
  | .setStation win => Sys2Proof.Machine.execSetStation win s
  | .setTiming win => Sys2Proof.Machine.execSetTiming win s
  | .start win => Sys2Proof.Machine.execStart win s
  | .stop win => Sys2Proof.Machine.execStop win s
  | .restart win => Sys2Proof.Machine.execRestart win s
  | .readStatus win => Sys2Proof.Machine.execReadStatus win s
  | .clearFlags win => Sys2Proof.Machine.execClearFlags win s
  | .readLog win => Sys2Proof.Machine.execReadLog win s
  | .readBooking win => Sys2Proof.Machine.execReadBooking win s
  | .readElement win => Sys2Proof.Machine.execReadElement win s
  | .unknownCommand code win => Sys2Proof.Machine.execUnknownCommand code win s
  | .fetch count => Sys2Proof.Machine.execFetch count s
  | .commandCompletion => Sys2Proof.Machine.execCommandCompletion s
  | .adHocEnd => Sys2Proof.Machine.execAdHocEnd s

end Sys2Proof.Machine
end

