-- ==== Sys2Proof/Machine/LineFormat.lean ====
section
/-! DEFINITION. Messages of the transmitter line as bytes (Formats and Signals, R203): the commands
the part sends and the receiver that turns the bytes heard into reports. -/

namespace Sys2Proof.Machine

open Sys2Proof

/-! ## Commands -/

def txType : TxMsg → Nat
  | .set .. => 1 | .preset .. => 2 | .trim => 3 | .autotune => 4 | .up _ => 5 | .power _ => 6
  | .down => 7

def txPayload : TxMsg → List Nat
  | .set f p => natBytes 2 f ++ [p]
  | .preset t l b => natBytes 2 t ++ natBytes 2 l ++ [b]
  | .up kw => natBytes 2 kw
  | .power kw => natBytes 2 kw
  | .trim => []
  | .autotune => []
  | .down => []

/-- A command on TXD: sync byte, type, payload, check byte. -/
def txBytes (m : TxMsg) : List Nat :=
  [2, txType m] ++ txPayload m ++ [(txType m + (txPayload m).foldl (· + ·) 0) % 256]

/-! ## Reports -/

/-- Payload length of a report type (65–70). -/
def reportLength : Nat → Option Nat
  | 65 => some 5 | 66 => some 1 | 67 => some 0 | 68 => some 0 | 69 => some 4 | 70 => some 1
  | _ => none

def faultCauseOf : Nat → Option FaultCause
  | 1 => some .arc | 2 => some .cooling | 3 => some .supply | 4 => some .internal
  | _ => none

/-- The positions of a TUNED report are in range (R203). -/
def tunedInRange (tune load band : Nat) : Bool :=
  decide (tune ≤ 4095) && decide (load ≤ 4095) && decide (band ≤ 15)

/-- A report by type and payload; a field out of range is a discard (R203). -/
def reportOf (type : Nat) (l : List Nat) : Instr :=
  match type, l with
  | 65, [t1, t0, l1, l0, b] =>
    if tunedInRange (bytesNat [t1, t0]) (bytesNat [l1, l0]) b then
      .tuned (bytesNat [t1, t0]) (bytesNat [l1, l0]) b
    else .txReportDiscarded .badField
  | 66, [c] => if c = 0 then .txReportDiscarded .badField else .tuneFail c
  | 67, [] => .atPower
  | 68, [] => .rfOff
  | 69, [f1, f0, r1, r0] => .meter (bytesNat [f1, f0]) (bytesNat [r1, r0])
  | 70, [c] =>
    match faultCauseOf c with
    | some f => .fault f
    | none => .txReportDiscarded .badField
  | _, _ => .txReportDiscarded .badType

/-- Where the receiver stands in a message (R203). -/
inductive LineRx
  | sync
  /-- The sync byte is in; `late` says that a gap has fallen since. -/
  | type (late : Bool)
  /-- The type is in; `left` bytes of payload and the check byte are to come. -/
  | body (type left : Nat) (got : List Nat)
  deriving DecidableEq, Repr

/-- One byte, or a gap of more than 2 ms (none), at the receiver: where it stands after, and the
command it makes (R203). A message whose type is in is discarded and counted at the gap itself, and the byte after the gap
may be the next sync byte, though R203 has the gap fall between two bytes of the message: the model's choice
(assumption 53). -/
def lineStep : LineRx → Option Nat → LineRx × Option Instr
  | .sync, some b => (if b = 2 then .type false else .sync, none)
  | .sync, none => (.sync, none)
  | .type _, none => (.type true, none)
  | .type late, some b =>
    match reportLength b with
    | none => (.sync, some (.txReportDiscarded .badType))
    | some n => if late then (.sync, some (.txReportDiscarded .gap)) else (.body b n [], none)
  | .body _ _ _, none => (.sync, some (.txReportDiscarded .gap))
  | .body ty (k + 1) got, some b => (.body ty k (got ++ [b]), none)
  | .body ty 0 got, some b =>
    (.sync, some
      (if (ty + got.foldl (· + ·) 0) % 256 = b then reportOf ty got
       else .txReportDiscarded .badCheck))

/-- The commands a stream of bytes and gaps makes. -/
def lineCommands : LineRx → List (Option Nat) → List Instr
  | _, [] => []
  | r, x :: rest =>
    let o := lineStep r x
    match o.2 with
    | some i => i :: lineCommands o.1 rest
    | none => lineCommands o.1 rest

end Sys2Proof.Machine
end

