-- ==== Sys2Proof/Safety.lean ====
section
/-! DEFINITION. What claims speak of: the events that are due in a state, a timely run, a served host command,
the invariants of the timebase, the link, the keyed tables and the sequencer, and what may not be sent in LOCKOUT. -/

namespace Sys2Proof.Machine

open Sys2Proof

/-! ## Due events (R12) -/

/-- A command, when its event is due. -/
def dueWhen (b : Bool) (c : Instr) : List Instr := if b then [c] else []

/-- The timers, counts and queues of the timebase, the link and the drive whose events are due. -/
def State.dueBelow (s : State) : List Instr :=
  dueWhen (decide (0 < s.tb.hourDue)) .hourEvent
    ++ dueWhen (decide (0 < s.ed.idleDue)) .idleSecond
    ++ dueWhen (decide (s.hlc.txErr = Config.linkFaultDrops) && sendsIn s.phase) .linkFaultEntry
    ++ dueWhen (decide (s.hlc.queue.length < Config.queueSize) && !s.hlc.slots.isEmpty)
        .pendingSlotEmptied
    ++ dueWhen (ended s.hlc.beaconT) .beaconTimer
    ++ ((List.range 16).filter fun n => (s.peer n).present && ended (s.peer n).absence).map .peerAbsent
    ++ dueWhen (s.phase == .joining && ended s.hlc.joiningT) .joiningTimerEnd
    ++ dueWhen (s.ed.motion.isNone && !s.ed.driveQ.isEmpty) .driveTurn
    ++ dueWhen (s.ed.slew.isNone && !s.ed.slewQ.isEmpty) .slewTurn

/-- The events of bookings and intents that are due. -/
def State.dueBookings (s : State) : List Instr :=
  ((s.cm.own.filter fun b => b.state == .tentative && ended b.listen).map
      fun b => .listenTimerEnd b.desc.num)
    ++ ((s.cm.own.filter fun b => b.state == .moving && ended b.confirm && s.stands b.desc).map
      fun b => .confirmTimerEnd b.desc.num)
    ++ dueWhen (s.cm.own.any s.untilActs) .ownBookingUntil
    ++ dueWhen (s.cm.map.any fun r => due r.desc.stop s.now) .peerRecordExpiry
    ++ dueWhen (s.rl.intents.any s.intentExpired) .intentExpiry
    ++ dueWhen s.checkReady.isSome .startCheck

/-- A plan's late limit calls for an act (R141, R143, R151). -/
def State.lateActs (s : State) (p : Plan) : Bool :=
  due p.late s.now
    && match p.state with
      | .blocked => true
      | .ready => true
      | .switching | .tuning | .rampWait => p.firstFull.isNone && !p.limitPast
      | _ => false

/-- The events of the schedule store and the planner that are due. -/
def State.duePlans (s : State) : List Instr :=
  dueWhen (s.phase != .config && s.armDue) .changeoverInstant
    ++ dueWhen (s.phase == .running && !s.openOccs.isEmpty
        && decide (s.cp.plans.length < Config.planQueueSize)) .planningInstant
    ++ dueWhen (!s.ss.lateDue.isEmpty) .occurrenceLateLimit
    ++ dueWhen (!s.ss.endDue.isEmpty) .adHocEnd
    ++ dueWhen (ended s.cp.guardT) .guardTimerEnd
    ++ dueWhen s.switchReady.isSome .switchingStart
    ++ ((s.cp.plans.filter s.lateActs).map fun p => .planLateLimit p.id)
    ++ (match s.currentPlan with
      | some p =>
        dueWhen (s.programDue p) .airStart
          ++ dueWhen ((p.state == .onAir || p.state == .ramping || p.state == .rampWait)
              && due p.z s.now) .airEnd
      | none => [])

/-- The timers of the sequencer that have ended. -/
def State.dueSequencer (s : State) : List Instr :=
  dueWhen (s.ts.state == .tuning && ended s.ts.tuneT) .tuneTimeout
    ++ dueWhen (s.ts.state == .ramping && ended s.ts.atpT) .atPowerTimeout
    ++ dueWhen (s.ts.state == .down && ended s.ts.rfoffT) .rfOffTimeout
    ++ dueWhen ((s.ts.meterGap.map fun g => decide (Config.meterLostGap ≤ g)).getD false
        && !s.ts.meterLost) .meterLost
    ++ dueWhen ((s.ts.meterGap.map fun g => decide (Config.meterTripGap ≤ g)).getD false) .meterTimeout
    ++ dueWhen (ended s.ts.foldT) .foldIntervalEnd
    ++ dueWhen (ended s.ts.floorT) .foldFloor
    ++ dueWhen (ended s.ts.recT) .recovery
    ++ dueWhen (ended s.ts.strayT) .strayRfTimeout
    ++ dueWhen (s.ts.state == .tripped && ended s.ts.restartT) .restartDelayEnd
    ++ dueWhen (s.ts.tripLog.any fun e => due (addT e.1 s.cfg.tWTRP) s.now) .tripLogExpiry

/-- The commands whose events are due now. The manual gives no order among them. -/
def State.dueEvents (s : State) : List Instr :=
  s.dueBelow ++ s.dueBookings ++ s.duePlans ++ s.dueSequencer

/-- A run that is timely: time goes on (a tick or a PPS edge) only when no event is due (R12). -/
def timely : List Instr → State → Bool
  | [], _ => true
  | c :: rest, s =>
    (match c with
      | .tick | .ppsEdge _ => s.dueEvents.isEmpty
      | _ => true)
    && match exec c s with
      | .next t => timely rest t
      | _ => true

/-- No plan stands in the queue, no exercise runs, the sequencer is IDLE and the phase is not STOPPING:
what the blocks tell one another finds nobody to act on it. -/
def State.quiet (s : State) : Bool :=
  s.cp.plans.isEmpty && s.ed.exercise.isNone && s.ts.state == .idle && s.sp.phase != .stopping

/-- Commands that tell the part of new levels on its inputs (Signals). -/
def movesInputs : Instr → Bool
  | .targetSensed => true
  | .motionTimeout _ _ => true
  | .slewTargetSensed => true
  | .slewTimeout _ => true
  | .unbiddenChange _ _ _ _ => true
  | .rfSenseChange _ => true
  | _ => false

/-! ## Host commands -/

/-- The window of a host command: its length byte, its payload, and whatever else is clocked in before select
is released (R182). The command code is the command itself. -/
def hostWindow (payload extra : List Byte) : List Byte := byte payload.length :: payload ++ extra

/-- A host command is served: its window, with the response buffer empty, makes it BUSY in `m`, and
COMMAND_COMPLETION takes `m` to `t` (R183). -/
def Serves (c : Instr) (s t : State) : Prop :=
  ∃ m, exec c s = .next m ∧ m.sp.resp = .busy ∧ exec .commandCompletion m = .next t

/-- What a host command leaves that changes the port alone: its window, code byte `code` and then `win`, shifted the port
byte out and stands in the receive buffer, and the response stands READY (R182, R183, R185). -/
def State.answered (s : State) (code : Byte) (win : List Byte) (st : Status) (payload : List Byte) : State :=
  (s.withReports []).withSp { s.sp with
    resp := .ready, taken := none, response := some { status := st, payload := payload }
    rx := code :: win, sdo := s.portByte :: List.replicate win.length (byte 0) }

/-! ## Picks -/

/-- A command takes the pending intent away, leaves the link at `l`, and picks again for the held request `q` with the
bounds of `search` (R87, R88): where the intents left give the search a tick and the log has room, the new intent stands in
the log UNSENT under the next number, its RAMP-INTENT in the queue, and the plan shows it; the request is held with its own
bounds. -/
def PicksAgain (c : Instr) (s : State) (q search : PickReq) (l : Link) : Prop :=
  let left := s.rl.intents.filter fun z => !z.isPending
  let b := search.raise s.now
  let num := nextNumber s.rl.numCtr ((left.filter fun z => z.own.isSome).map Intent.num ++ s.rl.unsent)
  ∀ tick, q.bySeq = false ∨ s.ts.state ≠ .tripped → left.length < Config.rampLogSize →
    searchTick (windowRule s.cfg.nRMP s.cfg.tWRMP (left.map Intent.tick)) b.desired b.lowest s.cfg.tSLK b.limit
      = some tick →
    ∃ t, exec c s = .next t
      ∧ t.hlc = { l with queue := enqueue l.queue (.rampIntent num tick) }
      ∧ t.rl = { s.rl with intents := t.rl.intents, numCtr := num, request := some { q with waiting := false } }
      ∧ t.rl.intents.Perm ({ station := s.cfg.stationId, num := num, tick := tick, order := none
                             own := some .unsent } :: left)
      ∧ (∀ p ∈ t.cp.plans, p.id = q.plan → p.intent = some (num, tick))
      ∧ t.cm = s.cm ∧ t.ts = s.ts ∧ t.ed = s.ed ∧ t.sp = s.sp

/-! ## Invariants -/

/-- A second-of-week offset held lies within half a week (R7). -/
def offsetInRange (k : Int) : Bool := decide (-302400 ≤ k) && decide (k < 302400)

/-- The timebase is in range (R1, R2, R3, R5, R7, R11, R13). -/
def State.timeInRange (s : State) : Bool :=
  decide (8000 ≤ s.cfg.refnom) && decide (s.cfg.refnom ≤ 12000)
    && decide (s.tb.divCount < s.tb.d) && decide (s.tb.capCount ≤ captureLimit s.cfg.refnom)
    && decide (s.tb.tis ≤ 99) && decide (s.tb.sow < Config.weekSeconds) && decide (s.tb.week < Config.weekCount)
    && decide (s.tb.freeCount ≤ Config.freeRunLimit) && decide (s.tb.hourCtr < Config.hourSeconds)
    && decide (s.tb.offsets.length = 16) && s.tb.offsets.all fun o => (o.map offsetInRange).getD true

/-- Queue order: priority numbers do not fall from the head to the tail (R23). -/
def prioritiesRise : List QFrame → Bool
  | [] => true
  | [_] => true
  | x :: y :: rest =>
    decide (framePriority x.frame ≤ framePriority y.frame) && prioritiesRise (y :: rest)

/-- No block holds two pending slots (R24). -/
def slotsApart : List Frame → Bool
  | [] => true
  | f :: rest => (rest.all fun g => frameBlock g != frameBlock f) && slotsApart rest

/-- The transmit queue holds at most 16 frames in priority order; each block has at most one pending
frame, and no BEACON is pending (R23, R24). -/
def Link.queued (l : Link) : Bool :=
  decide (l.queue.length ≤ Config.queueSize) && prioritiesRise l.queue && slotsApart l.slots
    && l.slots.all fun f => !isBeacon f

/-- The records of the peer map rise by holder and number: no two under one key (R57, R70). -/
def recsRise : List PeerRec → Bool
  | [] => true
  | [_] => true
  | x :: y :: rest => recBefore x y && recsRise (y :: rest)

/-- The peer map is in its one form and within its capacity (R70). -/
def ClaimMap.mapForm (c : ClaimMap) : Bool :=
  recsRise c.map && decide (c.map.length ≤ Config.mapSize)

/-- Every table kept by key is in its one form. -/
def State.tablesForm (s : State) : Bool :=
  keysRise s.ed.elements && keysRise s.ed.antennas && keysRise s.ed.routes && keysRise s.ed.elView
    && keysRise s.ed.anView && keysRise s.ss.active.entries && keysRise s.ss.pending.entries
    && keysRise s.ss.adhoc

/-- The link's queue, the peer map and every table kept by key are in their one form. -/
def State.formsKept (s : State) : Bool := s.hlc.queued && s.cm.mapForm && s.tablesForm

/-- In STOPPING every plan in the queue is ENDING (R157). -/
def State.stopEnds (s : State) : Bool :=
  s.phase != .stopping || s.cp.plans.all fun p => p.state == .ending

/-- The plan queue holds at most 4 plans, no two with one id; at most one is current, and every other one is in ROUTING,
BLOCKED or READY (R130, R131). -/
def State.planBound (s : State) : Bool :=
  decide (s.cp.plans.length ≤ Config.planQueueSize) && decide (s.cp.plans.map Plan.id).Nodup
    && decide ((s.cp.plans.countP fun p => p.state.current) ≤ 1)
    && s.cp.plans.all fun p => p.state.current || p.state.waiting

/-- The own booking list holds at most 4 bookings of plans and at most 1 of the exercise (R59). -/
def ClaimMap.ownBound (c : ClaimMap) : Bool :=
  decide ((c.own.countP fun b => b.req != .exercise) ≤ Config.planBookingLimit)
    && decide ((c.own.countP fun b => b.req == .exercise) ≤ 1)

/-- The ramp log holds at most 32 records (R84), or own ones alone (assumption 61). -/
def RampLog.intentBound (r : RampLog) : Bool :=
  decide (r.intents.length ≤ Config.rampLogSize) || r.intents.all fun x => x.own.isSome

/-- P is at or below the power ceiling (R168). -/
def Sequencer.powerBound (t : Sequencer) : Bool := decide (t.p ≤ t.ceiling)

/-- A plan can be aired at PFLR or more: its entry power, PMAX, its antenna's rating and the power it commands are at or
above PFLR (R132, R133, R140), and it commands one unless it is without a booking in ROUTING or BLOCKED. -/
def State.powerable (s : State) (p : Plan) : Bool :=
  decide (s.cfg.pFlr ≤ leastOf p.entryPower [s.cfg.pMax, ((s.antenna p.ant).map AntennaRec.rating).getD 0])
    && match p.cmdPower with
      | some k => decide (s.cfg.pFlr ≤ k)
      | none => (p.state == .routing || p.state == .blocked) && p.booking.isNone

/-- P is at or above PFLR in RAMPING and ON-AIR, and from the first UP of a plan on, while a restart may come (R162, R168);
and every plan in the queue can be aired so. -/
def State.powerFloor (s : State) : Bool :=
  (!(s.ts.state == .ramping || s.ts.state == .onAir || s.ts.upSent) || decide (s.cfg.pFlr ≤ s.ts.p))
    && s.cp.plans.all s.powerable

/-- In LOCKOUT the meter watch and the floor timer stand still, and no restart is waited for (R173,
R177). -/
def Sequencer.lockedStill (t : Sequencer) : Bool :=
  t.state != .lockout
    || (t.meterGap.isNone && t.floorT.isNone && t.restartT.isNone && !t.restartWait)

/-- A message that puts RF on, or asks the transmitter to tune under RF (R159). -/
def TxMsg.raisesRf : TxMsg → Bool
  | .trim => true
  | .autotune => true
  | .up _ => true
  | .set _ _ => false
  | .preset _ _ _ => false
  | .power _ => false
  | .down => false

end Sys2Proof.Machine
end

