-- ==== Sys2Proof/WellFormed.lean ====
section
/-! DEFINITION. Well-formed commands: every operand fits the field or the lines that carry it (Formats
and Signals, Signals). Values a receiver must judge for itself, such as a class that names nothing
(R200), are not shut out. -/

namespace Sys2Proof

/-- A number fits `k` bytes. -/
def fits (k n : Nat) : Bool := decide (n < 256 ^ k)

/-- A value that may be absent fits `k` bytes, where all ones stand for absence. -/
def optFits (k : Nat) : Option Nat → Bool
  | some n => decide (n < 256 ^ k - 1)
  | none => true

/-- A booking descriptor fits its 19 + 2n bytes, with 1 to 6 steps (R57). -/
def Desc.wf (d : Desc) : Bool :=
  fits 1 d.holder && fits 1 d.num && fits 1 d.cls && fits 4 d.stamp && fits 4 d.start
    && fits 4 d.stop && optFits 1 d.antenna && optFits 2 d.azimuth
    && decide (1 ≤ d.steps.length) && decide (d.steps.length ≤ 6)
    && d.steps.all fun st => fits 1 st.1 && fits 1 st.2

/-- The body of a POSITION fits its fields. -/
def PosReport.wf (p : PosReport) : Bool :=
  fits 1 p.kind && fits 1 p.item && fits 1 p.report && optFits 2 p.value && fits 2 p.motion
    && fits 1 p.reqStation && fits 1 p.reqBooking && fits 1 p.reason

/-- The body of a BEACON fits its fields, with at most 5 booking entries (R29). -/
def BeaconBody.wf (b : BeaconBody) : Bool :=
  fits 1 b.phase && fits 1 b.seq && fits 1 b.profile && fits 4 b.stampCtr
    && decide (b.bookings.length ≤ 5) && b.bookings.all fun e => e.1.wf && fits 1 e.2

/-- A header: a 4-bit sender and a 4-byte week tick (R16). -/
def Head.wf (h : Head) : Bool := decide (h.sender ≤ 15) && fits 4 h.tick

/-- A frame fits its fields. -/
def Frame.wf : Frame → Bool
  | .object c n o => fits 1 c && fits 1 n && fits 1 o
  | .air n => fits 1 n
  | .position p => p.wf
  | .move k i n t => fits 1 k && fits 1 i && fits 1 n && fits 2 t
  | .release n => fits 1 n
  | .claim d => d.wf
  | .rampIntent n t => fits 1 n && fits 4 t
  | .rampCancel n => fits 1 n
  | .beacon b => b.wf

/-- The sense lines of one channel: 16 of EVLD and 3-line EPOS, 8 of 9-line AAZ (Signals). -/
def linesWf (kind : ItemKind) (chan code : Nat) : Bool :=
  match kind with
  | .element => decide (chan < Config.homeElementLimit) && decide (code ≤ 7)
  | .antenna => decide (chan < Config.homeAntennaLimit) && decide (code ≤ 511)

/-- A code byte that names no command and is not the fetch code (R182, R183). -/
def unknownCode (code : Byte) : Bool := decide (28 ≤ code.toNat)

/-- A well-formed command. A window may be of any length (R183). -/
def Instr.wf : Instr → Bool
  | .beacon h b => h.wf && b.wf
  | .claim h d => h.wf && d.wf
  | .object h c n o => h.wf && (Frame.object c n o).wf
  | .release h n => h.wf && fits 1 n
  | .air h n => h.wf && fits 1 n
  | .move h k i n t => h.wf && (Frame.move k i n t).wf
  | .position h p => h.wf && p.wf
  | .rampIntent h n t => h.wf && (Frame.rampIntent n t).wf
  | .rampCancel h n => h.wf && fits 1 n
  | .peerAbsent st => decide (st ≤ 15)
  | .motionTimeout _ code => decide (code ≤ 7)
  | .slewTimeout code => decide (code ≤ 511)
  | .unbiddenChange kind chan _ code => linesWf kind chan code
  | .listenTimerEnd n => fits 1 n
  | .confirmTimerEnd n => fits 1 n
  | .planLateLimit p => decide (p < Config.planQueueSize)
  | .tuned t l b => decide (t ≤ 4095) && decide (l ≤ 4095) && decide (b ≤ 15)
  | .tuneFail c => decide (1 ≤ c) && fits 1 c
  | .meter f r => fits 2 f && fits 2 r
  | .unknownCommand code _ => unknownCode code
  | .fetch n => decide (1 ≤ n)
  | .pinReset => true
  | .tick => true
  | .ppsEdge _ => true
  | .hourEvent => true
  | .idleSecond => true
  | .setTime _ => true
  | .attemptStart => true
  | .lostArbitration => true
  | .attemptAbort => true
  | .busyTimeout => true
  | .linkFaultEntry => true
  | .frameSent => true
  | .pendingSlotEmptied => true
  | .badFrame => true
  | .beaconTimer => true
  | .joiningTimerEnd => true
  | .loadElement _ => true
  | .loadAntenna _ => true
  | .loadRoute _ => true
  | .driveTurn => true
  | .targetSensed => true
  | .slewTurn => true
  | .slewTargetSensed => true
  | .service _ => true
  | .ownBookingUntil => true
  | .peerRecordExpiry => true
  | .intentExpiry => true
  | .startCheck => true
  | .loadEntry _ => true
  | .clearPending _ => true
  | .loadAdhoc _ => true
  | .armChangeover _ => true
  | .swapNow _ => true
  | .changeoverInstant => true
  | .cancelEntry _ => true
  | .planningInstant => true
  | .occurrenceLateLimit => true
  | .readPreset _ => true
  | .writePreset _ => true
  | .presetMode _ => true
  | .setWindow _ => true
  | .switchingStart => true
  | .guardTimerEnd => true
  | .airStart => true
  | .airEnd => true
  | .readPlan _ => true
  | .tuneTimeout => true
  | .atPower => true
  | .atPowerTimeout => true
  | .rfOff => true
  | .rfOffTimeout => true
  | .rfSenseChange _ => true
  | .fault _ => true
  | .txReportDiscarded _ => true
  | .meterLost => true
  | .meterTimeout => true
  | .foldIntervalEnd => true
  | .foldFloor => true
  | .recovery => true
  | .strayRfTimeout => true
  | .restartDelayEnd => true
  | .tripLogExpiry => true
  | .clearLockout _ => true
  | .setStation _ => true
  | .setTiming _ => true
  | .start _ => true
  | .stop _ => true
  | .restart _ => true
  | .readStatus _ => true
  | .clearFlags _ => true
  | .readLog _ => true
  | .readBooking _ => true
  | .readElement _ => true
  | .commandCompletion => true
  | .adHocEnd => true

end Sys2Proof
end

