-- ==== Sys2Proof/Certificates/Slice0/Obligations.lean ====
section
/-! DEFINITION. The statements for the provers, chapter by chapter. Each says which command it is about, when
the command acts, what the next state is, and what it leaves as it was; `s.withReports []` is the state with no
report of an earlier step outstanding, which is how every command begins. -/

open Sys2Proof Sys2Proof.Machine

/-! ## The machine -/

/-- A step takes the command at the front of the queue and executes it on the state with the queue's rest; with
no command waiting the part idles (the model's choice, assumption 2). -/
def Obligations.StepRunsFrontCommand : Prop :=
  ∀ (c : Instr) (rest : List Instr) (s : State),
    (s.pending = c :: rest → step s = exec c (s.withPending rest))
      ∧ (s.pending = [] → step s = .next s)

/-- Every command answers a next state in every state: the part has no stop. No command changes the queue of
commands, and only the commands that report a change of the inputs change them; RF_SENSE_CHANGE changes RF-sense
alone. -/
def Obligations.CommandsAnswerAndKeepQueueAndInputs : Prop :=
  (∀ (c : Instr) (s : State), ∃ t, exec c s = .next t)
    ∧ (∀ (c : Instr) (s t : State), exec c s = .next t →
      t.pending = s.pending
        ∧ (movesInputs c = false → t.pins = s.pins)
        ∧ (∀ high, c = .rfSenseChange high → t.pins = { s.pins with rfs := high }))

/-- PIN_RESET returns every block to its pin-reset values (R14, R33, R56, R83, R97, R114, R129, R158, R181, R199). The
input levels, the queue of commands and the count of free values used are not the part's and stay. Values the manual does
not give are the model's (assumption 5). The state it leaves, like State.reset, meets every invariant of the statements
below. -/
def Obligations.PinResetReturnsEveryBlock : Prop :=
  (∀ s : State, ∃ t, exec .pinReset s = .next t
    ∧ t.sp.phase = .config ∧ t.sp.resp = .empty ∧ t.sp.airLog = [] ∧ t.sp.hold = false
    ∧ t.sp.rx = []
    ∧ t.sp.restartMark = false ∧ t.sp.stationLoaded = false ∧ t.sp.timingLoaded = false
    ∧ t.tb.d = 100000 ∧ t.tb.divCount = 0 ∧ t.tb.capCount = 20000000 ∧ t.tb.tis = 0 ∧ t.tb.sow = 0
    ∧ t.tb.week = 0 ∧ t.tb.timeSet = false ∧ t.tb.freeMark = false ∧ t.tb.freeCount = 0
    ∧ t.tb.good = false ∧ t.tb.offsets = List.replicate 16 none ∧ t.tb.skew = false
    ∧ t.tb.hourCtr = 0
    ∧ t.flagWord = 0 ∧ t.attn = false
    ∧ t.ts.state = .idle ∧ t.ts.tripLog = [] ∧ t.inhibit = true
    ∧ t.cp.plans = [] ∧ t.cm.own = [] ∧ t.cm.map = [] ∧ t.rl.intents = []
    ∧ t.hlc.queue = [] ∧ t.hlc.stamp = 0 ∧ t.hlc.seq = 0 ∧ t.hlc.rxBits = []
    ∧ (∀ i w, ((t.presetSet i).way w).valid = false ∧ (t.presetSet i).pins w = 0)
    ∧ t = { State.reset with pins := s.pins, pending := s.pending, freeCtr := s.freeCtr }
    ∧ t.timeInRange = true ∧ t.formsKept = true ∧ t.stopEnds = true ∧ t.ts.lockedStill = true
    ∧ t.planBound = true ∧ t.cm.ownBound = true ∧ t.rl.intentBound = true ∧ t.ts.powerBound = true
    ∧ t.powerFloor = true)
    ∧ State.reset.timeInRange = true ∧ State.reset.formsKept = true ∧ State.reset.stopEnds = true
    ∧ State.reset.ts.lockedStill = true
    ∧ State.reset.planBound = true ∧ State.reset.cm.ownBound = true ∧ State.reset.rl.intentBound = true
    ∧ State.reset.ts.powerBound = true ∧ State.reset.powerFloor = true

/-! ## Hall time (chapter 1) -/

/-- Ticks (R2, R3, R5, R11, R12). A tick within a second: tick-in-second rises by one, the second and the hour counter
stay, the divider restarts and the capture count takes in the cycles of the tick, up to its limit; every elapsed timer that
runs counts one tick and stops at 0, where it waits for the command that takes its end (the model's choice,
assumption 10), the motion count and the meter watch count up, a hundredth of an idle second is counted outside CONFIG
(assumption 12), the late limits and ad hoc ends that fall due are noted as State.noteInstants says (assumption 8), and
nothing else changes. The 100th tick: tick-in-second returns to 0, the free-run mark is set, the second advances with its
carry into the week, and the hour counter rises or issues an hour event; the timers count as at any tick (stated outside
RUNNING with no plan, where the second advance has nothing more to do; the timebase is what it is there in every state in
which STOPPING leaves no plan but ENDING ones, an invariant of every step, O60).
The first tick of a free-run second confirms it: the mark clears, PPS-MISSING is set, the free-run count rises to at most
600, and reaching 600 while GOOD makes quality POOR and sets POOR-TIME. -/
def Obligations.TicksMakeSeconds : Prop :=
  ∀ s : State, s.tb.tis ≤ 99 →
    let within := s.tb.tis < 99
    let confirms := s.tb.freeMark
    let poor := confirms && decide (599 ≤ s.tb.freeCount)
    let tb :=
      { s.tb with
        divCount := 0
        capCount := min (2 * s.cfg.refnom * 1000) (s.tb.capCount + (s.tb.d - s.tb.divCount))
        tis := if within then s.tb.tis + 1 else 0
        sow := if within then s.tb.sow else if s.tb.sow < 604799 then s.tb.sow + 1 else 0
        week := if within ∨ s.tb.sow < 604799 then s.tb.week else (s.tb.week + 1) % 65536
        freeMark := decide (s.tb.tis = 99)
        freeCount := if confirms then min 600 (s.tb.freeCount + 1) else s.tb.freeCount
        good := s.tb.good && !poor
        hourCtr := if within then s.tb.hourCtr else if s.tb.hourCtr < 3599 then s.tb.hourCtr + 1 else 0
        hourDue := if within ∨ s.tb.hourCtr < 3599 then s.tb.hourDue else s.tb.hourDue + 1 }
    let ticked : State :=
      { s with
        reports := []
        tb := tb
        flags := { s.flags with
          ppsMissing := s.flags.ppsMissing || confirms, poorTime := s.flags.poorTime || (poor && s.tb.good) }
        hlc := { s.hlc with
          beaconT := s.hlc.beaconT.map (· - 1), joiningT := s.hlc.joiningT.map (· - 1)
          presence := s.hlc.presence.map fun e => { e with absence := e.absence.map (· - 1) } }
        ed := { s.ed with
          motion := s.ed.motion.map fun m => { m with count := m.count + 1, timer := m.timer - 1 }
          slew := s.ed.slew.map fun w => { w with timer := w.timer - 1 }
          idleTicks := if s.sp.phase = .config then s.ed.idleTicks
            else if s.ed.idleTicks < 99 then s.ed.idleTicks + 1 else 0
          idleDue := if s.sp.phase = .config ∨ s.ed.idleTicks < 99 then s.ed.idleDue else s.ed.idleDue + 1 }
        cm := { s.cm with own := s.cm.own.map fun b =>
          { b with listen := b.listen.map (· - 1), confirm := b.confirm.map (· - 1) } }
        cp := { s.cp with guardT := s.cp.guardT.map (· - 1) }
        ts := { s.ts with
          foldT := s.ts.foldT.map (· - 1), floorT := s.ts.floorT.map (· - 1), recT := s.ts.recT.map (· - 1)
          meterGap := s.ts.meterGap.map (· + 1), restartT := s.ts.restartT.map (· - 1)
          tuneT := s.ts.tuneT.map (· - 1), atpT := s.ts.atpT.map (· - 1)
          rfoffT := s.ts.rfoffT.map (· - 1), strayT := s.ts.strayT.map (· - 1) }
        ss := ((s.withTb tb).noteInstants s.absNow).ss }
    (within → exec .tick s = .next ticked)
      ∧ (s.sp.phase ≠ .running → s.cp.plans = [] → exec .tick s = .next ticked)
      ∧ ((s.sp.phase = .stopping → ∀ p ∈ s.cp.plans, p.state = .ending) →
        ∃ t, exec .tick s = .next t ∧ t.tb = tb ∧ t.flags.ppsMissing = ticked.flags.ppsMissing
          ∧ t.flags.poorTime = ticked.flags.poorTime
          ∧ t.pd = { s.pd with sets := t.pd.sets, latch := t.pd.latch, further := t.pd.further })

/-- PPS edges (R3, R4). An edge whose capture is the limit changes nothing but the counts; a capture outside the
limit and the accept range sets PPS-REJECT and changes nothing else. At an accepted edge D is the capture over 100
rounded to nearest, the divider and the capture count restart, quality is GOOD and the free-run count 0; in a
free-run second it only clears the mark, otherwise it advances the second, with its carry into the week and its hour
event, and returns tick-in-second to 0; nothing else of the timebase changes. The
cycles run before the edge are cut at the end of the tick (the model's choice, assumption 7). Stated for states in which
STOPPING leaves no plan but ENDING ones, an invariant of every step (O60). -/
def Obligations.EdgesDisciplineClock : Prop :=
  (∀ (s : State) (cycles : Nat),
    let n := min cycles (s.tb.d - 1 - s.tb.divCount)
    let limit := 2 * s.cfg.refnom * 1000
    let c := min limit (s.tb.capCount + n)
    let counted := (s.withReports []).withTb
      { s.tb with capCount := 0, divCount := s.tb.divCount + n }
    (c = limit → exec (.ppsEdge cycles) s = .next counted)
      ∧ (c ≠ limit → ¬ (s.cfg.refnom * 980 ≤ c ∧ c ≤ s.cfg.refnom * 1020) →
        exec (.ppsEdge cycles) s = .next (counted.withFlags { s.flags with ppsReject := true })))
    ∧ (∀ (s : State) (cycles : Nat), (s.sp.phase = .stopping → ∀ p ∈ s.cp.plans, p.state = .ending) →
      let c := min (2 * s.cfg.refnom * 1000)
        (s.tb.capCount + min cycles (s.tb.d - 1 - s.tb.divCount))
      c ≠ 2 * s.cfg.refnom * 1000 → s.cfg.refnom * 980 ≤ c → c ≤ s.cfg.refnom * 1020 →
      ∃ t, exec (.ppsEdge cycles) s = .next t
        ∧ t.tb =
          { s.tb with
            d := (c + 50) / 100, divCount := 0, capCount := 0, freeCount := 0, good := true, freeMark := false
            tis := if s.tb.freeMark then s.tb.tis else 0
            sow := if s.tb.freeMark then s.tb.sow else if s.tb.sow < 604799 then s.tb.sow + 1 else 0
            week := if s.tb.freeMark ∨ s.tb.sow < 604799 then s.tb.week else (s.tb.week + 1) % 65536
            hourCtr := if s.tb.freeMark then s.tb.hourCtr
              else if s.tb.hourCtr < 3599 then s.tb.hourCtr + 1 else 0
            hourDue := if s.tb.freeMark ∨ s.tb.hourCtr < 3599 then s.tb.hourDue else s.tb.hourDue + 1 })

/-- An hour event ages every valid preset way by one hour, stopping at 65535, and changes nothing else of the directory or
of any other block (R126). An idle second (R52): every home element's idle time rises by one, stopping at 8,000,000; an
element that becomes overdue sets ELEMENT-OVERDUE; nothing else changes. That all elements share one hundred of ticks for
their idle seconds is the model's choice (assumption 12). The exercise (R52, R53, R54): at a second advance the scan books
the element it takes over now + 2 × its estimate + 200 ticks and offers the CLAIM (stated for a station that knows of no
booking); at the end of its listen window the booking moves (assumptions 46 and 63) and the drive is asked for the next
position; the SET there asks for the way back, and the SET after that releases the booking. -/
def Obligations.HoursAndIdleSecondsCount : Prop :=
  (∀ s : State, 0 < s.tb.hourDue → ∃ t, exec .hourEvent s = .next t
    ∧ t = ((s.withReports []).withTb { s.tb with hourDue := s.tb.hourDue - 1 }).withPd
        { s.pd with sets := t.pd.sets }
    ∧ t.pd.sets.length = s.pd.sets.length
    ∧ ∀ i < s.pd.sets.length, ∀ w,
      (t.presetSet i).way w
          = (if ((s.presetSet i).way w).valid
            then { (s.presetSet i).way w with age := min 65535 (((s.presetSet i).way w).age + 1) }
            else (s.presetSet i).way w)
        ∧ (t.presetSet i).pins w = (s.presetSet i).pins w ∧ (t.presetSet i).lru = (s.presetSet i).lru)
    ∧ (∀ s : State, 0 < s.ed.idleDue → keysRise s.ed.elements = true →
      ∃ t, exec .idleSecond s = .next t
        ∧ t = ((s.withReports []).withEd { s.ed with idleDue := s.ed.idleDue - 1, elView := t.ed.elView
                                           }).withFlags
            { s.flags with elementOverdue := t.flags.elementOverdue }
        ∧ (∀ i, t.elv i = if s.isHome .element i then
            { s.elv i with idle := min 8000000 ((s.elv i).idle + 1) } else s.elv i)
        ∧ (t.flags.elementOverdue = true ↔ s.flags.elementOverdue = true
          ∨ ∃ i, s.isHome .element i = true ∧ t.exerciseOverdue i = true ∧ s.exerciseOverdue i = false))
    ∧ (∀ (s : State) (el pos : Nat), s.tb.tis = 99 → s.tb.freeMark = false → s.scanOpen = true →
      s.cm.own = [] → s.cm.map = [] → s.cm.horizon = none → s.cp.plans = [] →
      s.scanOrder.find? s.scanTakes = some el → (s.elv el).pos = some pos →
      2 * s.estimate el + 200 ≤ 9000000 → s.hlc.queue.length + s.hlc.slots.length < 16 →
      ∃ t b, exec .tick s = .next t ∧ t.cm.own = [b] ∧ b.state = .tentative ∧ b.req = .exercise
        ∧ b.desc.holder = s.cfg.stationId ∧ b.desc.cls = 0 ∧ b.desc.steps = [(el, pos)]
        ∧ b.desc.antenna = none ∧ b.desc.start = t.now
        ∧ b.desc.stop = addT t.now (2 * s.estimate el + 200)
        ∧ t.ed.exPtr = some el
        ∧ t.ed.exercise = some { element := el, booking := b.desc.num, origin := pos, stage := .claimed }
        ∧ t.hlc.queue = enqueue s.hlc.queue (.claim b.desc))
    ∧ (∀ (s : State) (x : Exercise) (b : OwnBooking) (e : ElementRec), s.sp.phase = .running →
      s.cm.own = [b] → s.cm.map = [] → b.desc.num = x.booking → b.req = .exercise →
      b.desc.steps = [(x.element, x.origin)] → containsTick b.desc.start b.desc.stop s.now = true →
      s.ed.exercise = some x → s.isHome .element x.element = true → s.element x.element = some e →
      0 < e.count → s.ed.driveQ = [] → s.cp.plans = [] → s.ts.state = .idle →
      let ask := fun target : Nat =>
        ({ item := x.element, target := target, station := s.cfg.stationId, booking := x.booking } : Request)
      (x.stage = .claimed → b.state = .tentative → b.listen = some 0 → s.ed.motion = none →
        (s.elv x.element).state = .set →
        s.sensedPos x.element ≠ some ((x.origin + 1) % e.count) →
        exec (.listenTimerEnd x.booking) s = .next (((s.withReports []).withCm
          { s.cm with own := [{ b with state := .moving, listen := none }] }).withEd
          { s.ed with exercise := some { x with stage := .outward }
                      driveQ := [ask ((x.origin + 1) % e.count)] }))
      ∧ (∀ m, s.ed.motion = some m → m.req.item = x.element → b.state = .moving →
        (s.elv x.element).state = .moving →
        (x.stage = .outward → x.origin < e.count → m.req.target ≠ x.origin →
          channelOf x.element s.ed.elChan = some 0 → 0 < s.pins.elLines.length → m.req.target < 8 →
          ∃ t, exec .targetSensed s = .next t ∧ t.ed.driveQ = [ask x.origin] ∧ t.ed.motion = none
            ∧ t.ed.exercise = some { x with stage := .returning } ∧ (t.elv x.element).idle = 0)
        ∧ (x.stage = .returning → s.hlc.queue.length + s.hlc.slots.length + 1 < 16 →
          ∃ t, exec .targetSensed s = .next t ∧ t.ed.exercise = none ∧ t.cm.own = []
            ∧ (∃ y ∈ t.hlc.queue, y.frame = .release x.booking) ∧ (t.elv x.element).idle = 0)))

/-- The offset table (R7, R8, R9): a good BEACON taken while time is SET records its sender's offset; when more
than half of the present peers share one disagreeing offset, hall time steps by it, over the week's end or start into the
next or former week, and the table and SKEW clear;
otherwise SKEW says whether the disagreeing ones are more than half. Stated for a station with no plan, no record
in its map and a BEACON that lists no booking, so that nothing but the timebase hears of the step. -/
def Obligations.OffsetMajorityStepsTime : Prop :=
  ∀ (s : State) (h : Head) (b : BeaconBody),
    s.quiet = true → s.sp.phase = .running → s.tb.timeSet = true → s.cm.map = [] → b.bookings = [] →
    s.hlc.presence.length = 16 → h.sender < 16 → h.sender ≠ s.cfg.stationId → h.tick < 60480000 →
    b.phase ≤ 5 → b.seq ≤ 7 →
    let k : Int := ((h.tick / 100 : Int) - s.tb.sow + 302400) % 604800 - 302400
    let offsets := s.tb.offsets.set h.sender (some k)
    let disagreeing := (offsets.filterMap id).filter fun j => decide (2 ≤ j.natAbs)
    let n := (s.hlc.presence.countP fun e => e.present)
      + if (s.peer h.sender).present then 0 else 1
    ∃ t, exec (.beacon h b) s = .next t
      ∧ ((∃ j ∈ disagreeing, n < 2 * disagreeing.count j) →
        (∃ j ∈ disagreeing, n < 2 * disagreeing.count j
            ∧ (t.tb.sow : Int) = ((s.tb.sow : Int) + j) % 604800
            ∧ t.tb.week = (if 604800 ≤ (s.tb.sow : Int) + j then (s.tb.week + 1) % 65536
              else if (s.tb.sow : Int) + j < 0 then (s.tb.week + 65535) % 65536 else s.tb.week))
          ∧ t.tb.tis = s.tb.tis ∧ t.tb.offsets = List.replicate 16 none ∧ t.tb.skew = false
          ∧ t.flags.timeStepped = true)
      ∧ ((∀ j ∈ disagreeing, ¬ n < 2 * disagreeing.count j) →
        t.tb = { s.tb with offsets := offsets, skew := decide (n < 2 * disagreeing.length) }
          ∧ t.flags.timeStepped = s.flags.timeStepped)

/-! ## The hall link (chapter 2) -/

/-- What a frame on the link carries is what its sender put there: reading the bits of a frame that fits its
fields gives back its sender, its tick and the frame, for every kind (R16, R25, R200, R201). -/
def Obligations.FrameReadsBack : Prop :=
  ∀ (h : Head) (f : Frame), h.wf = true → f.wf = true →
    readFrame (frameBits h f) = some (h, f) ∧ linkCommand (frameBits h f) = frameCommand h f

/-- One flipped bit is caught: no frame with exactly one bit changed is read as a frame (R25, R201). -/
def Obligations.OneFlippedBitIsBadFrame : Prop :=
  ∀ (h : Head) (f : Frame) (i : Nat), i < (frameBits h f).length →
    linkCommand ((frameBits h f).set i (!((frameBits h f)[i]?).getD false)) = .badFrame

/-- Attempts (R17, R18, R20, R21, R26) and what the producers do with SENT and DROPPED (R42, R61, R81, R88, R89, R145). An
attempt starts with the head of the queue and the tick of its header, when a frame waits, none is being sent, the phase
sends and the link has not failed; a lost arbitration leaves the frame queued and charges nothing. A success removes the
frame, clears the error count and gives the frame the next reception sequence number. The SENT report of a CLAIM starts its
booking's listen timer, that of a RAMP-INTENT makes the re-check: the intent is ANNOUNCED under its link order, or it is
withdrawn, its RAMP-CANCEL offered, and a tick picked again; of a booking or intent that has gone while unsent the RELEASE or
RAMP-CANCEL is offered; SENT of any other kind does nothing more. A failed attempt or a busy timeout charges the head
frame one failed attempt; the 8th drops it and raises the consecutive transmit error count. A dropped RELEASE or AIR is owed
again, a dropped CLAIM takes its booking away (stated for a quiet station and for a plan with no route in service, which is
BLOCKED; what it keeps showing of its last choice is the model's choice, assumption 56), a state POSITION and a MOVE
still needed are offered again, a dropped RAMP-INTENT is picked again without a
RAMP-CANCEL, and a BEACON, OBJECT, RAMP-CANCEL or REFUSED is not offered again. That the station's own aborted attempt is not
counted in its receive error count is the model's choice (assumption 53). -/
def Obligations.AttemptsRunTheirCourse : Prop :=
  ∀ (s : State) (x : QFrame) (rest : List QFrame), s.hlc.queue = x :: rest →
    let w := s.withReports []
    let room := fun n : Nat => s.sp.phase = .running ∧ rest.length + s.hlc.slots.length + n ≤ 16
    (s.hlc.attempt = none → sendsIn s.sp.phase = true → s.hlc.txErr < 32 →
      exec .attemptStart s = .next (w.withHlc
        { s.hlc with queue := { x with sending := true } :: rest
                     attempt := some (s.tb.sow * 100 + s.tb.tis) }))
    ∧ (s.hlc.attempt ≠ none →
      exec .lostArbitration s = .next (w.withHlc
        { s.hlc with queue := s.hlc.queue.map fun y => { y with sending := false }
                     attempt := none }))
    ∧ (s.hlc.attempt ≠ none → x.sending = true → (∀ y ∈ rest, y.sending = false) →
      let sent := { s.hlc with queue := rest, attempt := none, txErr := 0
                               seq := (s.hlc.seq + 1) % 4294967296 }
      ((∀ d, x.frame ≠ .claim d) → (∀ n a, x.frame ≠ .rampIntent n a) →
        exec .frameSent s = .next (w.withHlc sent))
      ∧ (∀ d, x.frame = .claim d →
        (s.cm.unsent.contains d.num = false →
          exec .frameSent s = .next ((w.withHlc sent).withCm
            { s.cm with own := s.cm.own.map fun b =>
                if b.desc.num = d.num ∧ b.state = .tentative ∧ b.sent = false then
                  { b with sent := true, listen := some s.cfg.tLSN }
                else b }))
        ∧ (s.cm.unsent.contains d.num = true → room 1 →
          exec .frameSent s = .next ((w.withHlc { sent with queue := enqueue rest (.release d.num) }).withCm
            { s.cm with unsent := s.cm.unsent.filter (· != d.num) })))
      ∧ (∀ num tick, x.frame = .rampIntent num tick →
        (s.rl.unsent.contains num = true → room 1 →
          exec .frameSent s = .next ((w.withHlc { sent with queue := enqueue rest (.rampCancel num) }).withRl
            { s.rl with unsent := s.rl.unsent.filter (· != num) }))
        ∧ (∀ y, s.rl.unsent.contains num = false → s.unsentIntent num = some y →
          let before := (s.rl.intents.filter fun z => !(z.own.isSome && z.num == num)
            && (z.order.map fun o => seqPrecedes o sent.seq).getD false).map Intent.tick
          (windowRule s.cfg.nRMP s.cfg.tWRMP before y.tick = true →
            exec .frameSent s = .next ((w.withHlc sent).withRl
              { s.rl with intents := s.rl.intents.map fun z =>
                  if z.own = some .unsent ∧ z.num = num then
                    { z with order := some sent.seq, own := some .announced }
                  else z }))
          ∧ (∀ q, windowRule s.cfg.nRMP s.cfg.tWRMP before y.tick = false → room 2 →
            s.rl.request = some q →
            PicksAgain .frameSent s q q { sent with queue := enqueue rest (.rampCancel num) }))))
    ∧ ((∀ y ∈ rest, y.sending = false) →
      let lost := { s.hlc with attempt := none, queue := rest, txErr := min 32 (s.hlc.txErr + 1) }
      let gone := w.withHlc lost
      let fails := fun (c : Instr) (still : Bool) =>
        (x.attempts < 7 → exec c s = .next (w.withHlc
          { s.hlc with attempt := none
                       queue := { x with attempts := x.attempts + 1, sending := still } :: rest }))
        ∧ (7 ≤ x.attempts →
          ((∃ b, x.frame = .beacon b) ∨ (∃ a n o, x.frame = .object a n o) ∨ (∃ n, x.frame = .rampCancel n)
              ∨ (∃ p, x.frame = .position p ∧ p.report = 4)
              ∨ (s.currentPlan = none ∧ ∃ k i n g, x.frame = .move k i n g) →
            exec c s = .next gone)
          ∧ (∀ n, x.frame = .release n → exec c s = .next (gone.withCm
            { s.cm with owedRel :=
                (if s.cm.owedRel.length < 8 then s.cm.owedRel else s.cm.owedRel.drop 1) ++ [n] }))
          ∧ (∀ n, x.frame = .air n → exec c s = .next (gone.withCm
            { s.cm with own := s.cm.own.map fun b =>
                if b.desc.num = n ∧ b.state = .active then { b with owedAir := true } else b }))
          ∧ (∀ d, x.frame = .claim d →
            (s.cm.unsent.contains d.num = true → exec c s = .next (gone.withCm
              { s.cm with unsent := s.cm.unsent.filter (· != d.num) }))
            ∧ (∀ b, s.cm.unsent.contains d.num = false → s.ownBooking d.num = some b →
              b.state = .tentative → b.sent = false →
              (s.quiet = true → exec c s = .next (gone.withCm
                { s.cm with own := s.cm.own.filter fun z => z.desc.num != d.num }))
              ∧ (∀ p, s.sp.phase = .running → s.ed.exercise = none → s.ts.state = .idle → s.cp.plans = [p] →
                s.cm.own = [b] → p.state = .routing → p.cont = false → p.excluded = [] →
                (∀ r ∈ s.routesTo p.ant, s.serviceable p.ant r.2.steps = false) →
                p.booking = some d.num → b.req = .plan p.id →
                exec c s = .next ((gone.withCm { s.cm with own := [] }).withCp
                  { s.cp with plans := [{ p with booking := none, state := .blocked }] }))))
          ∧ (∀ (p : PosReport) (k : ItemKind), x.frame = .position p → p.report ≠ 4 → p.kind = kindNat k →
            s.isHome k p.item = true → room 1 →
            (∀ f ∈ rest.map QFrame.frame ++ s.hlc.slots, ∀ p', f = .position p' → p'.kind = p.kind →
              p'.item = p.item → p'.report = 4) →
            ∃ t, exec c s = .next t
              ∧ t.hlc = { lost with queue := enqueue rest (s.positionFrame k p.item) }
              ∧ t.cm = s.cm ∧ t.cp = s.cp ∧ t.ts = s.ts
              ∧ (∀ i, (t.elv i).state = (s.elv i).state ∧ (t.elv i).pos = (s.elv i).pos
                ∧ (t.anv i).state = (s.anv i).state ∧ (t.anv i).az = (s.anv i).az))
          ∧ (∀ k item n g p, x.frame = .move (kindNat k) item n g → s.currentPlan = some p →
            p.state = .switching → p.booking = some n → s.isHome k item = false →
            s.planItemStands p k item = false → room 1 →
            exec c s = .next (w.withHlc { lost with queue := enqueue rest x.frame }))
          ∧ (∀ num tick, x.frame = .rampIntent num tick →
            (s.rl.unsent.contains num = true → exec c s = .next (gone.withRl
              { s.rl with unsent := s.rl.unsent.filter (· != num) }))
            ∧ (∀ y q, s.rl.unsent.contains num = false → s.unsentIntent num = some y → room 1 →
              s.rl.request = some q → PicksAgain c s q q lost)))
      (s.hlc.attempt ≠ none → x.sending = true → fails .attemptAbort false)
        ∧ (s.hlc.attempt = none → sendsIn s.sp.phase = true → s.hlc.txErr < 32 →
          fails .busyTimeout x.sending))

/-- Entry to LINK-FAULT (R22): from any phase that sends, when the error count has reached 32. Nothing is left to
send, every peer is absent, the peer map and the ramp log are empty (R82, R96), the transmitter is not driven and no
motion goes on. -/
def Obligations.LinkFaultStopsStation : Prop :=
  ∀ s : State, s.hlc.txErr = 32 → sendsIn s.sp.phase = true →
    ∃ t, exec .linkFaultEntry s = .next t
      ∧ t.sp.phase = .linkFault ∧ t.hlc.queue = [] ∧ t.hlc.slots = [] ∧ t.hlc.attempt = none
      ∧ t.hlc.beaconT = none ∧ t.hlc.joiningT = none
      ∧ (∀ e ∈ t.hlc.presence, e.present = false)
      ∧ t.cm.map = [] ∧ t.cm.horizon = none ∧ t.rl.intents = [] ∧ t.rl.request = none
      ∧ t.ed.motion = none ∧ t.ed.slew = none ∧ t.ed.driveQ = [] ∧ t.ed.slewQ = []
      ∧ (t.ts.state ≠ .tuning ∧ t.ts.state ≠ .tuned ∧ t.ts.state ≠ .ramping ∧ t.ts.state ≠ .onAir)
      ∧ t.inhibit = true ∧ t.flagWord.testBit 5 = true

/-- A freed queue place takes a pending frame: the one with the lowest priority number, the first entered where several
share it (R24). Where the told block owes nothing more, nothing else happens; where it owes frames and the queue has room
for all of them, it offers them in their order: the claim map its OBJECTs, the AIRs of its ACTIVE bookings and then its
RELEASEs, an owed AIR of a booking no longer ACTIVE being cleared (R81); the element drive a POSITION for each home item
whose report is owed, elements and then antennas in id order, and then its refusal list (R42); the planner the MOVEs still
owed of its current plan in step order, the slew last (R145); the ramp log its RAMP-CANCELs (R93) and then, for a pick
that waits for the link, the RAMP-INTENT of the tick found afresh, which enters the log UNSENT (R88). With one place and
no BEACON to give way, the first frame owed takes it as the block's pending frame, and the next is refused and stays owed
(R24, R42, R81, R93). -/
def Obligations.FreedPlaceTakesPendingFrame : Prop :=
  ∀ (s : State) (f : Frame) (before rest : List Frame),
    s.hlc.queue.length < 16 → s.hlc.slots = before ++ f :: rest →
    (∀ g ∈ before, framePriority f < framePriority g) →
    (∀ g ∈ rest, framePriority f ≤ framePriority g) →
    let entered := { s.hlc with queue := enqueue s.hlc.queue f, slots := before ++ rest }
    let offered := fun l : List Frame => { entered with queue := l.foldl enqueue entered.queue }
    let fits := fun n : Nat => s.hlc.queue.length + s.hlc.slots.length + n ≤ 16
    (s.sp.phase ≠ .stopping → s.cm.owedObj = [] → s.cm.owedRel = [] →
      (∀ b ∈ s.cm.own, b.owedAir = false) → s.cp.owedMoves = [] → s.owedItems = [] →
      s.ed.refusals = [] → s.rl.owedCancel = [] → (∀ q, s.rl.request = some q → q.waiting = false) →
      exec .pendingSlotEmptied s = .next ((s.withReports []).withHlc entered))
    ∧ (s.sp.phase = .running →
      (frameBlock f = .cm → s.cm.owedObj.length ≤ 8 → s.cm.owedRel.length ≤ 8 →
        (s.cm.own.map fun b => b.desc.num).Nodup ∨ (∀ b ∈ s.cm.own, b.owedAir = false) →
        let airs := s.cm.own.filter fun b => b.owedAir && b.state == .active
        fits (s.cm.owedObj.length + airs.length + s.cm.owedRel.length) →
        exec .pendingSlotEmptied s = .next (((s.withReports []).withHlc
            (offered ((s.cm.owedObj.map fun o => .object o.1 o.2.1 o.2.2)
              ++ (airs.map fun b => .air b.desc.num) ++ s.cm.owedRel.map .release))).withCm
          { s.cm with owedObj := [], owedRel := [], own := s.cm.own.map fun b => { b with owedAir := false } }))
      ∧ (frameBlock f = .ed → keysRise s.ed.elView = true → keysRise s.ed.anView = true →
        s.ed.refusals.length ≤ 8 → fits (s.owedItems.length + s.ed.refusals.length) →
        exec .pendingSlotEmptied s = .next (((s.withReports []).withHlc
            (offered ((s.owedItems.map fun i => s.positionFrame i.1 i.2)
              ++ s.ed.refusals.map RefusedMove.frame))).withEd
          { s.ed with
            refusals := []
            elView := s.ed.elView.map fun v =>
              (v.1, { v.2 with owed := v.2.owed && !s.homeElements.contains v.1 })
            anView := s.ed.anView.map fun v =>
              (v.1, { v.2 with owed := v.2.owed && !s.homeAntennas.contains v.1 }) }))
      ∧ (∀ p n, frameBlock f = .cp → s.currentPlan = some p → p.booking = some n →
        let key := fun m : ItemKind × Nat × Nat => (m.1, m.2.1)
        let moves := (s.planMoves p).filter fun m => s.cp.owedMoves.contains (key m)
        (moves.map key).Nodup → fits moves.length →
        exec .pendingSlotEmptied s = .next (((s.withReports []).withHlc
            (offered (moves.map fun m => .move (kindNat m.1) m.2.1 n m.2.2))).withCp
          { s.cp with owedMoves := s.cp.owedMoves.filter fun k => !(moves.map key).contains k }))
      ∧ (frameBlock f = .rl → s.rl.owedCancel.length ≤ 4 →
        ((∀ q, s.rl.request = some q → q.waiting = false) → fits s.rl.owedCancel.length →
          exec .pendingSlotEmptied s = .next (((s.withReports []).withHlc
              (offered (s.rl.owedCancel.map .rampCancel))).withRl { s.rl with owedCancel := [] }))
        ∧ (∀ q tick, s.rl.request = some q → q.waiting = true → q.bySeq = false ∨ s.ts.state ≠ .tripped →
          s.findTick (q.raise s.now) = some tick → s.rl.intents.length < 32 →
          fits (s.rl.owedCancel.length + 1) →
          let n := nextNumber s.rl.numCtr s.intentNumbersUsed
          exec .pendingSlotEmptied s = .next ((((s.withReports []).withHlc
              (offered (s.rl.owedCancel.map .rampCancel ++ [.rampIntent n tick]))).withRl
              { s.rl with
                owedCancel := [], numCtr := n, request := some { q with waiting := false }
                intents := insertBy (intentBefore s.rampBase)
                  { station := s.cfg.stationId, num := n, tick := tick, order := none, own := some .unsent }
                  s.rl.intents }).withCp
            { s.cp with plans := s.cp.plans.map fun p =>
                if p.id = q.plan then { p with intent := some (n, tick) } else p })))
      ∧ (s.hlc.queue.length = 15 → (∀ x ∈ s.hlc.queue, isBeacon x.frame = false) → isBeacon f = false →
        (∀ g ∈ before ++ rest, frameBlock g ≠ frameBlock f) →
        let held := fun g : Frame => (s.withReports []).withHlc { entered with slots := before ++ rest ++ [g] }
        (∀ o o' more, frameBlock f = .cm → s.cm.owedObj = o :: o' :: more →
          exec .pendingSlotEmptied s = .next ((held (.object o.1 o.2.1 o.2.2)).withCm
            { s.cm with owedObj := o' :: more }))
        ∧ (∀ r more, frameBlock f = .ed → s.owedItems = [] → s.ed.refusals = r :: more →
          exec .pendingSlotEmptied s = .next ((held r.frame).withEd { s.ed with refusals := more }))
        ∧ (∀ n more, frameBlock f = .rl → s.rl.owedCancel = n :: more →
          (∀ q, s.rl.request = some q → q.waiting = false) →
          exec .pendingSlotEmptied s = .next ((held (.rampCancel n)).withRl { s.rl with owedCancel := more }))))

/-- A bad frame is counted, up to 255, and no part of it is acted on (R25): a frame that fails the link's tests, and
a frame of any kind that carries the station's own id outside CONFIG or a count out of range (R200). In CONFIG and
LINK-FAULT a good frame of any kind is numbered and its stamp followed, and nothing else happens (R15, R26, R27); so is
one that is no BEACON in HALTED, and in any phase one whose header tick names no tick of the week (R200). -/
def Obligations.BadFramesCountGoodFramesNumber : Prop :=
  (∀ (s : State) (h : Head) (f : Frame),
    let counted := (s.withReports []).withHlc { s.hlc with rxErr := min 255 (s.hlc.rxErr + 1) }
    exec .badFrame s = .next counted
      ∧ (s.goodFrame h f = false → exec (frameCommand h f) s = .next counted))
    ∧ (∀ (s : State) (h : Head) (f : Frame), s.goodFrame h f = true →
      s.sp.phase = .config ∨ s.sp.phase = .linkFault
        ∨ (isBeacon f = false ∧ (s.sp.phase = .halted ∨ 60480000 ≤ h.tick)) →
      exec (frameCommand h f) s = .next ((s.withReports []).withHlc
        { s.hlc with
          seq := (s.hlc.seq + 1) % 4294967296
          stamp := match f with
            | .claim d => max s.hlc.stamp d.stamp
            | .beacon b => max s.hlc.stamp b.stampCtr
            | _ => s.hlc.stamp }))

/-- The end of the beacon timer offers a BEACON and starts the timer again (R28, R29); with room in the queue the
BEACON stands at its end. The end of the JOINING timer puts the station into RUNNING (R32). -/
def Obligations.BeaconAndJoiningTimersEnd : Prop :=
  (∀ s : State, s.hlc.beaconT = some 0 →
    s.sp.phase = .joining ∨ s.sp.phase = .running ∨ s.sp.phase = .stopping →
    s.hlc.queue.length + s.hlc.slots.length < 16 →
    exec .beaconTimer s = .next ((s.withReports []).withHlc
      { s.hlc with
        beaconT := some s.cfg.tBCN
        queue := s.hlc.queue ++ [{
          frame := .beacon {
            phase := phaseCode s.sp.phase, seq := seqCode s.ts.state, profile := s.cfg.profile
            stampCtr := s.hlc.stamp
            bookings := s.cm.own.map fun b => (b.desc, bkCode b.state) }
          attempts := 0, sending := false }] }))
    ∧ (∀ s : State, s.sp.phase = .joining → s.hlc.joiningT = some 0 →
      ∃ t, exec .joiningTimerEnd s = .next t ∧ t.sp.phase = .running ∧ t.hlc.joiningT = none
        ∧ t.tb = s.tb ∧ t.cfg = s.cfg ∧ t.hlc.presence = s.hlc.presence
        ∧ t.ss.pending = s.ss.pending ∧ t.ed.elView = s.ed.elView)

/-- A good BEACON taken in JOINING, RUNNING or HALTED makes its sender present, starts its absence timer at 3 × tBCN,
takes its phase and sequencer state, and sets PROFILE-MISMATCH when its profile differs (R30, R31). After it, where frames
are dispatched, its sender's records are those its list carries and those claimed after it was offered (an entry that
breaks only a range of R57 is taken as it stands, the model's choice, assumption 65); records of other holders that the
list does not name are not removed (R77). Of a BEACON whose phase, sequencer state or header tick names no value the list
and the tick are not taken (R200; that its profile is still compared is the model's reading, assumption 13); stated with
no plan in the queue. -/
def Obligations.BeaconsKeepPeersAndRecords : Prop :=
  (∀ (s : State) (h : Head) (b : BeaconBody),
    s.goodFrame h (.beacon b) = true → h.sender < s.hlc.presence.length →
    s.hlc.stamp ≤ 4294967295 → b.stampCtr ≤ 4294967295 →
    s.sp.phase = .joining ∨ s.sp.phase = .running ∨ s.sp.phase = .halted →
    ∃ t, exec (.beacon h b) s = .next t
      ∧ t.hlc.presence = s.hlc.presence.set h.sender
          { present := true, absence := some (3 * s.cfg.tBCN), heard := some (b.phase, b.seq) }
      ∧ t.hlc.seq = (s.hlc.seq + 1) % 4294967296
      ∧ max s.hlc.stamp b.stampCtr ≤ t.hlc.stamp
      ∧ t.flags.profileMismatch = (s.flags.profileMismatch || decide (b.profile ≠ s.cfg.profile)))
    ∧ (∀ (s : State) (h : Head) (b : BeaconBody), s.sp.phase = .joining ∨ s.sp.phase = .running →
      s.goodFrame h (.beacon b) = true → h.tick < 60480000 → b.phase ≤ 5 → b.seq ≤ 7 →
      s.cm.map.length + b.bookings.length ≤ 64 → recsRise s.cm.map = true →
      ∃ t, exec (.beacon h b) s = .next t
        ∧ (∀ r ∈ t.cm.map, r.desc.holder = h.sender →
            b.stampCtr < r.desc.stamp ∨ ∃ e ∈ b.bookings, r.isKey e.1.holder e.1.num = true)
        ∧ (∀ r ∈ s.cm.map, r.desc.holder ≠ h.sender →
            (∀ e ∈ b.bookings, r.isKey e.1.holder e.1.num = false) →
            ∃ r' ∈ t.cm.map, r'.desc = r.desc ∧ r'.announced = r.announced)
        ∧ (∀ e ∈ b.bookings, e.1.readable = true → e.2 ≤ 5 → after s.now e.1.stop = true →
            (b.bookings.map fun x => (x.1.holder, x.1.num)).Nodup → e.1.holder = h.sender →
            ∃ r, t.peerRec e.1.holder e.1.num = some r ∧ r.desc = e.1 ∧ r.announced = e.2))
    ∧ (∀ (s : State) (h : Head) (b : BeaconBody), dispatchesIn s.sp.phase = true →
      s.goodFrame h (.beacon b) = true → s.cp.plans = [] →
      60480000 ≤ h.tick ∨ 5 < b.phase ∨ 7 < b.seq →
      ∃ t, exec (.beacon h b) s = .next t ∧ t.cm = s.cm ∧ t.tb = s.tb)

/-- A peer whose absence timer has ended becomes absent, and with it go its bookings from the map, its intents from
the log, its offset, and the use of its items (R31, R39, R78, R95). -/
def Obligations.AbsentPeerLosesItsRecords : Prop :=
  ∀ (s : State) (n : Nat), n < s.hlc.presence.length → n ≠ s.cfg.stationId →
    (s.peer n).present = true → (s.peer n).absence = some 0 →
    ∃ t, exec (.peerAbsent n) s = .next t
      ∧ (t.peer n).present = false ∧ (∀ r ∈ t.cm.map, r.desc.holder ≠ n)
      ∧ (∀ x ∈ t.rl.intents, x.own = none → x.station ≠ n)
      ∧ (t.tb.offsets[n]?).getD none = none
      ∧ (∀ i, s.homeOf .element i = some n → (t.elv i).homeAbsent = true)
      ∧ (∀ i, s.homeOf .antenna i = some n → (t.anv i).homeAbsent = true)

/-! ## Switch elements and antennas (chapter 3) -/

/-- A request's turn (R46, R47): with the drive free and no test refusing it, an element that is not sensed at its target
goes into motion toward it, with a motion timer of twice its nominal motion and 100 ticks; one that is sensed there is
answered SET with measured motion 0 (R46). A request that a test refuses leaves the queue: a peer's is answered REFUSED
with the reason, one of this station's is handed to its requester (stated where no plan and no exercise is there to take
it), and the drive stays free for the next. The tests at the turn, of an element's request and of a slew's, are tests 2 to
4 of R44 in their order: the item is OUT; the requester's booking, own in any state or a peer's HEARD or ACTIVE, does not
stand: its interval contains now, it includes the item with the requested position (an exercise's with any) or azimuth,
and every other held booking on the item whose interval contains now ranks behind it; another booking that is ACTIVE
includes the item. That a SET still held by its owed mark keeps its measured motion there, since no motion has started
(R42), is the model's reading (DEDUCED, assumption 24). -/
def Obligations.DriveTurnMovesElement : Prop :=
  (∀ (s : State) (r : Request) (rest : List Request) (e : ElementRec),
    s.sp.phase = .running → s.ed.exercise = none → s.ed.motion = none → s.ed.driveQ = r :: rest →
    s.element r.item = some e →
    let left := s.withEd { s.ed with driveQ := rest }
    (left.turnRefusal .element r = none →
      ∃ t, exec .driveTurn s = .next t ∧ t.ed.driveQ = rest ∧ t.tb = s.tb ∧ t.pins = s.pins
        ∧ (s.sensedPos r.item ≠ some r.target →
          t.ed.motion = some { req := r, count := 0, timer := 2 * e.nominal + 100 }
            ∧ (t.elv r.item).state = .moving ∧ (t.elv r.item).pos = (s.elv r.item).pos)
        ∧ (s.sensedPos r.item = some r.target →
          t.ed.motion = none ∧ (t.elv r.item).state = .set ∧ (t.elv r.item).pos = some r.target
            ∧ (t.elv r.item).history = (s.elv r.item).history
            ∧ (t.elv r.item).motion = (if (s.elv r.item).owed = true ∧ (s.elv r.item).state = .set then
                (s.elv r.item).motion else 0)))
    ∧ (∀ reason, left.turnRefusal .element r = some reason →
      (r.station ≠ s.cfg.stationId → s.hlc.queue.length + s.hlc.slots.length < 16 →
        exec .driveTurn s = .next ((left.withReports []).withHlc
          { s.hlc with queue := enqueue s.hlc.queue (.position
              { kind := 0, item := r.item, report := 4, value := some r.target, motion := 0
                reqStation := r.station, reqBooking := r.booking, reason := reason }) }))
      ∧ (r.station = s.cfg.stationId → s.cp.plans = [] →
        exec .driveTurn s = .next (left.withReports []))))
    ∧ ∀ (s : State) (k : ItemKind) (r : Request),
      let home := r.station = s.cfg.stationId
      let out := match k with
        | .element => (s.elv r.item).state = .out
        | .antenna => (s.anv r.item).state = .out
      let asks := fun (d : Desc) (exercise : Prop) => match k with
        | .element => ∃ pos, (r.item, pos) ∈ d.steps ∧ (pos = r.target ∨ exercise)
        | .antenna => d.antenna = some r.item ∧ d.azimuth = some r.target
      let rivals := fun d : Desc =>
        d.includes k r.item = true ∧ containsTick d.start d.stop s.now = true
      let stands := fun (d : Desc) (x : Standing) (exercise : Prop) =>
        containsTick d.start d.stop s.now = true ∧ asks d exercise
          ∧ (∀ b ∈ s.cm.own, ¬ (home ∧ b.desc.num = r.booking) → rivals b.desc → x.ahead b.standing = true)
          ∧ (∀ y ∈ s.cm.map, y.isKey r.station r.booking = false → y.held = true → rivals y.desc →
            x.ahead y.standing = true)
      let held := (home ∧ ∃ b, s.ownBooking r.booking = some b ∧ stands b.desc b.standing (b.req = .exercise))
        ∨ (¬ home ∧ ∃ y, s.peerRec r.station r.booking = some y ∧ y.held = true
          ∧ stands y.desc y.standing False)
      let active :=
        (∃ b ∈ s.cm.own, b.state = .active ∧ b.desc.includes k r.item = true ∧ ¬ (home ∧ b.desc.num = r.booking))
          ∨ ∃ y ∈ s.cm.map, y.mark = .active ∧ y.desc.includes k r.item = true
            ∧ y.isKey r.station r.booking = false
      (out → s.turnRefusal k r = some 2)
        ∧ (¬ out → ¬ held → s.turnRefusal k r = some 3)
        ∧ (¬ out → held → active → s.turnRefusal k r = some 4)
        ∧ (¬ out → held → ¬ active → s.turnRefusal k r = none)

/-- The target is sensed (R47, R40): the motion ends, the element is SET at the target, its measured motion, at
least 1, joins a history of at most 4, and its idle time is 0. The motion timer ends first (R47): the drive stops and
the element is FAULT, at the position its lines show or at none when they show no valid code; nothing joins its
history. -/
def Obligations.MotionsEnd : Prop :=
  (∀ (s : State) (m : Motion), s.sp.phase = .running → s.ed.exercise = none →
    s.ed.motion = some m → (s.elv m.req.item).history.length ≤ 4 →
    ∃ t, exec .targetSensed s = .next t ∧ t.ed.motion = none ∧ t.tb = s.tb
      ∧ (t.elv m.req.item).state = .set ∧ (t.elv m.req.item).pos = some m.req.target
      ∧ (t.elv m.req.item).idle = 0 ∧ (t.elv m.req.item).motion = max 1 m.count
      ∧ (t.elv m.req.item).history
        = (if (s.elv m.req.item).history.length < 4 then (s.elv m.req.item).history
          else (s.elv m.req.item).history.drop 1) ++ [max 1 m.count]
      ∧ (t.elv m.req.item).history.length ≤ 4
      ∧ ∀ i, i ≠ m.req.item → (t.elv i).state = (s.elv i).state ∧ (t.elv i).pos = (s.elv i).pos
        ∧ (t.elv i).history = (s.elv i).history)
    ∧ (∀ (s : State) (m : Motion) (valid : Bool) (code c : Nat) (e : ElementRec),
      s.sp.phase = .running → s.ed.exercise = none → s.ed.motion = some m → m.timer = 0 → code ≤ 7 →
      s.element m.req.item = some e → channelOf m.req.item s.ed.elChan = some c →
      c < s.pins.elLines.length →
      ¬ (valid = true ∧ code < e.count ∧ code = m.req.target) →
      ∃ t, exec (.motionTimeout valid code) s = .next t ∧ t.ed.motion = none
        ∧ (t.elv m.req.item).state = .fault
        ∧ (t.elv m.req.item).pos = (if valid = true ∧ code < e.count then some code else none)
        ∧ (t.elv m.req.item).history = (s.elv m.req.item).history
        ∧ t.pins.elLines = s.pins.elLines.set c (valid, code))

/-- Slews (R49, R50): a turn that no test refuses starts the slew of an antenna that is not sensed at its target, with a
slew timer of twice its slew time and 100 ticks, and answers one that is sensed there SET at it (R46); a request that a
test refuses leaves the queue, a peer's answered REFUSED with the reason, one of this station's handed to its requester
(stated where no plan is there to take it). The target sensed makes it SET there; the timer's end makes it FAULT at the
azimuth its lines show. -/
def Obligations.SlewStartsAndEnds : Prop :=
  ∀ (s : State) (r : Request) (a : AntennaRec) (w : SlewRec) (c : Nat),
    s.sp.phase = .running → s.ed.exercise = none → s.antenna r.item = some a → a.slew = some w →
    channelOf r.item s.ed.anChan = some c → c < s.pins.anLines.length →
    (∀ rest, s.ed.slew = none → s.ed.slewQ = r :: rest →
      let left := s.withEd { s.ed with slewQ := rest }
      (left.turnRefusal .antenna r = none →
        ∃ t, exec .slewTurn s = .next t ∧ t.ed.slewQ = rest ∧ t.tb = s.tb ∧ t.pins = s.pins
          ∧ (s.sensedAz r.item ≠ some r.target →
            t.ed.slew = some { req := r, timer := 2 * w.time (s.sensedAz r.item) r.target + 100 }
              ∧ (t.anv r.item).state = .moving ∧ (t.anv r.item).az = (s.anv r.item).az)
          ∧ (s.sensedAz r.item = some r.target →
            t.ed.slew = none ∧ (t.anv r.item).state = .set ∧ (t.anv r.item).az = some r.target))
      ∧ (∀ reason, left.turnRefusal .antenna r = some reason →
        (r.station ≠ s.cfg.stationId → s.hlc.queue.length + s.hlc.slots.length < 16 →
          exec .slewTurn s = .next ((left.withReports []).withHlc
            { s.hlc with queue := enqueue s.hlc.queue (.position
                { kind := 1, item := r.item, report := 4, value := some r.target, motion := 0
                  reqStation := r.station, reqBooking := r.booking, reason := reason }) }))
        ∧ (r.station = s.cfg.stationId → s.cp.plans = [] →
          exec .slewTurn s = .next (left.withReports []))))
    ∧ (∀ n, s.ed.slew = some { req := r, timer := n } →
      ∃ t, exec .slewTargetSensed s = .next t ∧ t.ed.slew = none
        ∧ (t.anv r.item).state = .set ∧ (t.anv r.item).az = some r.target)
    ∧ (∀ code, s.ed.slew = some { req := r, timer := 0 } → code ≤ 511 → code ≠ r.target →
      ∃ t, exec (.slewTimeout code) s = .next t ∧ t.ed.slew = none
        ∧ (t.anv r.item).state = .fault
        ∧ (t.anv r.item).az = (if code < 360 then some code else none))

/-- An unbidden change (R48, R50): with no motion of it in progress, a home element that is not OUT and whose lines
come to show another position, or none, is FAULT at what they show; so is a slewing antenna whose lines come to show
another azimuth, or none. An OUT item stays OUT and is not reported, and an antenna that does not slew has no lines
that are heard. -/
def Obligations.UnbiddenChangeFaultsItem : Prop :=
  (∀ (s : State) (c el code : Nat) (valid : Bool) (e : ElementRec),
    s.sp.phase = .running → s.ed.exercise = none → code ≤ 7 → c < s.pins.elLines.length →
    s.ed.elChan[c]? = some el → channelOf el s.ed.elChan = some c → s.element el = some e →
    (∀ m, s.ed.motion = some m → m.req.item ≠ el) →
    let shown := if valid = true ∧ code < e.count then some code else none
    shown ≠ s.sensedPos el →
    ∃ t, exec (.unbiddenChange .element c valid code) s = .next t
      ∧ t.pins.elLines = s.pins.elLines.set c (valid, code)
      ∧ ((s.elv el).state ≠ .out → (t.elv el).state = .fault ∧ (t.elv el).pos = shown)
      ∧ ((s.elv el).state = .out → t = (s.withReports []).withPins t.pins))
    ∧ (∀ (s : State) (c an code : Nat) (valid : Bool) (a : AntennaRec),
      s.sp.phase = .running → s.ed.exercise = none → code ≤ 511 → c < s.pins.anLines.length →
      s.ed.anChan[c]? = some an → channelOf an s.ed.anChan = some c → s.antenna an = some a →
      (∀ w, s.ed.slew = some w → w.req.item ≠ an) →
      let shown := if code < 360 then some code else none
      shown ≠ s.sensedAz an →
      ∃ t, exec (.unbiddenChange .antenna c valid code) s = .next t
        ∧ t.pins.anLines = s.pins.anLines.set c code
        ∧ ((s.anv an).state ≠ .out → a.slew ≠ none →
          (t.anv an).state = .fault ∧ (t.anv an).az = shown)
        ∧ ((s.anv an).state = .out ∨ a.slew = none → t = (s.withReports []).withPins t.pins))

/-- A MOVE from a peer (R44, R45, R200): one for an item homed elsewhere, or of a kind that names no item, is not acted
on; one for a home item is refused with the first reason of the six that applies, by a REFUSED POSITION. One that passes
every test gives its queued request the new target, or takes it out and is answered SET where the item already stands
there; with none queued it is answered SET at target, or joins the drive or slew queue, or does nothing where its own
motion goes there already (of the measured motion of an answer at target, assumption 24). A POSITION from an item's home
station (R38): SET, MOVING, FAULT and OUT set the view entry as the rule's table gives, a number outside the item's range
as it stands (the model's choice, assumption 53); from any other sender, or with a code that names no value (R200), it
changes no entry. A REFUSED, with an exercise in progress or none, is taken by no block when it is for another station;
one for a request of the current plan in SWITCHING is a route fault (R146): its booking is released, and the plan chooses
again (stated where it has no other route: BLOCKED; of the route it keeps showing, assumption 34, and of the rest of its
last choice, the model's choice, assumption 56). -/
def Obligations.RequestsAndReportsOfItems : Prop :=
  (∀ (s : State) (h : Head) (item num target : Nat),
    dispatchesIn s.sp.phase = true → h.sender ≠ s.cfg.stationId → h.tick < 60480000 →
    let numbered := (s.withReports []).withHlc { s.hlc with seq := (s.hlc.seq + 1) % 4294967296 }
    let r : Request := { item := item, target := target, station := h.sender, booking := num }
    (∀ kind, 1 < kind ∨ (kind = 0 ∧ s.isHome .element item = false)
        ∨ (kind = 1 ∧ s.isHome .antenna item = false) →
      exec (.move h kind item num target) s = .next numbered)
    ∧ (∀ k : ItemKind, s.isHome k item = true →
      let refused := fun reason : Nat => s.hlc.queue.length + s.hlc.slots.length < 16 →
        exec (.move h (kindNat k) item num target) s = .next (numbered.withHlc
          { numbered.hlc with queue := enqueue s.hlc.queue (.position
              { kind := kindNat k, item := item, report := 4, value := some target, motion := 0
                reqStation := h.sender, reqBooking := num, reason := reason }) })
      let fits := match k with
        | .element => ∃ e, s.element item = some e ∧ target < e.count
        | .antenna => ∃ a w, s.antenna item = some a ∧ a.slew = some w ∧ w.lo ≤ target ∧ target ≤ w.hi
      let asks := fun d : Desc => match k with
        | .element => (item, target) ∈ d.steps
        | .antenna => d.antenna = some item ∧ d.azimuth = some target
      let rivals := fun d : Desc =>
        d.includes k item = true ∧ containsTick d.start d.stop s.now = true
      let held := ∃ x, s.peerRec h.sender num = some x ∧ x.held = true
        ∧ containsTick x.desc.start x.desc.stop s.now = true ∧ asks x.desc
        ∧ (∀ b ∈ s.cm.own, rivals b.desc → x.standing.ahead b.standing = true)
        ∧ (∀ y ∈ s.cm.map, y.isKey h.sender num = false → y.held = true → rivals y.desc →
          x.standing.ahead y.standing = true)
      let active := (∃ b ∈ s.cm.own, b.state = .active ∧ b.desc.includes k item = true)
        ∨ ∃ y ∈ s.cm.map, y.mark = .active ∧ y.desc.includes k item = true ∧ y.isKey h.sender num = false
      let other := fun y : Request => y.item = item ∧ ¬ (y.station = h.sender ∧ y.booking = num)
      let duplicate := (∃ y ∈ s.queueOf k, other y) ∨ ∃ y, s.inMotion k item = some y ∧ other y
      let cap := match k with
        | .element => 8
        | .antenna => 4
      (¬ fits → refused 1)
      ∧ (fits → s.itemState k item = .out → refused 2)
      ∧ (fits → s.itemState k item ≠ .out →
        (¬ held → refused 3)
        ∧ (held → active → refused 4)
        ∧ (held → ¬ active → duplicate → refused 5)
        ∧ (held → ¬ active → ¬ duplicate →
          let answers := fun o => exec (.move h (kindNat k) item num target) s = o
          let mine := fun y : Request => y.item = item ∧ y.station = h.sender ∧ y.booking = num
          let queued := ∃ y ∈ s.queueOf k, mine y
          let there := s.sensed k item = some target
          let appended := (cap ≤ (s.queueOf k).length → refused 6)
            ∧ ((s.queueOf k).length < cap → answers (.next (numbered.withQueue k (s.queueOf k ++ [r]))))
          let set := fun q : List Request => s.sp.phase = .running → s.ed.exercise = none → ∃ t, answers (.next t)
            ∧ t.queueOf k = q ∧ s.inMotion k item = none ∧ t.inMotion k item = none
            ∧ match k with
              | .element => (t.elv item).state = .set ∧ (t.elv item).pos = some target
                ∧ (t.elv item).history = (s.elv item).history
                ∧ (t.elv item).motion = (if (s.elv item).owed = true ∧ (s.elv item).state = .set then
                    (s.elv item).motion else 0)
              | .antenna => (t.anv item).state = .set ∧ (t.anv item).az = some target
          (queued → (there → s.inMotion k item ≠ none) → answers (.next (numbered.withQueue k
              ((s.queueOf k).map fun y => if mine y then { y with target := target } else y))))
          ∧ (queued → there → s.inMotion k item = none → set ((s.queueOf k).filter fun y => !decide (mine y)))
          ∧ (¬ queued → s.inMotion k item = none → (there → set (s.queueOf k)) ∧ (¬ there → appended))
          ∧ (∀ m, ¬ queued → s.inMotion k item = some m →
            (m.target = target → answers (.next numbered)) ∧ (m.target ≠ target → appended))))))
    ∧ (∀ (s : State) (h : Head) (p : PosReport), s.sp.phase = .running → h.sender ≠ s.cfg.stationId →
      (p.report ≠ 4 → s.ed.exercise = none) → h.tick < 60480000 →
      let v := s.elv p.item
      (1 < p.kind ∨ 4 < p.report ∨ 6 < p.reason ∨ (p.report = 4 ∧ p.reason = 0)
          ∨ (p.kind = 0 ∧ s.homeOf .element p.item ≠ some h.sender)
          ∨ (p.kind = 1 ∧ s.homeOf .antenna p.item ≠ some h.sender) →
        exec (.position h p) s = .next ((s.withReports []).withHlc
          { s.hlc with seq := (s.hlc.seq + 1) % 4294967296 }))
      ∧ (p.kind = 0 → s.homeOf .element p.item = some h.sender → p.report ≤ 3 → p.reason ≤ 6 →
        ∃ t, exec (.position h p) s = .next t
          ∧ (t.elv p.item).state
            = (if p.report = 0 then .moving else if p.report = 1 then .set
              else if p.report = 2 then .fault else .out)
          ∧ (t.elv p.item).pos = (if p.report = 1 ∨ p.report = 2 then p.value else v.pos)
          ∧ (t.elv p.item).history = (if p.report = 1 then appendMotion v.history p.motion else v.history)
          ∧ (t.elv p.item).homeAbsent = v.homeAbsent
          ∧ ∀ i, i ≠ p.item → (t.elv i).state = (s.elv i).state ∧ (t.elv i).pos = (s.elv i).pos)
      ∧ (p.kind = 1 → s.homeOf .antenna p.item = some h.sender → p.report ≤ 3 → p.reason ≤ 6 →
        ∃ t, exec (.position h p) s = .next t
          ∧ (t.anv p.item).state
            = (if p.report = 0 then .moving else if p.report = 1 then .set
              else if p.report = 2 then .fault else .out)
          ∧ (t.anv p.item).az
            = (if p.report = 1 ∨ p.report = 2 then p.value else (s.anv p.item).az)
          ∧ (t.anv p.item).homeAbsent = (s.anv p.item).homeAbsent
          ∧ ∀ i, i ≠ p.item → (t.anv i).state = (s.anv i).state ∧ (t.anv i).az = (s.anv i).az)
      ∧ (∀ k : ItemKind, p.kind = kindNat k → s.homeOf k p.item = some h.sender → p.report = 4 →
        1 ≤ p.reason → p.reason ≤ 6 →
        let l := { s.hlc with seq := (s.hlc.seq + 1) % 4294967296 }
        (p.reqStation ≠ s.cfg.stationId → exec (.position h p) s = .next ((s.withReports []).withHlc l))
        ∧ (∀ (q : Plan) (b : OwnBooking), p.reqStation = s.cfg.stationId → p.reqBooking = b.desc.num →
          s.cp.plans = [q] → q.state = .switching → q.booking = some b.desc.num →
          s.planIncludes q k p.item = true → q.cont = false → q.excluded = [] →
          (∀ r ∈ s.routesTo q.ant, q.route = some r.1) → s.cm.own = [b] → b.req = .plan q.id →
          b.state = .moving → s.ts.state = .idle → s.pins.rfs = false →
          s.hlc.queue.length + s.hlc.slots.length < 16 →
          exec (.position h p) s = .next ((((s.withReports []).withHlc
              { l with queue := enqueue s.hlc.queue (.release b.desc.num) }).withCm
              { s.cm with own := [] }).withCp
            { s.cp with
              owedMoves := []
              plans := [{ q with state := .blocked, switchedAt := none, booking := none }] }))))

/-! ## Bookings and the claim map (chapter 4) -/

/-- Rank (R58): one booking ranks ahead of another by the first of the four tests that tells them apart: it is
committed and the other is not, its class is higher, its stamp is lower, its holder's id is lower. Own bookings are
committed from MOVING on, and peer records by the mark ACTIVE or an announced state from MOVING on. So of two bookings
whose holders differ exactly one ranks ahead of the other, none ranks ahead of itself, and what ranks ahead of what
ranks ahead ranks ahead. -/
def Obligations.RankIsStrictOrder : Prop :=
  (∀ x y : Standing, x.ahead y = true ↔
    (x.committed = true ∧ y.committed = false)
      ∨ (x.committed = y.committed ∧ y.cls < x.cls)
      ∨ (x.committed = y.committed ∧ x.cls = y.cls ∧ x.stamp < y.stamp)
      ∨ (x.committed = y.committed ∧ x.cls = y.cls ∧ x.stamp = y.stamp ∧ x.holder < y.holder))
    ∧ (∀ b : OwnBooking, b.standing.committed = true ↔
      b.state = .moving ∨ b.state = .confirmed ∨ b.state = .active ∨ b.state = .ending)
    ∧ (∀ r : PeerRec, r.standing.committed = true ↔
      r.mark = .active ∨ r.announced = bkCode .moving ∨ r.announced = bkCode .confirmed
        ∨ r.announced = bkCode .active ∨ r.announced = bkCode .ending)
    ∧ (∀ x y : Standing, x.holder ≠ y.holder → (x.ahead y = true ↔ y.ahead x = false))
    ∧ (∀ x : Standing, x.ahead x = false)
    ∧ (∀ x y z : Standing, x.ahead y = true → y.ahead z = true → x.ahead z = true)

/-- A CLAIM (R70, R71, R72), under a new key with room in the map or under the key of a record it replaces: its record is
OBJECTED when a conflicting own booking is committed or ranks ahead, otherwise YIELDED when a conflicting held record
ranks ahead, otherwise HEARD, and then every conflicting held record of another holder is YIELDED; every other record
stays as it is. A descriptor whose interval is empty or too long, or that names an element twice, is taken as it stands
(the model's choice, assumption 65). For a record that becomes OBJECTED an OBJECT is offered to its holder; it names the
best conflicting own booking by rank (R58: a committed one where there is one), the lowest number on a tie; refused by the
link it is owed (R81); for a record that stood OBJECTED none is offered again. A record OBJECTED or YIELDED changes
nothing else (stated with no plan BLOCKED, which would choose again, R141). A CLAIM that no own booking outranks and no
held record outranks displaces every own booking it conflicts with (R70, R74): RELEASE is offered for each, of an unsent
TENTATIVE one once its CLAIM is reported SENT; this is stated for a quiet station, which makes no new booking in the same
step (of several displaced the RELEASEs go in the order of the own list, the model's choice, assumption 56), and for a
station whose waiting plan holds the booking displaced: RELEASE is offered, and the plan, with no route in service, is
BLOCKED without a booking (R141, R142; what it keeps showing of its last choice is the model's choice, assumption 56). -/
def Obligations.ClaimsArePlacedAndDisplace : Prop :=
  (∀ (s : State) (h : Head) (d : Desc), s.sp.phase = .joining ∨ s.sp.phase = .running →
    s.goodFrame h (.claim d) = true → h.tick < 60480000 → d.readable = true →
    (s.peerRec d.holder d.num = none → s.cm.map.length < 64) → recsRise s.cm.map = true → s.hlc.stamp ≤ 4294967295 →
    d.stamp ≤ 4294967295 →
    let st : Standing := { committed := false, cls := d.cls, stamp := d.stamp, holder := d.holder }
    let strong := s.cm.own.any fun b =>
      b.desc.conflicts d && (b.state.committed || b.standing.ahead st)
    let weak := s.cm.map.any fun r => r.held && r.desc.conflicts d && r.standing.ahead st
    let heard := { s.hlc with seq := (s.hlc.seq + 1) % 4294967296, stamp := max s.hlc.stamp d.stamp }
    ∃ t, exec (.claim h d) s = .next t
      ∧ t.peerRec d.holder d.num = some
          { desc := d, announced := 0
            mark := if strong then .objected else if weak then .yielded else .heard }
      ∧ (∀ x n, ¬ (x = d.holder ∧ n = d.num) → t.peerRec x n = (s.peerRec x n).map fun r =>
          if strong = false ∧ weak = false ∧ r.held = true ∧ r.desc.conflicts d = true then
            { r with mark := .yielded }
          else r)
      ∧ t.cm.map.length = s.cm.map.length + (if s.peerRec d.holder d.num = none then 1 else 0)
      ∧ max s.hlc.stamp d.stamp ≤ t.hlc.stamp
      ∧ ((∀ p ∈ s.cp.plans, p.state ≠ .blocked) →
        let only := fun (l : Link) (objs : List (Nat × Nat × Nat)) =>
          t = ((s.withReports []).withHlc l).withCm { s.cm with map := t.cm.map, owedObj := objs }
        let before := (s.peerRec d.holder d.num).map PeerRec.mark
        (strong = false → weak = true → only heard s.cm.owedObj)
        ∧ (strong = true → before = some .objected → only heard s.cm.owedObj)
        ∧ (∀ o ∈ s.cm.own, strong = true → before ≠ some .objected → o.desc.conflicts d = true →
          (∀ b ∈ s.cm.own, b.desc.conflicts d = true → b ≠ o → o.standing.ahead b.standing = true
            ∨ (b.standing.ahead o.standing = false ∧ o.desc.num < b.desc.num)) →
          (s.hlc.queue.length + s.hlc.slots.length < 16 →
            only { heard with queue := enqueue s.hlc.queue (.object d.holder d.num o.desc.num) } s.cm.owedObj)
          ∧ (16 ≤ s.hlc.queue.length + s.hlc.slots.length → (∃ f ∈ s.hlc.slots, frameBlock f = .cm) →
            only heard ((if s.cm.owedObj.length < 8 then s.cm.owedObj else s.cm.owedObj.drop 1)
              ++ [(d.holder, d.num, o.desc.num)])))))
    ∧ (∀ (s : State) (h : Head) (d : Desc), s.quiet = true → s.sp.phase = .running →
      s.goodFrame h (.claim d) = true → h.tick < 60480000 → d.readable = true →
      (s.peerRec d.holder d.num = none → s.cm.map.length < 64) →
      let st : Standing := { committed := false, cls := d.cls, stamp := d.stamp, holder := d.holder }
      (∀ b ∈ s.cm.own, b.desc.conflicts d = true → b.state.committed = false ∧ b.standing.ahead st = false) →
      (∀ r ∈ s.cm.map, r.held = true → r.desc.conflicts d = true → r.standing.ahead st = false) →
      (s.cm.own.map fun b => b.desc.num).Nodup →
      let gone := s.cm.own.filter fun b => b.desc.conflicts d
      let unsent := fun b : OwnBooking => b.state == .tentative && !b.sent
      ∃ t, exec (.claim h d) s = .next t
        ∧ t.cm.own = s.cm.own.filter fun b => !b.desc.conflicts d
        ∧ t.cm.unsent = s.cm.unsent ++ (gone.filter unsent).map (fun b => b.desc.num)
        ∧ (s.hlc.queue.length + s.hlc.slots.length + (gone.countP fun b => !unsent b) ≤ 16 →
          t.hlc.queue = ((gone.filter fun b => !unsent b).map fun b => Frame.release b.desc.num).foldl enqueue
              s.hlc.queue
            ∧ t.cm.owedRel = s.cm.owedRel)
        ∧ t.cp = s.cp ∧ t.ts = s.ts ∧ t.ed = s.ed ∧ t.tb = s.tb ∧ t.sp = s.sp)
    ∧ (∀ (s : State) (h : Head) (d : Desc) (p : Plan) (b : OwnBooking), s.sp.phase = .running →
      s.goodFrame h (.claim d) = true → h.tick < 60480000 → d.readable = true → s.cm.map = [] →
      s.ed.exercise = none → s.ts.state = .idle → s.cp.plans = [p] → s.cm.own = [b] →
      p.state = .routing ∨ p.state = .ready → p.cont = false → p.excluded = [] →
      (∀ r ∈ s.routesTo p.ant, s.serviceable p.ant r.2.steps = false) →
      p.booking = some b.desc.num → b.req = .plan p.id → b.desc.conflicts d = true → b.state = .booked →
      b.standing.ahead { committed := false, cls := d.cls, stamp := d.stamp, holder := d.holder } = false →
      s.hlc.queue.length + s.hlc.slots.length < 16 →
      ∃ t, exec (.claim h d) s = .next t ∧ t.cm.own = []
        ∧ t.cm.map = [{ desc := d, announced := 0, mark := .heard }]
        ∧ t.cp = { s.cp with plans := [{ p with booking := none, state := .blocked }] }
        ∧ t.hlc.queue = enqueue s.hlc.queue (.release b.desc.num)
        ∧ t.ts = s.ts ∧ t.ed = s.ed ∧ t.tb = s.tb ∧ t.sp = s.sp)

/-- An OBJECT naming this station withdraws the own booking it names when that is TENTATIVE and sent, or BOOKED, and
RELEASE is offered for it; an own booking MOVING or later stays, and an OBJECT naming another station does nothing
(R73); stated for a quiet station with room in its queue, and for the booking of a waiting plan, which with no route in
service is then BLOCKED without a booking (R141, R142; what it keeps showing of its last choice is the model's choice,
assumption 56). That an OBJECT has no effect on a TENTATIVE booking whose CLAIM is
unsent is the model's choice (assumption 51). An AIR makes the record it names ACTIVE and places it again
(R76): with no conflicting own booking and no conflicting held record it is marked ACTIVE. With no such record nothing
but the frame's number changes. -/
def Obligations.ObjectAndAirAct : Prop :=
  (∀ (s : State) (h : Head) (who num objNum : Nat) (b : OwnBooking),
    s.quiet = true → s.sp.phase = .running → h.sender ≠ s.cfg.stationId → h.tick < 60480000 →
    s.hlc.queue.length + s.hlc.slots.length < 16 → s.ownBooking num = some b →
    let l := { s.hlc with seq := (s.hlc.seq + 1) % 4294967296 }
    (who = s.cfg.stationId → (b.state = .tentative ∧ b.sent = true) ∨ b.state = .booked →
      exec (.object h who num objNum) s = .next (((s.withReports []).withHlc
        { l with queue := enqueue s.hlc.queue (.release num) }).withCm
        { s.cm with own := s.cm.own.filter fun x => x.desc.num != num }))
    ∧ (who ≠ s.cfg.stationId ∨ b.state.committed = true ∨ (b.state = .tentative ∧ b.sent = false) →
      exec (.object h who num objNum) s = .next ((s.withReports []).withHlc l)))
    ∧ (∀ (s : State) (h : Head) (objNum : Nat) (p : Plan) (b : OwnBooking), s.sp.phase = .running →
      h.sender ≠ s.cfg.stationId → h.tick < 60480000 → s.ed.exercise = none → s.ts.state = .idle →
      s.cp.plans = [p] → s.cm.own = [b] → p.state = .routing ∨ p.state = .ready → p.cont = false →
      p.excluded = [] → (∀ r ∈ s.routesTo p.ant, s.serviceable p.ant r.2.steps = false) →
      p.booking = some b.desc.num → b.req = .plan p.id →
      (b.state = .tentative ∧ b.sent = true) ∨ b.state = .booked →
      s.hlc.queue.length + s.hlc.slots.length < 16 →
      exec (.object h s.cfg.stationId b.desc.num objNum) s = .next ((((s.withReports []).withHlc
          { s.hlc with seq := (s.hlc.seq + 1) % 4294967296
                       queue := enqueue s.hlc.queue (.release b.desc.num) }).withCm
          { s.cm with own := [] }).withCp
        { s.cp with plans := [{ p with booking := none, state := .blocked }] }))
    ∧ (∀ (s : State) (h : Head) (num : Nat), s.sp.phase = .running → h.sender ≠ s.cfg.stationId →
      h.tick < 60480000 →
      (s.peerRec h.sender num = none →
        exec (.air h num) s = .next ((s.withReports []).withHlc
          { s.hlc with seq := (s.hlc.seq + 1) % 4294967296 }))
      ∧ (∀ r, s.peerRec h.sender num = some r →
        (∀ b ∈ s.cm.own, b.desc.conflicts r.desc = false) →
        (∀ x ∈ s.cm.map, x.held = true → x.desc.conflicts r.desc = false) →
        ∃ t, exec (.air h num) s = .next t
          ∧ t.peerRec h.sender num = some { r with announced := 4, mark := .active }
          ∧ (∀ i n, ¬ (i = h.sender ∧ n = num) → t.peerRec i n = s.peerRec i n)))

/-- A RELEASE removes the record it names and no other; when the map then holds 48 records or fewer the horizon
clears. With no such record nothing changes (R75, R80). Peer records whose until is due leave the map, and no other
record does (R78, R80); intents whose tick plus tWRMP is due leave the log, a plan shows no expired intent of its own
any more (R147), and an expired pending intent drops the held request (R95). -/
def Obligations.RecordsAndIntentsLeave : Prop :=
  (∀ (s : State) (h : Head) (num : Nat), s.sp.phase = .joining ∨ s.sp.phase = .running →
    h.sender ≠ s.cfg.stationId → h.tick < 60480000 →
    ∃ t, exec (.release h num) s = .next t
      ∧ t.cm.map = s.cm.map.filter (fun r => !r.isKey h.sender num)
      ∧ t.cm.horizon = (if t.cm.map.length < s.cm.map.length ∧ t.cm.map.length ≤ 48 then none
          else s.cm.horizon)
      ∧ t.hlc.seq = (s.hlc.seq + 1) % 4294967296 ∧ t.tb = s.tb ∧ t.cfg = s.cfg ∧ t.ed.elView = s.ed.elView)
    ∧ (∀ s : State, s.sp.phase ≠ .stopping →
      (∃ t, exec .peerRecordExpiry s = .next t
        ∧ t.cm.map = s.cm.map.filter (fun r => !due r.desc.stop s.now)
        ∧ t.cm.horizon = (if t.cm.map.length < s.cm.map.length ∧ t.cm.map.length ≤ 48 then none
            else s.cm.horizon)
        ∧ t.tb = s.tb ∧ t.ed.elView = s.ed.elView)
      ∧ (∃ t, exec .intentExpiry s = .next t
        ∧ t.rl.intents = s.rl.intents.filter (fun x => !due (addT x.tick s.cfg.tWRMP) s.now)
        ∧ ((∃ x, s.pendingIntent = some x ∧ due (addT x.tick s.cfg.tWRMP) s.now = true) →
            t.rl.request = none)
        ∧ (∀ x ∈ s.rl.intents, x.own ≠ none → due (addT x.tick s.cfg.tWRMP) s.now = true →
            ∀ p ∈ t.cp.plans, ∀ n, p.intent ≠ some (x.num, n))
        ∧ t.cm = s.cm ∧ t.ts = s.ts ∧ t.ed = s.ed ∧ t.hlc = s.hlc ∧ t.sp = s.sp))

/-- The end of the listen timer makes a TENTATIVE booking BOOKED and its plan in ROUTING READY (R62, R142), and changes
nothing else. The confirm timer ends with every item standing (R64): the booking is CONFIRMED. When its plan is the
current one and SWITCHING, and not beyond its limit, the plan and the sequencer are TUNING from now (R147, R160), the tune
timer runs T + tGRC, and the planner asks for a pick with D the later of R and the tune's end now + T, L the tune's end
and the limit the earlier of A + tLATE + 1 and Z, less tRMP each (R147): the tick found is offered as a RAMP-INTENT and
enters the log UNSENT (R88). With no pin the sequencer sends SET and AUTOTUNE; a pinned way that holds the key gives its
positions, and SET, PRESET and TRIM go out; one that no longer holds it answers MISS, one whose frequency lies in a
no-preset window NOPRESET (R120): AUTOTUNE, with the plan's outcome, tune time and phase tick following (R130, R137).
Either way the pin is released. An offer that the link refuses waits, and the plan has no intent meanwhile (R88). Where no
tick is found, the tune ends as it began, with DOWN (that METER-LOST clears wherever the meter watch stops is DEDUCED,
assumption 28); where the prediction lies beyond the limit nothing is sent; either way the plan is ENDING, MISSED, cause
LATE-LIMIT, and its booking ENDING while RF may be on (R68, R147, R153); stated with no continuation waiting, which would
choose a route (R134). With no RF to wait for, the only plan of a station leaves the queue with its record, RELEASE is
offered and the guard timer runs (R138). -/
def Obligations.ListenAndConfirmTimersEnd : Prop :=
  (∀ (s : State) (num id : Nat) (b : OwnBooking) (p : Plan),
    s.ownBooking num = some b → b.state = .tentative → b.listen = some 0 → b.req = .plan id →
    s.plan id = some p → p.booking = some num → p.state = .routing → s.ts.state = .idle →
    exec (.listenTimerEnd num) s = .next (((s.withReports []).withCm
      { s.cm with own := s.cm.own.map fun x =>
          if x.desc.num = num then { x with state := .booked, listen := none } else x }).withCp
      { s.cp with plans := s.cp.plans.map fun x =>
          if x.id = id then { p with state := .ready } else x }))
    ∧ (∀ (s : State) (num id : Nat) (b : OwnBooking) (p : Plan),
      s.ownBooking num = some b → b.state = .moving → b.confirm = some 0 → s.stands b.desc = true →
      b.req = .plan id → s.plan id = some p → p.booking = some num → s.ts.state = .idle →
      p.state ≠ .switching →
      exec (.confirmTimerEnd num) s = .next ((s.withReports []).withCm
        { s.cm with own := s.cm.own.map fun x =>
            if x.desc.num = num then { x with state := .confirmed, confirm := none } else x }))
    ∧ (∀ (s : State) (num : Nat) (b : OwnBooking) (p : Plan) (outcome : PresetOutcome) (tune : Nat)
        (msgs : List TxMsg),
      s.sp.phase = .running → s.ts.state = .idle → s.pendingIntent = none → s.ownBooking num = some b →
      b.state = .moving → b.confirm = some 0 → s.stands b.desc = true → b.req = .plan p.id →
      s.plan p.id = some p → s.currentPlan = some p → p.booking = some num → p.state = .switching →
      (p.pin = none ∧ outcome = p.preset ∧ tune = p.t ∧ msgs = [.autotune]
        ∨ ∃ i w, p.pin = some (i, w) ∧
          (s.inWindow p.freq = true ∧ outcome = .nopreset ∧ tune = s.cfg.tATN ∧ msgs = [.autotune]
          ∨ s.inWindow p.freq = false ∧ ((s.presetSet i).way w).holds p.freq p.ant = true
            ∧ outcome = p.preset ∧ tune = p.t
            ∧ msgs = [.preset ((s.presetSet i).way w).tune ((s.presetSet i).way w).load
                ((s.presetSet i).way w).band, .trim]
          ∨ s.inWindow p.freq = false ∧ ((s.presetSet i).way w).holds p.freq p.ant = false
            ∧ outcome = .miss ∧ tune = s.cfg.tATN ∧ msgs = [.autotune])) →
      let pd := match p.pin with
        | some (i, w) => (s.releasePin i w).pd
        | none => s.pd
      let r := subT p.a s.cfg.tRMP
      let tuneEnd := addT s.now tune
      let full := addT (later r tuneEnd) s.cfg.tRMP
      let beyond := after (addT p.a s.cfg.tLATE) full || atOrAfter p.z full
      let tuning := { p with
        state := .tuning, tunedAt := some s.now, pin := none, preset := outcome, t := tune
        u := p.r.map fun x => subT x (s.cfg.tSLK + tune)
        swTick := some (p.switchedAt.getD (later (p.w.getD s.now) (s.earliest p.id)))
        predTune := some tuneEnd, predFull := some full, lateness := afterBy p.a full }
      let ending := { tuning with state := .ending, pendOut := some .missed, cause := some .lateLimit }
      let own := fun st rel => s.cm.own.map fun x =>
        if x.desc.num = num then { x with state := st, confirm := none, relPending := rel || x.relPending } else x
      let base := fun st rel (q : Plan) => (((s.withReports []).withPd pd).withCm
          { s.cm with own := own st rel }).withCp
        { s.cp with owedMoves := [], plans := s.cp.plans.map fun x => if x.id = p.id then q else x }
      let seq := { s.ts with
        state := .tuning, tuneT := some (tune + s.cfg.tGRC), tuneFailed := false, upSent := false
        sent := s.ts.sent ++ .set p.freq p.program :: msgs
        meterGap := if s.pins.rfs then some (s.ts.meterGap.getD 0) else none
        meterLost := s.ts.meterLost && s.pins.rfs, strayT := none }
      let pick : PickReq :=
        { plan := p.id, desired := later r tuneEnd, lowest := tuneEnd
          limit := earlier (subT (addT p.a (s.cfg.tLATE + 1)) s.cfg.tRMP) (subT p.z s.cfg.tRMP)
          bySeq := false, waiting := false }
      let n := nextNumber s.rl.numCtr s.intentNumbersUsed
      (∀ i w, p.pin = some (i, w) → i < 64 → s.pd.sets.length = 64 → w < 2 →
        (({ s with pd := pd } : State).presetSet i).pins w = (s.presetSet i).pins w - 1
          ∧ (({ s with pd := pd } : State).presetSet i).way w = (s.presetSet i).way w)
      ∧ (beyond = false → tune < 30240000 →
        (∀ tick, s.findTick pick = some tick → s.rl.intents.length < 32 →
          (s.hlc.queue.length + s.hlc.slots.length < 16 →
            exec (.confirmTimerEnd num) s = .next ((((base .confirmed false
                { tuning with intent := some (n, tick) }).withTs seq).withHlc
                { s.hlc with queue := enqueue s.hlc.queue (.rampIntent n tick) }).withRl
              { s.rl with
                intents := insertBy (intentBefore s.rampBase)
                  { station := s.cfg.stationId, num := n, tick := tick, order := none, own := some .unsent }
                  s.rl.intents
                numCtr := n, request := some pick }))
          ∧ (16 ≤ s.hlc.queue.length + s.hlc.slots.length → (∃ f ∈ s.hlc.slots, frameBlock f = .rl) →
            exec (.confirmTimerEnd num) s = .next (((base .confirmed false
                { tuning with intent := none }).withTs seq).withRl
              { s.rl with request := some { pick with waiting := true } })))
        ∧ (s.findTick pick = none → p.lostOpen = none → (∀ x ∈ s.cp.plans, ¬ (x.cont = true ∧ x.state.waiting = true)) →
          exec (.confirmTimerEnd num) s = .next (((base .ending true ending).withTs
              { seq.stopTimers with
                state := .down, sent := seq.sent ++ [.down], rfoffT := some (s.cfg.tDWN + s.cfg.tGRC)
                rfOffTaken := false }).withRl
            { s.rl with request := none })))
      ∧ (beyond = true → p.lostOpen = none →
        (s.pins.rfs = true → (∀ x ∈ s.cp.plans, ¬ (x.cont = true ∧ x.state.waiting = true)) →
          exec (.confirmTimerEnd num) s = .next ((base .ending true ending).withRl { s.rl with request := none }))
        ∧ (∀ inActive place, s.pins.rfs = false → s.cp.plans = [p] → s.cm.own = [b] →
          p.src = .table inActive place → s.openOccs = [] → s.sp.airLog.length < 32 →
          s.hlc.queue.length + s.hlc.slots.length < 16 →
          exec (.confirmTimerEnd num) s = .next (((((((s.withReports []).withPd pd).withCm
              { s.cm with own := [] }).withCp
              { s.cp with plans := [], owedMoves := [], guardT := some s.cfg.tGRD }).withRl
              { s.rl with request := none }).withHlc
              { s.hlc with queue := enqueue s.hlc.queue (.release num) }).withSp
            { s.sp with airLog := s.sp.airLog
                ++ [{ p with preset := outcome }.record .missed (some .lateLimit)] }))))

/-- An own booking's until falls due (R69): uncommitted, the booking goes; committed, its until moves to now + 3 × tBCN
while the interval stays within 9,000,000 ticks, and where it would not the booking keeps its last until and nothing
changes. Stated for a quiet station; for the uncommitted booking of a waiting plan: RELEASE is offered, and the plan is
dropped MISSED, cause LATE-LIMIT, with its record (R142); and for the one committed booking of a station with any plans,
such as the booking of its current plan, while no other until is due: with the extension every peer record in conflict
with the extended interval is OBJECTED, the others stay, and an OBJECT that names the booking is offered for each that was
not OBJECTED before (R70, R71; stated with no plan BLOCKED, which would choose again, R141; several OBJECTs in key order,
the model's choice, assumption 56). Nothing else changes: the plan goes on. -/
def Obligations.OwnUntilRemovesOrExtends : Prop :=
  (∀ s : State, s.quiet = true → s.sp.phase = .running → (s.cm.own.map fun b => b.desc.num).Nodup →
    ∃ t, exec .ownBookingUntil s = .next t
      ∧ t.cm.own = s.cm.own.filterMap (fun b =>
          if due b.desc.stop s.now then
            if b.state.committed then
              if fd b.desc.start (addT s.now (3 * s.cfg.tBCN)) ≤ 9000000 then
                some { b with desc := { b.desc with stop := addT s.now (3 * s.cfg.tBCN) } }
              else some b
            else none
          else some b)
      ∧ t.cp = s.cp ∧ t.ts = s.ts ∧ t.ed = s.ed ∧ t.tb = s.tb)
    ∧ (∀ (s : State) (p : Plan) (b : OwnBooking), s.sp.phase = .running → s.cp.plans = [p] →
      s.cm.own = [b] → p.state.waiting = true → p.pin = none → (∃ inActive i, p.src = .table inActive i) →
      p.booking = some b.desc.num → b.req = .plan p.id →
      b.state = .booked ∨ (b.state = .tentative ∧ b.sent = true) → due b.desc.stop s.now = true →
      s.openOccs = [] → s.ts.state = .idle → s.sp.airLog.length < 32 →
      s.hlc.queue.length + s.hlc.slots.length < 16 →
      exec .ownBookingUntil s = .next (((((s.withReports []).withHlc
          { s.hlc with queue := enqueue s.hlc.queue (.release b.desc.num) }).withCm
          { s.cm with own := [] }).withCp { s.cp with plans := [] }).withSp
        { s.sp with airLog := s.sp.airLog ++ [p.record .missed (some .lateLimit)] }))
    ∧ (∀ s : State, (∀ b ∈ s.cm.own, due b.desc.stop s.now = true →
        b.state.committed = true ∧ 9000000 < fd b.desc.start (addT s.now (3 * s.cfg.tBCN))) →
      exec .ownBookingUntil s = .next (s.withReports []))
    ∧ (∀ (s : State) (b : OwnBooking), s.sp.phase = .running → b ∈ s.cm.own → b.state.committed = true →
      (∀ x ∈ s.cm.own, x ≠ b → x.state.committed = false ∧ due x.desc.stop s.now = false) →
      (s.cm.own.map fun x => x.desc.num).Nodup → due b.desc.stop s.now = true →
      fd b.desc.start (addT s.now (3 * s.cfg.tBCN)) ≤ 9000000 → (∀ p ∈ s.cp.plans, p.state ≠ .blocked) →
      recsRise s.cm.map = true →
      let extended := { b.desc with stop := addT s.now (3 * s.cfg.tBCN) }
      let objected := fun r : PeerRec => r.mark == .objected
      let fresh := s.cm.map.filter fun r => extended.conflicts r.desc && !objected r
      s.hlc.queue.length + s.hlc.slots.length + fresh.length ≤ 16 →
      exec .ownBookingUntil s = .next (((s.withReports []).withHlc
          { s.hlc with queue :=
              (fresh.map fun r => Frame.object r.desc.holder r.desc.num b.desc.num).foldl enqueue s.hlc.queue }).withCm
        { s.cm with
          own := s.cm.own.map fun x => if x.desc.num = b.desc.num then { x with desc := extended } else x
          map := s.cm.map.map fun r =>
            if extended.conflicts r.desc then { r with mark := .objected } else r }))

/-! ## The hall ramp log (chapter 5) -/

/-- The window rule is tested on the windows that begin at the candidate or at an intent (R85): it holds exactly when
every window of tWRMP ticks that contains the candidate holds at most NRMP − 1 intents. The search (R87) for desired tick D,
earliest tick L and limit: the latest tick at which the rule holds from D down to the later of L and D − tSLK, and where
there is none the earliest after D; one at or after the limit is no tick. -/
def Obligations.WindowRuleCoversEveryWindow : Prop :=
  (∀ (n w : Nat) (ticks : List Nat) (t : Nat), 0 < w →
    (windowRule n w ticks t = true ↔
      ∀ start, fd start t < w → (ticks.countP fun x => decide (fd start x < w)) + 1 ≤ n))
    ∧ (∀ (s : State) (q : PickReq), q.desired < 60480000 →
      let ok := windowRule s.cfg.nRMP s.cfg.tWRMP (s.rl.intents.map Intent.tick)
      let back := min (fd q.lowest q.desired) s.cfg.tSLK
      (∀ k ≤ back, (∀ j < k, ok (subT q.desired j) = false) → ok (subT q.desired k) = true →
        s.findTick q = if atOrAfter q.limit (subT q.desired k) then none else some (subT q.desired k))
      ∧ ((∀ j ≤ back, ok (subT q.desired j) = false) →
        (∀ k, 1 ≤ k → (∀ j, 1 ≤ j → j < k → ok (addT q.desired j) = false) →
          ok (addT q.desired k) = true →
          s.findTick q = if k < afterBy q.desired q.limit then some (addT q.desired k) else none)
        ∧ ((∀ j, ok (addT q.desired j) = false) → s.findTick q = none)))

/-- A RAMP-INTENT (R94): a known intent takes the new tick, a new one is added while there is room, and one out of span is
not added; the log keeps its order. In a full log the latest peer record, the new one included, is discarded (which of two
of one station at one tick is the model's choice, assumption 51); own records stay. A RAMP-CANCEL removes the record it
names (R95). Frames whose header tick names no tick of the week are left to another statement (R200). -/
def Obligations.PeerIntentsEnterAndLeave : Prop :=
  ∀ (s : State) (h : Head) (num tick : Nat), dispatchesIn s.sp.phase = true →
    h.sender ≠ s.cfg.stationId → h.tick < 60480000 → tick < 60480000 →
    let numbered := (s.withReports []).withHlc { s.hlc with seq := (s.hlc.seq + 1) % 4294967296 }
    let same := fun y : Intent => y.own.isNone && y.station == h.sender && y.num == num
    (s.intentOutOfSpan tick = true → exec (.rampIntent h num tick) s = .next numbered)
    ∧ (s.intentOutOfSpan tick = false → s.rl.intents.length < 32 →
      ∃ t, exec (.rampIntent h num tick) s = .next t
        ∧ t = numbered.withRl { s.rl with intents := t.rl.intents }
        ∧ t.rl.intents.Perm ({ station := h.sender, num := num, tick := tick
                               order := some numbered.hlc.seq, own := none }
            :: s.rl.intents.filter fun y => !same y)
        ∧ (s.rl.intents.Pairwise (fun x y => intentBefore s.rampBase y x = false) →
          t.rl.intents.Pairwise (fun x y => intentBefore s.rampBase y x = false)))
    ∧ (s.intentOutOfSpan tick = false → 32 ≤ s.rl.intents.length → (∀ y ∈ s.rl.intents, same y = false) →
      let new : Intent :=
        { station := h.sender, num := num, tick := tick, order := some numbered.hlc.seq, own := none }
      ((∀ y ∈ s.rl.intents, y.own ≠ none) → exec (.rampIntent h num tick) s = .next numbered)
      ∧ (∀ y ∈ s.rl.intents, y.own = none →
        (∀ z ∈ s.rl.intents, z.own = none → z ≠ y → intentBefore s.rampBase z y = true) →
        (intentBefore s.rampBase y new = true → exec (.rampIntent h num tick) s = .next numbered)
        ∧ (intentBefore s.rampBase y new = false → ∃ t, exec (.rampIntent h num tick) s = .next t
          ∧ t = numbered.withRl { s.rl with intents := t.rl.intents }
          ∧ t.rl.intents.Perm (new :: s.rl.intents.filter fun z =>
              !(z.own.isNone && z.station == y.station && z.num == y.num)))))
    ∧ exec (.rampCancel h num) s = .next (numbered.withRl
        { s.rl with intents := s.rl.intents.filter fun y => !same y })

/-- The start check (R91): with fewer than NRMP other intents in the last tWRMP ticks the intent is STARTED and UP is
sent, the plan's first with its commanded power and a restart's with the P it has (R162), and the held request is done.
With the route whole, plan and sequencer are then RAMPING (R149), P and at a first ramp-up the ceiling take the power of
UP and the fold state is cleared, the AT-POWER timer runs tRMP + tGRC and the meter watch runs (R162, R166); the CONFIRMED
booking becomes ACTIVE and AIR is offered, or owed when the link refuses it (R66, R81), an ACTIVE one stays as it is, and
nothing else changes; that a restart after a trip in TUNED counts as the first ramp-up is the model's choice (assumption
62). With NRMP or more no UP is sent, the intent is withdrawn, its RAMP-CANCEL offered, and a tick picked again with D and
L at now, the held request keeping the bounds its requester gave (R86, R93). A pick of the planner that finds no tick is
refused and ends its plan: ENDING, MISSED, cause LATE-LIMIT, with DOWN sent (R147); where no continuation of it waits,
which would then release its booking and choose a route (R134), the link and the log change in nothing else. -/
def Obligations.StartCheckCountsRecentIntents : Prop :=
  ∀ (s : State) (p : Plan) (x : Intent), s.checkReady = some (p, x) →
    s.sp.phase = .running →
    let others := s.rl.intents.countP fun y =>
      !(y.own.isSome && y.num == x.num) && decide (fd y.tick s.now < s.cfg.tWRMP)
    (others < s.cfg.nRMP →
      (∃ t, exec .startCheck s = .next t
        ∧ (∃ l, t.ts.sent = s.ts.sent ++ [.up (if s.ts.upSent then s.ts.p else p.cmdPower.getD 0)] ++ l)
        ∧ t.rl.request = none
        ∧ ∃ y ∈ t.rl.intents, y.num = x.num ∧ y.tick = x.tick ∧ y.own = some .started)
      ∧ (∀ (n : Nat) (b : OwnBooking), s.pathWhole = true → s.plan p.id = some p → p.booking = some n →
        s.ownBooking n = some b → b.req ≠ .exercise →
        let power := if s.ts.upSent then s.ts.p else p.cmdPower.getD 0
        let kept := if s.ts.upSent then s.ts
          else { s.ts with ceiling := power, foldCount := 0, foldT := none, floorT := none, recT := none }
        let up := (((s.withReports []).withTs
            { kept with
              state := .ramping, p := power, sent := s.ts.sent ++ [.up power], upSent := true
              atpT := some (s.cfg.tRMP + s.cfg.tGRC), meterGap := some (s.ts.meterGap.getD 0), strayT := none }).withRl
            { s.rl with
              request := none
              intents := s.rl.intents.map fun y =>
                if y.isPending && y.num == x.num then { y with own := some .started } else y }).withCp
          { s.cp with plans := s.cp.plans.map fun y => if y.id = p.id then { y with state := .ramping } else y }
        let active := fun owed => { s.cm with own := s.cm.own.map fun y =>
          if y.desc.num = n then { y with state := .active, owedAir := owed } else y }
        (b.state = .active → exec .startCheck s = .next up)
        ∧ (b.state = .confirmed → s.hlc.queue.length + s.hlc.slots.length < 16 →
          exec .startCheck s = .next ((up.withCm (active false)).withHlc
            { s.hlc with queue := enqueue s.hlc.queue (.air n) }))
        ∧ (b.state = .confirmed → 16 ≤ s.hlc.queue.length + s.hlc.slots.length →
          (∃ f ∈ s.hlc.slots, frameBlock f = .cm) →
          exec .startCheck s = .next (up.withCm (active true)))))
    ∧ (s.cfg.nRMP ≤ others →
      (∃ t, exec .startCheck s = .next t
        ∧ ∃ l, t.ts.sent = s.ts.sent ++ l ∧ ∀ m ∈ l, m.raisesRf = false)
      ∧ (∀ q, s.rl.request = some q → s.hlc.queue.length + s.hlc.slots.length + 2 ≤ 16 →
        PicksAgain .startCheck s q { q with desired := s.now, lowest := s.now }
          { s.hlc with queue := enqueue s.hlc.queue (.rampCancel x.num) })
      ∧ (∀ q n b, s.rl.request = some q → q.bySeq = false → q.plan = p.id → s.plan p.id = some p →
        p.booking = some n → s.ownBooking n = some b → b.state = .confirmed ∨ b.state = .active →
        b.req = .plan p.id → s.hlc.queue.length + s.hlc.slots.length < 16 →
        let left := s.rl.intents.filter fun z => !z.isPending
        (s.withRl { s.rl with intents := left }).findTick { q with desired := s.now, lowest := s.now } = none →
        (s.cp.plans.map Plan.id).Nodup →
        ∃ t, exec .startCheck s = .next t
          ∧ (∃ z ∈ t.hlc.queue, z.frame = .rampCancel x.num)
          ∧ ((∀ z ∈ s.cp.plans, z.cont = true → z.state.waiting = false) →
            t.rl = { s.rl with intents := left, request := none }
              ∧ t.hlc = { s.hlc with queue := enqueue s.hlc.queue (.rampCancel x.num) })
          ∧ t.ts.state = .down ∧ t.ts.sent = s.ts.sent ++ [.down]
          ∧ (∃ y, t.plan p.id = some y ∧ y.state = .ending ∧ y.pendOut = some .missed
            ∧ y.cause = some .lateLimit ∧ y.intent = none)
          ∧ (t.ownBooking n).map OwnBooking.state = some .ending))

/-- UP goes out on no other occasion: a step that sends an UP is a START_CHECK that finds fewer than NRMP other
intents in the last tWRMP ticks (R91, R162). -/
def Obligations.UpOnlyAfterPassedStartCheck : Prop :=
  ∀ (c : Instr) (s t : State) (l : List TxMsg) (kw : Nat), exec c s = .next t →
    t.ts.sent = s.ts.sent ++ l → .up kw ∈ l →
    c = .startCheck ∧ s.ts.state = .tuned
      ∧ ∃ p x, s.checkReady = some (p, x)
        ∧ (s.rl.intents.countP fun y =>
            !(y.own.isSome && y.num == x.num) && decide (fd y.tick s.now < s.cfg.tWRMP)) < s.cfg.nRMP

/-! ## Season tables and planning (chapters 6, 8) -/

/-- A planning instant falls due (R105, R106, R132). In LOCKOUT the occurrence is recorded MISSED, cause LOCKOUT.
Otherwise, with an empty queue and no route of the station to its antenna, a plan is made for it that stands BLOCKED
(R130, R141); with one route that passes the tests of R140 and an accepted claim, the plan is in ROUTING on that route,
its P, W, U and R recorded (R137, R140), its TENTATIVE booking has the next number and stamp, and the CLAIM is offered
(R60, R61). Either way the occurrence becomes handled. The path time P of a route is 0 where its items stand as booked for
an own booking CONFIRMED or ACTIVE, and otherwise the larger of the sum of the estimates of the elements that need to move
and the slew time (R136); an element's estimate is base + ceil(base / 8) of the larger of its nominal motion and its
longest in the history, a slew's time from an absent azimuth that from the limit farther off (R41). The prediction (R139):
the switching tick is the later of W and, no plan being ahead, the guard timer's end (R138); then P and tSET, T, and the
ramp at the later of R and the tune's end; and the plan is beyond its limit when its full power lies after A + tLATE or at
or after Z. -/
def Obligations.PlanningInstantTakesOccurrence : Prop :=
  (∀ (s : State) (i d : Nat) (e : Entry), s.sp.phase = .running → s.ss.adhoc = [] →
    s.openOccs = [.table i d] → lookupKey i s.ss.active.entries = some e → s.tableOpen e d = true →
    let abs := s.absStart (e.airStart d)
    let marked := { s.ss with active := { s.ss.active with
      entries := s.ss.active.entries.map fun q =>
        if q.1 = i then (q.1, { q.2 with mark := some abs }) else q } }
    (s.ts.state = .lockout → s.sp.airLog.length < 32 →
      exec .planningInstant s = .next (((s.withReports []).withSp
        { s.sp with airLog := s.sp.airLog ++ [{
            src := .table true i, a := e.airStart d, outcome := .missed, lateness := 0, early := 0
            lost := 0, route := none, preset := none, power := none, clampP := false
            clampA := false, folds := 0, cause := some .lockout }] }).withSs marked))
    ∧ (s.ts.state ≠ .lockout → s.cp.plans = [] → s.routesTo e.ant = [] →
      s.cfg.pFlr ≤ min (min e.power s.cfg.pMax) (((s.antenna e.ant).map AntennaRec.rating).getD 0) →
      s.inWindow e.freq = false → s.pd.flush = false → s.isDual e.freq e.ant = false →
      (s.presetSet (presetIndex e.freq e.ant)).find e.freq e.ant = none →
      ∃ t p, exec .planningInstant s = .next t ∧ t.cp = { s.cp with plans := [p] }
        ∧ t = (((s.withReports []).withCp t.cp).withSs marked)
        ∧ p.id = 0 ∧ p.src = .table true i ∧ p.cls = e.cls ∧ p.absA = abs ∧ p.a = e.airStart d
        ∧ p.z = addT (e.airStart d) (e.dur * 6000) ∧ p.freq = e.freq ∧ p.ant = e.ant
        ∧ p.entryPower = e.power ∧ p.program = e.program ∧ p.preset = .miss ∧ p.t = s.cfg.tATN
        ∧ p.late = earlier (addT (e.airStart d) s.cfg.tLATE) (addT (e.airStart d) (e.dur * 6000))
        ∧ p.state = .blocked ∧ p.booking = none ∧ p.intent = none)
    ∧ (∀ (k : Nat) (r : RouteRec), s.ts.state ≠ .lockout → s.cp.plans = [] → s.routesTo e.ant = [(k, r)] →
      s.cfg.pFlr ≤ min (min e.power s.cfg.pMax) (((s.antenna e.ant).map AntennaRec.rating).getD 0) →
      s.inWindow e.freq = false → s.pd.flush = false → s.isDual e.freq e.ant = false →
      (s.presetSet (presetIndex e.freq e.ant)).find e.freq e.ant = none →
      let x := s.planOn (s.newPlan 0 (s.tableOffer i e d)) k r.steps
      let asked := s.planDesc x.1 r.steps (x.1.w.getD 0)
      s.routeFree x.1 r.steps (x.1.w.getD 0) = true → x.2.beyond = false →
      s.claimRefusal (.plan 0) asked = none → s.hlc.queue.length + s.hlc.slots.length < 16 →
      let num := nextNumber s.cm.numCtr s.bookingNumbersUsed
      let desc := { asked with holder := s.cfg.stationId, num := num, stamp := s.hlc.nextStamp }
      let path := s.pathTime e.ant x.1.az r.steps
      x.1.route = some k ∧ x.1.path = path ∧ x.1.t = s.cfg.tATN
        ∧ x.1.r = some (subT (e.airStart d) s.cfg.tRMP)
        ∧ x.1.u = some (subT (subT (e.airStart d) s.cfg.tRMP) (s.cfg.tSLK + s.cfg.tATN))
        ∧ x.1.w = x.1.u.map (fun u => subT u (path + if x.1.noSet then 0 else s.cfg.tSET))
        ∧ (∀ w, x.1.w = some w →
          let switching := later w (addT s.now (s.cp.guardT.getD 0))
          let tuneEnd := addT (addT switching (path + s.cfg.tSET)) s.cfg.tATN
          let full := addT (later (subT (e.airStart d) s.cfg.tRMP) tuneEnd) s.cfg.tRMP
          x.1.swTick = some switching ∧ x.1.predTune = some tuneEnd ∧ x.1.predFull = some full
            ∧ x.1.lateness = (if atOrAfter x.1.a full then fd x.1.a full else 0)
            ∧ after (addT x.1.a s.cfg.tLATE) full = false ∧ atOrAfter x.1.z full = false)
        ∧ exec .planningInstant s = .next (((((s.withReports []).withCp
            { s.cp with plans := [{ x.1 with booking := some num }] }).withCm
            { s.cm with
              numCtr := num
              own := s.cm.own ++ [{ desc := desc, state := .tentative, req := .plan 0, sent := false
                                    listen := none, confirm := none, relPending := false
                                    owedAir := false }] }).withHlc
            { s.hlc with queue := enqueue s.hlc.queue (.claim desc), stamp := s.hlc.nextStamp }).withSs
          marked)))
    ∧ (∀ (s : State) (el : Nat) (rec : ElementRec), s.element el = some rec →
      ∃ base, (base = rec.nominal ∨ base ∈ (s.elv el).history) ∧ rec.nominal ≤ base
        ∧ (∀ m ∈ (s.elv el).history, m ≤ base) ∧ s.estimate el = base + (base + 7) / 8)
    ∧ ∀ (s : State) (ant : Nat) (az : Option Nat) (steps : List (Nat × Nat)),
      let standing := ∃ b ∈ s.cm.own, (b.state = .confirmed ∨ b.state = .active)
        ∧ (∀ st ∈ steps, st ∈ b.desc.steps) ∧ b.desc.antenna = some ant ∧ b.desc.azimuth = az
        ∧ (∀ st ∈ steps, (s.elv st.1).state = .set ∧ (s.elv st.1).pos = some st.2)
        ∧ s.antennaStands ant az = true
      let moves := steps.filter fun st => !((s.elv st.1).state == .set && (s.elv st.1).pos == some st.2)
      let sum := (moves.map fun st => s.estimate st.1).sum
      (standing → s.pathTime ant az steps = 0)
      ∧ (¬ standing →
        ((s.antenna ant).bind AntennaRec.slew = none ∨ az = none → s.pathTime ant az steps = sum)
        ∧ (∀ w b, (s.antenna ant).bind AntennaRec.slew = some w → az = some b →
          let slew := fun a => (1000 * (max a b - min a b) + w.rate - 1) / w.rate
          (∀ a, (s.anv ant).az = some a → s.pathTime ant az steps = max sum (slew a))
          ∧ ((s.anv ant).az = none → s.pathTime ant az steps = max sum (max (slew w.lo) (slew w.hi)))))

/-- An unhandled occurrence's late limit that has been noted and is due is taken in RUNNING (R107): it is recorded
MISSED, cause LATE-LIMIT, and handled. An ad hoc entry with no plan whose end was noted, which happens outside RUNNING,
leaves its slot without a record when the end is taken, a handled one too (DEDUCED, assumption 37). That limits and ends are
noted when they fall due and taken by their own commands is the model's choice (assumption 8), and that a limit is tested by
the absolute tick is DEDUCED (assumption 54). A plan's late limit (R141, R151): a
BLOCKED plan is dropped, MISSED, cause NO-ROUTE (a record shows what the plan keeps of its last choice, the model's choice,
assumption 56); a READY plan is dropped, a continuation too, MISSED, cause LATE-LIMIT,
and RELEASE is offered for its booking (R143); the current plan in RAMP-WAIT with no full power yet, whose limit has not
passed while it was ramping, goes to ENDING as MISSED, cause LATE-LIMIT, and DOWN is sent. That a plan's limit is tested by
level, and the mark that it passed while ramping, are the model's reading (DEDUCED, assumption 33). -/
def Obligations.LateLimitsAndEnds : Prop :=
  (∀ (s : State) (i d : Nat) (e : Entry),
    (s.sp.phase = .running → s.ss.lateDue = [.table i d] →
      lookupKey i s.ss.active.entries = some e → s.tableUnhandled e d = true →
      absDue ((s.absStart (e.airStart d) + s.cfg.tLATE) % Config.absSpan) s.absNow = true →
      s.sp.airLog.length < 32 →
      exec .occurrenceLateLimit s = .next (((s.withReports []).withSp
        { s.sp with airLog := s.sp.airLog ++ [{
            src := .table true i, a := e.airStart d, outcome := .missed, lateness := 0, early := 0
            lost := 0, route := none, preset := none, power := none, clampP := false
            clampA := false, folds := 0, cause := some .lateLimit }] }).withSs
        { s.ss with
          lateDue := []
          active := { s.ss.active with
            entries := s.ss.active.entries.map fun q =>
              if q.1 = i then (q.1, { q.2 with mark := some (s.absStart (e.airStart d)) }) else q } }))
    ∧ (∃ t, exec .adHocEnd s = .next t ∧ t.sp.airLog = s.sp.airLog
      ∧ t = (s.withReports []).withSs { s.ss with endDue := [], adhoc := t.ss.adhoc }
      ∧ ∀ p, p ∈ t.ss.adhoc ↔ p ∈ s.ss.adhoc ∧ ¬ (p.1 ∈ s.ss.endDue ∧ s.slotPlanned p.1 = false
          ∧ absDue p.2.absEnd s.absNow = true)))
    ∧ (∀ (s : State) (p : Plan), s.sp.phase = .running → due p.late s.now = true →
      (s.cp.plans = [p] → p.state = .blocked → p.booking = none → p.pin = none →
        (∃ inActive i, p.src = .table inActive i) → s.openOccs = [] → s.ts.state = .idle →
        s.sp.airLog.length < 32 →
        exec (.planLateLimit p.id) s = .next (((s.withReports []).withSp
          { s.sp with airLog := s.sp.airLog ++ [p.record .missed (some .noRoute)] }).withCp
          { s.cp with plans := [] }))
      ∧ (∀ n b, s.cp.plans = [p] → p.state = .ready → p.booking = some n → s.cm.own = [b] →
        b.desc.num = n → b.state = .booked → b.req = .plan p.id → p.pin = none →
        (∃ inActive i, p.src = .table inActive i) → s.openOccs = [] → s.ts.state = .idle →
        s.sp.airLog.length < 32 → s.hlc.queue.length + s.hlc.slots.length < 16 →
        exec (.planLateLimit p.id) s = .next (((((s.withReports []).withHlc
            { s.hlc with queue := enqueue s.hlc.queue (.release n) }).withCm
            { s.cm with own := [] }).withCp { s.cp with plans := [] }).withSp
          { s.sp with airLog := s.sp.airLog ++ [p.record .missed (some .lateLimit)] }))
      ∧ (∀ n b, s.currentPlan = some p → s.plan p.id = some p → p.state = .rampWait →
        p.firstFull = none → p.limitPast = false → p.booking = some n → s.ownBooking n = some b → b.state = .confirmed →
        b.req = .plan p.id → s.ts.state = .tuned →
        ∃ t, exec (.planLateLimit p.id) s = .next t
          ∧ t.ts.state = .down ∧ t.ts.sent = s.ts.sent ++ [.down]
          ∧ (∃ q, t.plan p.id = some q ∧ q.state = .ending ∧ q.pendOut = some .missed
            ∧ q.cause = some .lateLimit)
          ∧ (t.ownBooking n).map OwnBooking.state = some .ending))

/-- The armed instant falls due outside CONFIG (R109, R110): the tables change places, the new active table's floor is
the armed instant, and the arm clears; an instant not yet due changes nothing (the model's choice, assumption 1). The late
limits noted for the former table go with it (assumptions 8, 51). Stated with no plan in the queue and no season being
run; and in RUNNING, with no entry in the new table and no ad hoc entry, for plans that are all kept, each of which from
then on names a place of the former table, and for a waiting plan of the former table that starts at or after the
instant, which is dropped without a record and its booking released (R111). -/
def Obligations.ChangeoverSwapsTables : Prop :=
  ∀ (s : State) (week second : Nat), s.ss.arm = some (week, second) →
    let instant := week * 60480000 + second * 100
    let swapped :=
      { s.ss with
        active := { s.ss.pending with floor := some instant }
        pending := s.ss.active, arm := none
        lateDue := s.ss.lateDue.filter fun o => match o with
          | .table _ _ => false
          | .adhoc _ => true }
    (s.cp.plans = [] → s.sp.phase = .joining ∨ s.sp.phase = .halted ∨ s.sp.phase = .linkFault →
      absDue instant s.absNow = true →
      exec .changeoverInstant s = .next ((s.withReports []).withSs swapped))
    ∧ (absDue instant s.absNow = false → exec .changeoverInstant s = .next (s.withReports []))
    ∧ (s.sp.phase = .running → absDue instant s.absNow = true → s.ss.pending.entries = [] → s.ss.adhoc = [] →
      ((∀ p ∈ s.cp.plans, (∃ i, p.src = .table true i) →
          p.state.waiting = false ∨ absDue instant p.absA = false) →
        exec .changeoverInstant s = .next (((s.withReports []).withSs swapped).withCp
          { s.cp with plans := s.cp.plans.map fun p => match p.src with
            | .table _ i => { p with src := .table false i }
            | .adhoc _ => p }))
      ∧ (∀ p b i, s.cp.plans = [p] → p.src = .table true i → p.state.waiting = true →
        absDue instant p.absA = true → p.pin = none → s.cm.own = [b] → p.booking = some b.desc.num →
        b.req = .plan p.id → b.state = .booked ∨ (b.state = .tentative ∧ b.sent = true) →
        s.ts.state = .idle → s.hlc.queue.length + s.hlc.slots.length < 16 →
        exec .changeoverInstant s = .next (((((s.withReports []).withSs swapped).withCp
            { s.cp with plans := [] }).withCm { s.cm with own := [] }).withHlc
          { s.hlc with queue := enqueue s.hlc.queue (.release b.desc.num) })))

/-- The head plan, READY, switches (R144): its booking is MOVING, the plan SWITCHING, and every item homed at a peer
is asked for by a MOVE on the link. Of a route with home items, the request for each of them is handed to the element drive:
the elements' join the drive queue in step order, the antenna's the slew queue (stated with both drives free, no other booking
and no home item at its target yet; what a request meets otherwise is R44's and R45's, stated for MOVE). The guard timer ends
(R138); with no plan waiting nothing is computed again. -/
def Obligations.SwitchingAndGuardTimer : Prop :=
  (∀ (s : State) (p : Plan) (rest : List Plan) (n : Nat) (b : OwnBooking),
    s.cp.plans = p :: rest → p.state = .ready → p.cont = false → (∀ q ∈ rest, q.state.current = false) →
    s.cp.guardT = none → s.ts.state = .idle → due (p.swTick.getD s.now) s.now = true →
    p.booking = some n → s.ownBooking n = some b → b.state = .booked → s.sp.phase = .running →
    (s.predict { p with switchedAt := some s.now } (p.w.getD s.now)
      (s.pathTime p.ant p.az (s.routeSteps p))).beyond = false →
    (∀ m ∈ s.planMoves p, s.isHome m.1 m.2.1 = false) →
    s.hlc.queue.length + s.hlc.slots.length + (s.planMoves p).length ≤ 16 →
    ∃ t, exec .switchingStart s = .next t
      ∧ (t.plan p.id).map Plan.state = some .switching
      ∧ (t.ownBooking n).map OwnBooking.state = some .moving
      ∧ (∀ m ∈ s.planMoves p, ∃ y ∈ t.hlc.queue, y.frame = moveFrame n m.1 m.2.1 m.2.2)
      ∧ t.hlc.queue.length = s.hlc.queue.length + (s.planMoves p).length
      ∧ t.ts = s.ts ∧ t.tb = s.tb ∧ t.ed = s.ed ∧ t.sp = s.sp ∧ t.ss = s.ss)
    ∧ (∀ (s : State) (p : Plan) (rest : List Plan) (b : OwnBooking),
      s.cp.plans = p :: rest → p.state = .ready → p.cont = false → (∀ q ∈ rest, q.state.current = false) →
      s.cp.guardT = none → s.ts.state = .idle → due (p.swTick.getD s.now) s.now = true →
      p.booking = some b.desc.num → s.cm.own = [b] → s.cm.map = [] → b.state = .booked → s.sp.phase = .running →
      b.req = .plan p.id → b.desc.steps = s.routeSteps p → b.desc.antenna = some p.ant → b.desc.azimuth = p.az →
      containsTick b.desc.start b.desc.stop s.now = true →
      (s.predict { p with switchedAt := some s.now } (p.w.getD s.now)
        (s.pathTime p.ant p.az (s.routeSteps p))).beyond = false →
      let moves := s.planMoves p
      let home := fun m : ItemKind × Nat × Nat => s.isHome m.1 m.2.1
      let asked := fun m : ItemKind × Nat × Nat =>
        ({ item := m.2.1, target := m.2.2, station := s.cfg.stationId, booking := b.desc.num } : Request)
      (moves.map fun m => (m.1, m.2.1)).Nodup → s.ed.driveQ = [] → s.ed.slewQ = [] → s.ed.motion = none →
      s.ed.slew = none → moves.length ≤ 7 →
      (∀ m ∈ moves, home m = true → s.targetInRange m.1 m.2.1 m.2.2 = true ∧ s.itemState m.1 m.2.1 ≠ .out
        ∧ s.sensed m.1 m.2.1 ≠ some m.2.2) →
      s.hlc.queue.length + s.hlc.slots.length + (moves.countP fun m => !home m) ≤ 16 →
      ∃ t, exec .switchingStart s = .next t
        ∧ (t.plan p.id).map Plan.state = some .switching
        ∧ (t.ownBooking b.desc.num).map OwnBooking.state = some .moving
        ∧ (∀ m ∈ moves, home m = false → ∃ y ∈ t.hlc.queue, y.frame = moveFrame b.desc.num m.1 m.2.1 m.2.2)
        ∧ t.hlc.queue.length = s.hlc.queue.length + (moves.countP fun m => !home m)
        ∧ t.ed = { s.ed with
            driveQ := (moves.filter fun m => m.1 == .element && home m).map asked
            slewQ := (moves.filter fun m => m.1 == .antenna && home m).map asked }
        ∧ t.ts = s.ts ∧ t.tb = s.tb ∧ t.sp = s.sp ∧ t.ss = s.ss)
    ∧ (∀ s : State, s.cp.guardT = some 0 → (∀ p ∈ s.cp.plans, p.state.waiting = false) →
      exec .guardTimerEnd s = .next ((s.withReports []).withCp { s.cp with guardT := none }))

/-- A falls due for a current plan that has been at power (R149, R179): the program source is handed over, be the plan
ON-AIR or, after a trip, in RAMP-WAIT or RAMPING. Z falls due with no continuation (R151, R153, R163): the plan is ENDING
with the outcome AIRED, or LATE when full power came after A, DOWN is sent, and its booking is ENDING and
release-pending. -/
def Obligations.AirStartsAndEnds : Prop :=
  (∀ (s : State) (p : Plan), s.currentPlan = some p →
    p.state = .onAir ∨ p.state = .ramping ∨ p.state = .rampWait → p.firstFull ≠ none →
    due p.a s.now = true → p.progDone = false →
    exec .airStart s = .next (((s.withReports []).withTs { s.ts with psel := p.program }).withCp
      { s.cp with plans := s.cp.plans.map fun x =>
          if x.id = p.id then { x with progDone := true } else x }))
    ∧ (∀ (s : State) (p : Plan) (n f : Nat) (b : OwnBooking),
      s.cp.plans = [p] → p.state = .onAir → s.sp.phase = .running → p.booking = some n →
      s.ownBooking n = some b → b.state = .active → b.req = .plan p.id → s.ts.state = .onAir →
      due p.z s.now = true → p.firstFull = some f → p.pendOut = none → p.cont = false →
      ∃ t, exec .airEnd s = .next t
        ∧ t.ts.state = .down ∧ t.ts.sent = s.ts.sent ++ [.down]
        ∧ t.ts.rfoffT = some (s.cfg.tDWN + s.cfg.tGRC) ∧ t.inhibit = true
        ∧ (∃ q, t.plan p.id = some q ∧ q.state = .ending ∧ q.pendOut = none ∧ q.firstFull = some f
          ∧ q.ending = (if after p.a f = true then .late else .aired, none))
        ∧ (∃ x, t.ownBooking n = some x ∧ x.state = .ending ∧ x.relPending = true))

/-- Z falls due with a READY continuation (R67, R152, R179): the hand-over gives it the predecessor's booking standing
and the programme, without DOWN and without RELEASE. A commanded power that differs is handed over, and clears the fold
count; an equal one is not, and P, ceiling and fold count stay. That the count the continuation's record holds is not
changed by the hand-over is the model's choice (assumption 53). -/
def Obligations.ContinuationTakesOver : Prop :=
  ∀ (s : State) (p c : Plan) (n m : Nat) (bp bc : OwnBooking),
    s.cp.plans = [p, c] → s.sp.phase = .running → s.ts.state = .onAir → p.state = .onAir →
    due p.z s.now = true → c.cont = true → c.state = .ready → p.precedes c = true → p.id ≠ c.id →
    p.booking = some n → c.booking = some m → s.cm.own = [bp, bc] → bp.desc.num = n →
    bc.desc.num = m → n ≠ m → bp.state = .active → bc.state = .booked → bp.req = .plan p.id →
    bc.req = .plan c.id → bp.desc.steps = bc.desc.steps → bp.desc.antenna = bc.desc.antenna →
    bp.desc.azimuth = bc.desc.azimuth → bc.owedAir = false → s.stands bp.desc = true → p.firstFull ≠ none →
    (∃ inActive i, p.src = .table inActive i) → s.openOccs = [] → s.sp.airLog.length < 32 →
    s.hlc.queue.length + s.hlc.slots.length < 16 →
    ∃ t, exec .airEnd s = .next t
      ∧ t.ts.state = .onAir ∧ t.ts.psel = c.program
      ∧ (c.cmdPower = p.cmdPower → t.ts.ceiling = s.ts.ceiling ∧ t.ts.p = s.ts.p
        ∧ t.ts.foldCount = s.ts.foldCount ∧ t.ts.sent = s.ts.sent)
      ∧ (c.cmdPower ≠ p.cmdPower → t.ts.ceiling = c.cmdPower.getD 0
        ∧ t.ts.p = min s.ts.p (c.cmdPower.getD 0) ∧ t.ts.foldCount = 0
        ∧ t.ts.sent = s.ts.sent ++ if t.ts.p = s.ts.p then [] else [.power t.ts.p])
      ∧ (∀ x ∈ t.ts.sent, x = .down → x ∈ s.ts.sent)
      ∧ t.cp.plans = [{ c with state := .onAir, firstFull := some c.a, progDone := true }]
      ∧ t.cm.own = [{ bc with state := .active, confirm := bp.confirm }]
      ∧ t.hlc.queue = enqueue s.hlc.queue (.air m)
      ∧ t.sp.airLog = s.sp.airLog ++ [p.record p.ending.1 p.ending.2]

/-! ## The tuning preset directory (chapter 7) -/

/-- A lookup answers by the first test that applies (R118): a window, flush, a dual match, a way with the key, none.
The tune time follows from the outcome. -/
def Obligations.LookupAnswersByFirstTest : Prop :=
  ∀ (s : State) (f a : Nat),
    let i := presetIndex f a
    let x := s.presetSet i
    let r := s.lookup f a
    s.pd.sets.length = 64 →
    (s.inWindow f = true → r = (s, { outcome := .nopreset, pin := none }))
    ∧ (s.inWindow f = false → s.pd.flush = true → r.2 = { outcome := .miss, pin := none }
      ∧ ∀ w < 2, (x.pins w = 0 → ((r.1.presetSet i).way w).valid = false)
        ∧ (0 < x.pins w → (r.1.presetSet i).way w = x.way w))
    ∧ (s.inWindow f = false → s.pd.flush = false → s.isDual f a = true →
      r.2 = { outcome := .miss, pin := none } ∧ r.1.flags.directoryError = true
        ∧ (s.pd.latch = none → r.1.pd.latch = some (i, f, a))
        ∧ (s.pd.latch ≠ none → r.1.pd.latch = s.pd.latch ∧ r.1.pd.further = true)
        ∧ ∀ w < 2, ((r.1.presetSet i).way w).valid = false ∧ (r.1.presetSet i).pins w = 0)
    ∧ (s.inWindow f = false → s.pd.flush = false → s.isDual f a = false → ∀ w < 2,
      (x.way w).holds f a = true →
      r.2 = { outcome := if (x.way w).age < s.cfg.ageV then .fresh else .stale, pin := some (i, w) }
        ∧ (r.1.presetSet i).pins w = x.pins w + 1 ∧ (r.1.presetSet i).way w = x.way w
        ∧ (r.1.presetSet i).lru = 1 - w)
    ∧ (s.inWindow f = false → s.pd.flush = false →
      (x.way 0).holds f a = false → (x.way 1).holds f a = false →
      r = (s, { outcome := .miss, pin := none }))
    ∧ (∀ j, j ≠ i → r.1.presetSet j = s.presetSet j)
    ∧ s.tuneTime .fresh = s.cfg.tTRF ∧ s.tuneTime .stale = s.cfg.tTRS ∧ s.tuneTime .miss = s.cfg.tATN
    ∧ s.tuneTime .nopreset = s.cfg.tATN

/-! ## The transmitter sequencer (chapter 9) -/

/-- TUNED in TUNING (R148, R161): the sequencer is TUNED, the plan in RAMP-WAIT, and the positions are stored over a way
that holds the key (R122, R123), or a miss fills a way (R124): an invalid one, else the one the LRU mark names, else the
other, of these only one with no pin, and none in freeze mode; stated for a current plan whose route stands and whose
pending intent is not yet past. A tune that fails or times out ends its plan ABORTED, cause TUNE, with DOWN sent (R148,
R161, R163); a failure's code is kept for status. -/
def Obligations.TuneEndsEitherWay : Prop :=
  (∀ (s : State) (p : Plan) (x : Intent) (tune load band : Nat),
    s.sp.phase = .running → s.ts.state = .tuning → s.ts.tuneFailed = false → s.currentPlan = some p →
    s.plan p.id = some p → p.state = .tuning → s.pathWhole = true → s.pendingIntent = some x →
    atOrAfter s.now x.tick = true → (∀ b ∈ s.cm.own, b.relPending = false) →
    s.isDual p.freq p.ant = false → s.pd.sets.length = 64 →
    ∃ t, exec (.tuned tune load band) s = .next t
      ∧ t.ts.state = .tuned ∧ t.ts.tuneT = none ∧ t.ts.sent = s.ts.sent ∧ t.inhibit = true
      ∧ (t.plan p.id).map Plan.state = some .rampWait ∧ t.cm = s.cm ∧ t.hlc = s.hlc ∧ t.rl = s.rl
      ∧ (s.inWindow p.freq = true → t.pd = s.pd)
      ∧ (∀ w < 2, s.inWindow p.freq = false →
        ((s.presetSet (presetIndex p.freq p.ant)).way w).holds p.freq p.ant = true →
        (t.presetSet (presetIndex p.freq p.ant)).way w =
          { (s.presetSet (presetIndex p.freq p.ant)).way w with
            tune := tune, load := load, band := band, age := 0
            hits := min 255 (((s.presetSet (presetIndex p.freq p.ant)).way w).hits + 1) })
      ∧ (let i := presetIndex p.freq p.ant
        let y := s.presetSet i
        let both := y.way0.valid = true ∧ y.way1.valid = true
        s.inWindow p.freq = false → y.way0.holds p.freq p.ant = false → y.way1.holds p.freq p.ant = false →
        y.lru ≤ 1 →
        (s.pd.freeze = true ∨ (both ∧ 0 < y.pin0 ∧ 0 < y.pin1) → t.pd = s.pd)
        ∧ (∀ w < 2, s.pd.freeze = false →
          (w = 0 ∧ y.way0.valid = false) ∨ (w = 1 ∧ y.way0.valid = true ∧ y.way1.valid = false)
            ∨ (both ∧ w = y.lru ∧ y.pins w = 0) ∨ (both ∧ w = 1 - y.lru ∧ 0 < y.pins y.lru ∧ y.pins w = 0) →
          t.pd = { s.pd with sets := t.pd.sets }
            ∧ (t.presetSet i).way w = { valid := true, freq := p.freq, ant := p.ant, tune := tune, load := load
                                        band := band, age := 0, hits := 0 }
            ∧ (t.presetSet i).way (1 - w) = y.way (1 - w) ∧ (t.presetSet i).lru = 1 - w
            ∧ (∀ v, (t.presetSet i).pins v = y.pins v) ∧ ∀ j, j ≠ i → t.presetSet j = s.presetSet j)))
    ∧ (∀ (s : State) (p : Plan) (n code : Nat) (b : OwnBooking),
      s.sp.phase = .running → s.ts.state = .tuning → s.currentPlan = some p → s.plan p.id = some p →
      p.state = .tuning → p.booking = some n → s.ownBooking n = some b → b.state = .confirmed →
      b.req = .plan p.id →
      let ended := fun t : State =>
        t.ts.state = .down ∧ t.ts.sent = s.ts.sent ++ [.down] ∧ t.ts.tuneT = none
          ∧ (∃ q, t.plan p.id = some q ∧ q.state = .ending ∧ q.pendOut = some .aborted
            ∧ q.cause = some .tune)
          ∧ (t.ownBooking n).map OwnBooking.state = some .ending
      (s.ts.tuneFailed = false → ∃ t, exec (.tuneFail code) s = .next t ∧ ended t
        ∧ t.ts.lastTuneFail = some code)
      ∧ (s.ts.tuneT = some 0 → ∃ t, exec .tuneTimeout s = .next t ∧ ended t
        ∧ t.ts.lastTuneFail = s.ts.lastTuneFail))

/-- AT-POWER in RAMPING (R149, R150, R163): the sequencer and the plan are ON-AIR, the first AT-POWER is the plan's first
full-power tick, and the program source is handed over at once when A is due. -/
def Obligations.AtPowerGoesOnAir : Prop :=
  ∀ (s : State) (p : Plan), s.sp.phase = .running → s.ts.state = .ramping → s.currentPlan = some p →
    s.plan p.id = some p → p.state = .ramping → s.pathWhole = true →
    ∃ t, exec .atPower s = .next t
      ∧ t.ts.state = .onAir ∧ t.ts.atpT = none ∧ t.ts.sent = s.ts.sent ∧ t.inhibit = false
      ∧ t.ts.psel = (if due p.a s.now = true ∧ p.progDone = false then p.program else s.ts.psel)
      ∧ (∃ q, t.plan p.id = some q ∧ q.state = .onAir ∧ q.lostOpen = none
        ∧ q.firstFull = some (p.firstFull.getD s.now)
        ∧ q.lostAir = (match p.lostOpen with
            | some o => min 4294967295 (p.lostAir + afterBy o s.now)
            | none => p.lostAir))
      ∧ t.cm = s.cm ∧ t.hlc = s.hlc ∧ t.rl = s.rl

/-- Every protection cause makes a trip (R163–R167, R169, R171–R174, R177): old entries leave the log, the trip's tick and
cause are appended (last even after a backward step of time, and RF-HOLD in HALTED too, the model's choice, assumption
53), and the sequencer stands TRIPPED, or IDLE when nothing holds it there, or in LOCKOUT with DOWN sent when the log now
holds NTRP entries. The inhibit is asserted, the timers of R173 stop, P and the ceiling stay and the restart delay starts
in TRIPPED (stated where the trip cannot complete a RESTART's stop; that it stands still when the trip ends in IDLE is
DEDUCED, assumption 27), and below NTRP entries nothing but the DOWN of RF-HOLD is sent (R172, R173). The plan of a trip
(R150), stated where STOPPING leaves none but ENDING plans, an invariant of every step (O60): in RAMP-WAIT, RAMPING or
ON-AIR it is in RAMP-WAIT with a lost-air interval open from the later of now and A (from its first opening where one is
open already, the model's choice, assumption 55); in TUNING it is ENDING, ABORTED, cause TRIP (stated with RF still on). A
FAULT is recorded in every state (R171; in CONFIG by the model's choice, assumption 51), and outside the states it trips
in nothing else happens. The loss of the permit (R164, R165) is stated for a home element of the current plan's booking
that leaves its place. -/
def Obligations.ProtectionCausesTrip : Prop :=
  ∀ s : State,
    let log := fun c : TripCause =>
      (s.ts.tripLog.filter fun e => !due (addT e.1 s.cfg.tWTRP) s.now) ++ [(s.now, c)]
    let trips := fun (i : Instr) (c : TripCause) => ∃ t, exec i s = .next t
      ∧ t.ts.tripLog = log c ∧ t.inhibit = true
      ∧ (s.cfg.nTRP ≤ (log c).length → t.ts.state = .lockout ∧ ∃ l, t.ts.sent = s.ts.sent ++ .down :: l)
      ∧ t.ts.tuneT = none ∧ t.ts.atpT = none ∧ t.ts.rfoffT = none ∧ t.ts.meterGap = none
      ∧ t.ts.meterLost = false ∧ t.ts.foldT = none ∧ t.ts.floorT = none ∧ t.ts.recT = none
      ∧ (s.sp.phase ≠ .stopping ∨ s.sp.restartMark = false → t.ts.p = s.ts.p ∧ t.ts.ceiling = s.ts.ceiling
        ∧ t.ts.restartT = (if t.ts.state = .tripped then some s.cfg.tRST else none))
      ∧ ((log c).length < s.cfg.nTRP → (t.ts.state = .tripped ∨ t.ts.state = .idle)
        ∧ t.ts.sent = s.ts.sent ++ (if c = .rfHold then [.down] else [])
        ∧ ∀ p, (s.sp.phase = .stopping → ∀ q ∈ s.cp.plans, q.state = .ending) →
          s.currentPlan = some p → s.plan p.id = some p →
          (p.state = .rampWait ∨ p.state = .ramping ∨ p.state = .onAir → ∃ q, t.plan p.id = some q
            ∧ q.state = .rampWait ∧ q.lostOpen = some (p.lostOpen.getD (later s.now p.a)))
          ∧ (∀ b, p.state = .tuning → s.pins.rfs = true → p.booking.bind s.ownBooking = some b →
            b.state.committed = true → ∃ q, t.plan p.id = some q
              ∧ q.state = .ending ∧ q.pendOut = some .aborted ∧ q.cause = some .trip))
    let live := s.ts.state = .tuning ∨ s.ts.state = .ramping ∨ s.ts.state = .onAir
    (s.ts.state = .ramping → s.ts.atpT = some 0 → trips .atPowerTimeout .rampTimeout)
    ∧ (∀ g, s.ts.meterGap = some g → 200 ≤ g → trips .meterTimeout .meter)
    ∧ (s.ts.floorT = some 0 → trips .foldFloor .foldFloor)
    ∧ (s.ts.state ≠ .lockout → s.ts.strayT = some 0 → trips .strayRfTimeout .rfHold)
    ∧ (s.ts.state = .down → s.ts.rfoffT = some 0 → s.pins.rfs = true → trips .rfOffTimeout .rfHold)
    ∧ (∀ c, live ∨ s.ts.state = .tuned → trips (.fault c) (faultTrip c))
    ∧ (∀ c, ∃ t, exec (.fault c) s = .next t ∧ t.ts.lastFault = some (c, s.now)
      ∧ (¬ (live ∨ s.ts.state = .tuned) →
        t = (s.withReports []).withTs { s.ts with lastFault := some (c, s.now) }))
    ∧ (∀ pf pr, live → s.cfg.pfMin ≤ pf → s.cfg.qTrp ≤ min 1000 (1000 * pr / pf) →
      trips (.meter pf pr) .reflected)
    ∧ (∀ pf pr, live → pf < s.cfg.pfMin → s.cfg.prAbs ≤ pr → trips (.meter pf pr) .reflectedAbs)
    ∧ (∀ (c el code : Nat) (valid : Bool) (e : ElementRec) (b : OwnBooking),
      live ∨ s.ts.state = .tuned → s.sp.phase = .running → s.ed.exercise = none → s.pathWhole = true →
      s.currentBooking = some b → b.desc.includes .element el = true → code ≤ 7 →
      c < s.pins.elLines.length → s.ed.elChan[c]? = some el → channelOf el s.ed.elChan = some c →
      s.element el = some e → (∀ m, s.ed.motion = some m → m.req.item ≠ el) →
      (if valid = true ∧ code < e.count then some code else none) ≠ s.sensedPos el →
      trips (.unbiddenChange .element c valid code) .permitLoss)

/-- A METER that does not trip (R166–R170). In RAMPING or ON-AIR: in the fold band with the fold interval stopped and P
above PFLR it folds, and the current plan's record takes the count of folds; at PFLR it starts the floor timer; below half
QWRN and below the ceiling it starts the recovery timer. With Pf below PFMIN and Pr below PRABS the floor and recovery timers
stop. In TUNING nothing but the meter watch starts again, and the watch runs there only while RF is sensed; in every other
state the report is discarded. -/
def Obligations.MeterFoldsWatchesRecovers : Prop :=
  ∀ (s : State) (pf pr : Nat),
    let q := min 1000 (1000 * pr / pf)
    let heard :=
      { s.ts with meterLost := false
                  meterGap := if s.ts.state = .tuning ∧ s.pins.rfs = false then none else some 0 }
    let on := s.ts.state = .ramping ∨ s.ts.state = .onAir
    (s.ts.state ≠ .tuning → ¬ on → exec (.meter pf pr) s = .next (s.withReports []))
    ∧ (s.ts.state = .tuning → s.cfg.pfMin ≤ pf → q < s.cfg.qTrp →
      exec (.meter pf pr) s = .next ((s.withReports []).withTs heard))
    ∧ (s.ts.state = .tuning ∨ on → pf < s.cfg.pfMin → pr < s.cfg.prAbs →
      exec (.meter pf pr) s = .next ((s.withReports []).withTs { heard with floorT := none, recT := none }))
    ∧ (on → s.cfg.pfMin ≤ pf → q < s.cfg.qTrp →
      (s.cfg.qWrn ≤ q → s.ts.foldT = none → s.cfg.pFlr < s.ts.p →
        let n := min 65535 (s.ts.foldCount + 1)
        let p := max s.cfg.pFlr (s.ts.p - max 1 (s.ts.p * s.cfg.fold / 100))
        exec (.meter pf pr) s = .next (((s.withReports []).withTs
          { heard with
            p := p, foldCount := n, foldT := some s.cfg.tFLD, recT := none
            sent := s.ts.sent ++ [.power p] }).withCp
          { s.cp with plans := s.cp.plans.map fun x =>
              if s.currentPlan.map Plan.id = some x.id then { x with folds := n } else x }))
      ∧ (s.cfg.qWrn ≤ q → s.ts.foldT ≠ none → s.cfg.pFlr < s.ts.p →
        exec (.meter pf pr) s = .next ((s.withReports []).withTs { heard with recT := none }))
      ∧ (s.cfg.qWrn ≤ q → s.ts.p ≤ s.cfg.pFlr →
        exec (.meter pf pr) s = .next ((s.withReports []).withTs
          { heard with recT := none, floorT := some (s.ts.floorT.getD s.cfg.tFLD) }))
      ∧ (q < s.cfg.qWrn → q < s.cfg.qWrn / 2 → s.ts.p < s.ts.ceiling →
        exec (.meter pf pr) s = .next ((s.withReports []).withTs
          { heard with floorT := none, recT := some (s.ts.recT.getD s.cfg.tRCV) }))
      ∧ (q < s.cfg.qWrn → s.cfg.qWrn / 2 ≤ q →
        exec (.meter pf pr) s = .next ((s.withReports []).withTs
          { heard with floorT := none, recT := none })))

/-- The sequencer's quiet timers and counts (R159, R166, R168, R170, R174, R203): each changes the sequencer alone. -/
def Obligations.SequencerTimersAct : Prop :=
  ∀ s : State,
    (s.ts.foldT = some 0 →
      exec .foldIntervalEnd s = .next ((s.withReports []).withTs { s.ts with foldT := none }))
    ∧ (s.ts.recT = some 0 →
      let p := min s.ts.ceiling (s.ts.p + max 1 (s.ts.p * s.cfg.fold / 100))
      exec .recovery s = .next ((s.withReports []).withTs
        { s.ts with p := p, recT := if p < s.ts.ceiling then some s.cfg.tRCV else none
                    sent := s.ts.sent ++ [.power p] }))
    ∧ (∀ g, s.ts.meterGap = some g → 20 ≤ g → s.ts.meterLost = false →
      exec .meterLost s = .next ((s.withReports []).withTs
        { s.ts with meterLost := true, foldT := none, floorT := none, recT := none }))
    ∧ (∀ why, exec (.txReportDiscarded why) s = .next ((s.withReports []).withTs
        { s.ts with lineErr := min 255 (s.ts.lineErr + 1) }))
    ∧ exec .tripLogExpiry s = .next ((s.withReports []).withTs
        { s.ts with tripLog := s.ts.tripLog.filter fun e => !due (addT e.1 s.cfg.tWTRP) s.now })

/-- DOWN is left for IDLE once RF-OFF has been taken and RF-sense is low, in either order, or at the RF-OFF timer's end
with RF-sense low and one line error more (R163); with RF gone and the sequencer IDLE the release-pending bookings
leave (R68), and with its booking the plan in ENDING: RELEASE is offered, the guard timer starts, and the plan leaves the
queue with its air record (R138, R153). RF in IDLE starts the stray-RF timer (R172). That DOWN ends so in HALTED too is the
model's choice (assumption 53). -/
def Obligations.RfOffReturnsToIdle : Prop :=
  ∀ s : State,
    (s.ts.state = .down → s.pins.rfs = false →
      (∃ t, exec .rfOff s = .next t ∧ t.ts.state = .idle ∧ t.ts.sent = s.ts.sent)
        ∧ (s.ts.rfoffT = some 0 → ∃ t, exec .rfOffTimeout s = .next t ∧ t.ts.state = .idle
          ∧ t.ts.lineErr = min 255 (s.ts.lineErr + 1) ∧ t.ts.sent = s.ts.sent))
    ∧ (s.ts.state = .down → s.pins.rfs = true →
      exec .rfOff s = .next ((s.withReports []).withTs { s.ts with rfOffTaken := true })
        ∧ (s.ts.rfOffTaken = true → ∃ t, exec (.rfSenseChange false) s = .next t
          ∧ t.ts.state = .idle ∧ t.pins.rfs = false ∧ t.ts.sent = s.ts.sent))
    ∧ (s.quiet = true → s.sp.phase = .running → s.pins.rfs = true →
      (s.cm.own.map fun b => b.desc.num).Nodup →
      ∃ t, exec (.rfSenseChange false) s = .next t
        ∧ t.cm.own = s.cm.own.filter (fun b => !b.relPending) ∧ t.ts.strayT = none)
    ∧ (∀ (p : Plan) (b : OwnBooking), s.sp.phase = .running → s.ts.state = .down → s.cp.plans = [p] →
      s.cm.own = [b] → p.state = .ending → p.pin = none → (∃ inActive i, p.src = .table inActive i) →
      p.booking = some b.desc.num → b.req = .plan p.id → b.state = .ending → b.relPending = true →
      s.openOccs = [] → s.sp.airLog.length < 32 → s.hlc.queue.length + s.hlc.slots.length < 16 →
      let ended := fun t : State => t.ts.state = .idle ∧ t.cm = { s.cm with own := [] }
        ∧ t.cp = { s.cp with plans := [], guardT := some s.cfg.tGRD }
        ∧ t.sp.airLog = s.sp.airLog ++ [p.record p.ending.1 p.ending.2]
        ∧ t.hlc.queue = enqueue s.hlc.queue (.release b.desc.num)
      (s.pins.rfs = true → s.ts.rfOffTaken = true →
        ∃ t, exec (.rfSenseChange false) s = .next t ∧ ended t)
      ∧ (s.pins.rfs = false → ∃ t, exec .rfOff s = .next t ∧ ended t))
    ∧ (s.quiet = true → s.sp.phase ≠ .config → s.pins.rfs = false →
      ∃ t, exec (.rfSenseChange true) s = .next t
        ∧ t.ts.strayT = some (s.ts.strayT.getD (s.cfg.tDWN + s.cfg.tGRC)) ∧ t.cm = s.cm)

/-- The restart delay ends (R175, R176): with the plan in RAMP-WAIT, its route standing and no RF, a pick from now makes the
sequencer TUNED, ready to ramp; with no plan current, or one that is still in SWITCHING (the
model's choice, assumption 56), the restart is abandoned and TRIPPED left for IDLE. -/
def Obligations.RestartDelayPicksOrAbandons : Prop :=
  ∀ s : State, s.ts.state = .tripped → s.ts.restartT = some 0 → s.pins.rfs = false →
    (∀ b ∈ s.cm.own, b.relPending = false) → s.sp.phase = .running →
    (∀ p tick, s.currentPlan = some p → s.plan p.id = some p → p.state = .rampWait →
      due p.z s.now = false → s.pathWhole = true → s.pendingIntent = none →
      s.findTick { plan := p.id, desired := s.now, lowest := s.now, limit := p.z, bySeq := true
                   waiting := false } = some tick →
      s.hlc.queue.length + s.hlc.slots.length < 16 →
      ∃ t, exec .restartDelayEnd s = .next t
        ∧ t.ts.state = .tuned ∧ t.ts.upSent = s.ts.upSent ∧ t.ts.p = s.ts.p ∧ t.ts.sent = s.ts.sent
        ∧ (∃ y ∈ t.rl.intents, y.own = some .unsent ∧ y.tick = tick ∧ y.station = s.cfg.stationId)
        ∧ ∃ num, ∃ y ∈ t.hlc.queue, y.frame = .rampIntent num tick)
    ∧ (s.currentPlan = none → ∃ t, exec .restartDelayEnd s = .next t
      ∧ t.ts.state = .idle ∧ t.ts.restartT = none ∧ t.ts.sent = s.ts.sent)
    ∧ (∀ p, s.currentPlan = some p → p.state = .switching → (∀ q, s.rl.request = some q → q.bySeq = false) →
      ∃ t, exec .restartDelayEnd s = .next t
        ∧ t.ts.state = .idle ∧ t.ts.restartT = none ∧ t.ts.sent = s.ts.sent ∧ t.cp = s.cp)

/-- LOCKOUT (R177, R178): while it lasts the line carries no UP, TRIM or AUTOTUNE and the inhibit is asserted; nothing but
CLEAR-LOCKOUT and pin reset ends it; and its timers stand still. -/
def Obligations.LockoutHoldsRfOff : Prop :=
  ∀ (c : Instr) (s t : State), exec c s = .next t → s.ts.lockedStill = true →
    t.ts.lockedStill = true
      ∧ (s.ts.state = .lockout → c ≠ .pinReset →
        (∃ l, t.ts.sent = s.ts.sent ++ l ∧ ∀ m ∈ l, m.raisesRf = false) ∧ t.inhibit = true
          ∧ (t.ts.state = .lockout ∨ (c = .commandCompletion ∧ t.ts.state = .idle
            ∧ ∃ x, s.sp.taken = some x ∧ x.code = 25 ∧ x.answer = none)))

/-! ## The schedule port (chapter 10) -/

/-- Windows (R182–R184). The receiver makes bytes of the bits clocked in while select is asserted, the most significant
first: a last byte left incomplete is discarded, bits while select is released are ignored, and pin reset abandons a
window (R182, R199). A command window during BUSY is ignored and sets COLLISION; one during READY empties the buffer and
sets OVERRUN; otherwise the command is taken, and judged in this order: an unknown code, a length byte that is missing,
wrong or not followed by the payload, a phase that does not take the command. A command so refused is answered at its
completion with that status, an empty payload, and no effect. A completion with nothing taken changes nothing (assumption
1). Code 0 is the fetch code and codes 1 to 27 are the commands, in the order of the command table; a command is taken in
the phases of R186 and carries the payload length of R202. -/
def Obligations.WindowsAreJudgedInOrder : Prop :=
  (∀ (s : State) (code : Byte) (win : List Byte) (c : Instr), 0 < code.toNat →
    windowCommand (code :: win) = some c →
    let out := s.portByte :: List.replicate win.length (byte 0)
    (s.sp.resp = .busy → exec c s = .next
      (((s.withReports []).withSp { s.sp with rx := code :: win, sdo := out }).withFlags { s.flags with collision := true }))
    ∧ (s.sp.resp ≠ .busy → ∃ k : Taken,
      exec c s = .next (((s.withReports []).withSp
          { s.sp with
            rx := code :: win, sdo := out, resp := .busy, taken := some k
            response := if s.sp.resp = .ready then none else s.sp.response
            hold := if s.sp.resp = .ready then false else s.sp.hold }).withFlags
          { s.flags with overrun := s.flags.overrun || decide (s.sp.resp = .ready) })
        ∧ k.code = code.toNat
        ∧ (27 < code.toNat → k.answer = some .unknown)
        ∧ (code.toNat ≤ 27 → win = [] → k.answer = some .badArg)
        ∧ ∀ len rest, code.toNat ≤ 27 → win = len :: rest →
          (payloadLength code.toNat rest ≠ some len.toNat ∨ rest.length < len.toNat →
            k.answer = some .badArg)
          ∧ (payloadLength code.toNat rest = some len.toNat → len.toNat ≤ rest.length →
            (takenIn code.toNat s.sp.phase = false → k.answer = some .badPhase)
            ∧ (takenIn code.toNat s.sp.phase = true →
              k.answer = none ∧ k.payload = rest.take len.toNat))))
    ∧ (∀ (s : State) (k : Taken) (st : Status),
      s.sp.resp = .busy → s.sp.taken = some k → k.answer = some st →
      exec .commandCompletion s = .next ((s.withReports []).withSp
        { s.sp with resp := .ready, taken := none, response := some { status := st, payload := [] } }))
    ∧ (∀ s : State, s.sp.resp ≠ .busy ∨ s.sp.taken = none →
      exec .commandCompletion s = .next (s.withReports []))
    ∧ (∀ (s : State) (code : Byte) (win : List Byte), s.sp.resp = .empty → 27 < code.toNat →
      Serves (.unknownCommand code win) s (s.answered code win .unknown []))
    ∧ (∀ (l : List Byte) (part : List Bool), part.length < 8 →
      spiCommands SpiInput.idle (.select :: (sdoBits l ++ part).map .clock ++ [.release])
        = (windowCommand l).toList)
    ∧ (∀ bits : List Bool, spiCommands SpiInput.idle (bits.map .clock) = []
      ∧ spiCommands SpiInput.idle (.select :: bits.map .clock ++ [.pinReset]) = [.pinReset])
    ∧ (∀ (n : Nat) (p : Phase), takenIn n p = true ↔
      (1 ≤ n ∧ n ≤ 7 ∧ p = .config) ∨ (8 ≤ n ∧ n ≤ 15) ∨ (16 ≤ n ∧ n ≤ 20 ∧ (p = .config ∨ p = .running))
        ∨ (21 ≤ n ∧ n ≤ 25 ∧ p = .running) ∨ (n = 26 ∧ (p = .joining ∨ p = .running))
        ∨ (n = 27 ∧ (p = .running ∨ p = .halted ∨ p = .linkFault)))
    ∧ (∀ (n : Nat) (payload : List Byte), 1 ≤ n → n ≤ 27 → n ≠ 5 → payloadLength n payload
      = [9, 47, 8, 14, 0, 6, 0, 0, 2, 0, 2, 14, 1, 1, 2, 14, 0, 6, 0, 17, 2, 3, 1, 5, 0, 0, 0][n - 1]?)
    ∧ (∀ (route antenna pref steps : Byte) (rest : List Byte),
      payloadLength 5 (route :: antenna :: pref :: steps :: rest)
        = if 1 ≤ steps.toNat ∧ steps.toNat ≤ 6 then some (4 + 2 * steps.toNat) else none)
    ∧ (∀ payload : List Byte, payload.length < 4 → payloadLength 5 payload = none)
    ∧ (∀ win : List Byte, windowCommand [] = none ∧ windowCommand (byte 0 :: win) = some (.fetch (win.length + 1))
      ∧ (List.range 27).map (fun n => windowCommand (byte (n + 1) :: win)) =
        [Instr.setStation win, .setTiming win, .loadElement win, .loadAntenna win, .loadRoute win, .setTime win,
          .start win, .readStatus win, .clearFlags win, .readLog win, .readPreset win, .writePreset win,
          .readPlan win, .readBooking win, .readElement win, .loadEntry win, .clearPending win,
          .armChangeover win, .swapNow win, .loadAdhoc win, .cancelEntry win, .service win, .presetMode win,
          .setWindow win, .clearLockout win, .stop win, .restart win].map some
      ∧ ∀ c : Byte, 27 < c.toNat → windowCommand (c :: win) = some (.unknownCommand c win))

/-- A fetch window that shifts the whole response out empties the buffer, and after READ-LOG takes the oldest
record out of the air log; a shorter one leaves both as they were; with no response READY it shifts out zero bytes
(R185, R197); of what it clocks in the receive buffer keeps the fetch code (the model's choice, assumption 52). READ-LOG
answers with the oldest record and the count of those behind it, and with bytes of zero when there is none (R197,
R202). -/
def Obligations.FetchShiftsResponseOut : Prop :=
  (∀ (s : State) (r : Response) (count : Nat), s.sp.resp = .ready → s.sp.response = some r →
    let out := s.portByte :: byte (statusCode r.status) :: r.payload
    (out.length ≤ count → exec (.fetch count) s = .next ((s.withReports []).withSp
      { s.sp with
        rx := [byte 0], sdo := out ++ List.replicate (count - out.length) (byte 0)
        resp := .empty, response := none, hold := false
        airLog := if s.sp.hold then s.sp.airLog.drop 1 else s.sp.airLog }))
    ∧ (0 < count → count < out.length → exec (.fetch count) s = .next ((s.withReports []).withSp
      { s.sp with rx := [byte 0], sdo := out.take count })))
    ∧ (∀ (s : State) (count : Nat), s.sp.resp ≠ .ready → 0 < count →
      exec (.fetch count) s = .next ((s.withReports []).withSp
        { s.sp with rx := [byte 0], sdo := s.portByte :: List.replicate (count - 1) (byte 0) }))
    ∧ (∀ (s : State) (extra : List Byte), s.sp.resp = .empty →
      let win := hostWindow [] extra
      let a := s.answered 10 win .ok (bytesOf s.logBytes)
      Serves (.readLog win) s (a.withSp { a.sp with hold := !s.sp.airLog.isEmpty })
        ∧ (s.sp.airLog = [] → s.logBytes = List.replicate 29 0)
        ∧ (∀ x rest, s.sp.airLog = x :: rest → s.logBytes = [rest.length, 1] ++ airBytes x))

/-- SET-STATION and SET-TIME in CONFIG (R1, R6, R187): an id above 15, or a second past the week, is refused BAD-ARG;
otherwise each value is stored clamped to its limits, OK-CLAMPED when clamping changed one, and a new REFNOM gives the
divider its D, which restarts; the capture count then takes in the cycles run into the tick, a number no command gives
and so a free value (assumption 50), and one at the capture limit of the former REFNOM stands at that of the new one
(R3; DEDUCED, assumption 43). SET-TIME sets week and second, and sets its loaded mark. -/
def Obligations.StationAndTimeAreSet : Prop :=
  ∀ (s : State) (l extra : List Byte), s.sp.resp = .empty → s.sp.phase = .config →
    let win := hostWindow l extra
    let clamped := fun lo hi v : Nat => max lo (min hi v)
    (l.length = 9 →
      let bcn := field l 2 1
      let lsn := field l 3 2
      let nrmp := field l 5 1
      let wrmp := field l 6 1
      let ref := field l 7 2
      let fits := 1 ≤ bcn ∧ bcn ≤ 30 ∧ 50 ≤ lsn ∧ lsn ≤ 2000 ∧ 1 ≤ nrmp ∧ nrmp ≤ 8 ∧ 1 ≤ wrmp
        ∧ wrmp ≤ 60 ∧ 8000 ≤ ref ∧ ref ≤ 12000
      (15 < field l 0 1 → Serves (.setStation win) s (s.answered 1 win .badArg []))
      ∧ (field l 0 1 ≤ 15 →
        let a := s.answered 1 win (if fits then .ok else .okClamped) []
        let ref := clamped 8000 12000 ref
        let former := 2 * s.cfg.refnom * 1000
        let c := min former
          (s.tb.capCount + min (Config.cyclesIntoTick s.freeCtr) (s.tb.d - 1 - s.tb.divCount))
        let kept := ref = s.cfg.refnom
        Serves (.setStation win) s ((((a.withCfg
            { s.cfg with
              stationId := field l 0 1, profile := field l 1 1, tBCN := clamped 1 30 bcn * 100
              tLSN := (clamped 50 2000 lsn + 9) / 10, nRMP := clamped 1 8 nrmp
              tWRMP := clamped 1 60 wrmp * 100, refnom := ref }).withTb
            (if kept then s.tb else
              { s.tb with
                d := ref * 10, divCount := 0
                capCount := if c = former then 2 * ref * 1000 else min (2 * ref * 1000) c })).withFreeCtr
            (if kept then s.freeCtr else s.freeCtr + 1)).withSp
            { a.sp with stationLoaded := true })))
    ∧ (l.length = 6 →
      (604800 ≤ field l 2 4 → Serves (.setTime win) s (s.answered 6 win .badArg []))
      ∧ (field l 2 4 < 604800 → ∃ t, Serves (.setTime win) s t
        ∧ t = ((s.answered 6 win .ok []).withTb
            { s.tb with week := field l 0 2, sow := field l 2 4, timeSet := true }).withSs
            { s.ss with endDue := t.ss.endDue }))

/-- SET-TIMING in CONFIG (R188): each parameter is stored, in ticks for a duration, clamped to its limits, PFLR to at most
PMAX and QTRP above QWRN; OK-CLAMPED when clamping changed one; the hall parameters stay. -/
def Obligations.TimingIsStoredClamped : Prop :=
  ∀ (s : State) (l extra : List Byte), s.sp.resp = .empty → s.sp.phase = .config → l.length = 47 →
    let win := hostWindow l extra
    let at_ := fun off k lo hi : Nat => max lo (min hi (field l off k))
    let ms := fun off k lo hi : Nat => max 1 ((at_ off k lo hi + 9) / 10)
    let pMax := at_ 31 2 10 1000
    let qWrn := at_ 39 2 5 299
    let fits := fun off k lo hi : Nat => lo ≤ field l off k ∧ field l off k ≤ hi
    let allFit := fits 0 2 100 5000 ∧ fits 2 2 50 2000 ∧ fits 4 2 500 30000 ∧ fits 6 2 1000 60000
      ∧ fits 8 4 5000 180000 ∧ fits 12 2 200 10000 ∧ fits 14 2 100 5000 ∧ fits 16 2 1000 60000
      ∧ fits 18 2 0 10000 ∧ fits 20 1 2 60 ∧ fits 21 1 0 30 ∧ fits 22 2 0 720 ∧ fits 24 2 10 600
      ∧ fits 26 2 1 8760 ∧ fits 28 1 1 8 ∧ fits 29 1 1 60 ∧ fits 30 1 1 60 ∧ fits 31 2 10 1000
      ∧ fits 33 2 1 pMax ∧ fits 35 2 1 10000 ∧ fits 37 2 1 10000 ∧ fits 39 2 5 299
      ∧ fits 41 2 (qWrn + 1) 300 ∧ fits 43 1 5 25 ∧ fits 44 2 100 2000 ∧ fits 46 1 1 60
    ∃ t st, Serves (.setTiming win) s t ∧ (allFit → st = .ok) ∧ (¬ allFit → st = .okClamped)
      ∧ t = ((s.answered 2 win st []).withCfg t.cfg).withSp
          { (s.answered 2 win st []).sp with timingLoaded := true }
      ∧ t.cfg = { s.cfg with
          tGRD := ms 0 2 100 5000, tSET := ms 2 2 50 2000, tTRF := ms 4 2 500 30000
          tTRS := ms 6 2 1000 60000, tATN := ms 8 4 5000 180000, tRMP := ms 12 2 200 10000
          tDWN := ms 14 2 100 5000, tGRC := ms 16 2 1000 60000, tSLK := ms 18 2 0 10000
          tHZN := at_ 20 1 2 60 * 6000, tLATE := at_ 21 1 0 30 * 6000, tEXR := at_ 22 2 0 720 * 360000
          tEXL := at_ 24 2 10 600 * 100, ageV := at_ 26 2 1 8760, nTRP := at_ 28 1 1 8
          tWTRP := at_ 29 1 1 60 * 6000, tRST := at_ 30 1 1 60 * 100, pMax := pMax
          pFlr := at_ 33 2 1 pMax, pfMin := at_ 35 2 1 10000, prAbs := at_ 37 2 1 10000, qWrn := qWrn
          qTrp := at_ 41 2 (qWrn + 1) 300, fold := at_ 43 1 5 25, tFLD := ms 44 2 100 2000
          tRCV := at_ 46 1 1 60 * 100 }
      ∧ (pMax = field l 31 2 → field l 33 2 ≤ pMax → 1 ≤ field l 33 2 → t.cfg.pFlr = field l 33 2)
      ∧ t.cfg.pFlr ≤ t.cfg.pMax ∧ t.cfg.qWrn < t.cfg.qTrp

/-- LOAD-ELEMENT, LOAD-ANTENNA and LOAD-ROUTE in CONFIG (R34, R35, R36): fields out of range are refused BAD-ARG; the 17th
element, 9th antenna or 4th route of its home or antenna is refused FULL; a replacement of an element that a step of a
loaded route would no longer fit is refused BAD-ARG, after FULL (the order is DEDUCED, assumption 25); an accepted record
stands under its id and no other record changes. Spare bits and values outside a range count as out of range (DEDUCED
from R202, assumption 41). -/
def Obligations.PlantRecordsAreLoaded : Prop :=
  ∀ (s : State) (l extra : List Byte), s.sp.resp = .empty → s.sp.phase = .config →
    let win := hostWindow l extra
    let id := field l 0 1
    (l.length = 8 →
      let home := field l 1 1
      let count := field l 2 1
      let rating := field l 3 2
      let ms := field l 5 2
      let valid := id ≤ 95 ∧ home ≤ 15 ∧ 2 ≤ count ∧ count ≤ 8 ∧ 1 ≤ rating ∧ rating ≤ 1000
        ∧ field l 7 1 ≤ 1
      let others := s.ed.elements.countP fun p => p.1 != id && p.2.home == home
      (¬ valid → Serves (.loadElement win) s (s.answered 3 win .badArg []))
      ∧ (valid → 16 ≤ others → Serves (.loadElement win) s (s.answered 3 win .full []))
      ∧ (valid → others < 16 → s.element id ≠ none →
        (∃ r ∈ s.ed.routes, ∃ st ∈ r.2.steps, st.1 = id ∧ count ≤ st.2) →
        Serves (.loadElement win) s (s.answered 3 win .badArg []))
      ∧ (valid → others < 16 → (∀ r ∈ s.ed.routes, ∀ st ∈ r.2.steps, st.1 = id → st.2 < count) →
        ∃ t, Serves (.loadElement win) s t
          ∧ t = (s.answered 3 win (if 100 ≤ ms ∧ ms ≤ 60000 then .ok else .okClamped) []).withEd
              { s.ed with elements := t.ed.elements, elView := t.ed.elView }
          ∧ t.element id = some
              { home := home, count := count, rating := rating
                nominal := (max 100 (min 60000 ms) + 9) / 10, inService := field l 7 1 == 1 }
          ∧ (∀ i, i ≠ id → t.element i = s.element i) ∧ ∀ i, t.elv i = s.elv i))
    ∧ (l.length = 14 →
      let home := field l 1 1
      let w : SlewRec :=
        { lo := field l 7 2, hi := field l 9 2, rate := field l 11 1, deflt := field l 12 2 }
      let valid := id ≤ 31 ∧ home ≤ 15 ∧ field l 2 2 ≤ 16383 ∧ 1 ≤ field l 4 2 ∧ field l 4 2 ≤ 1000
        ∧ (field l 6 1 = 0 ∨ (field l 6 1 = 1 ∧ w.lo ≤ w.hi ∧ w.hi ≤ 359 ∧ 5 ≤ w.rate ∧ w.rate ≤ 200
          ∧ w.lo ≤ w.deflt ∧ w.deflt ≤ w.hi))
      let others := s.ed.antennas.countP fun p => p.1 != id && p.2.home == home
      (¬ valid → Serves (.loadAntenna win) s (s.answered 4 win .badArg []))
      ∧ (valid → 8 ≤ others → Serves (.loadAntenna win) s (s.answered 4 win .full []))
      ∧ (valid → others < 8 → ∃ t, Serves (.loadAntenna win) s t
        ∧ t = (s.answered 4 win .ok []).withEd
            { s.ed with antennas := t.ed.antennas, anView := t.ed.anView }
        ∧ t.antenna id = some
            { home := home, bands := field l 2 2, rating := field l 4 2
              slew := if field l 6 1 = 1 then some w else none }
        ∧ (∀ i, i ≠ id → t.antenna i = s.antenna i) ∧ ∀ i, t.anv i = s.anv i))
    ∧ (l.length = 4 + 2 * field l 3 1 → 1 ≤ field l 3 1 → field l 3 1 ≤ 6 →
      let steps := stepPairs (l.drop 4)
      let valid := id ≤ 47 ∧ (s.antenna (field l 1 1)).isSome = true ∧ field l 2 1 ≤ 2
        ∧ (∀ st ∈ steps, ∃ e, s.element st.1 = some e ∧ st.2 < e.count) ∧ (steps.map Prod.fst).Nodup
      let others := s.ed.routes.countP fun p => p.1 != id && p.2.antenna == field l 1 1
      (¬ valid → Serves (.loadRoute win) s (s.answered 5 win .badArg []))
      ∧ (valid → 3 ≤ others → Serves (.loadRoute win) s (s.answered 5 win .full []))
      ∧ (valid → others < 3 → ∃ t, Serves (.loadRoute win) s t
        ∧ t = (s.answered 5 win .ok []).withEd { s.ed with routes := t.ed.routes }
        ∧ lookupKey id t.ed.routes
          = some { antenna := field l 1 1, pref := field l 2 1, steps := steps }
        ∧ ∀ i, i ≠ id → lookupKey i t.ed.routes = lookupKey i s.ed.routes))

/-- READ-STATUS, READ-PRESET, READ-PLAN, READ-BOOKING and READ-ELEMENT are answered in every phase and change nothing but
the port (R127, R131, R186, R194, R195); an index out of range is refused BAD-ARG. The status record is 126 bytes long
(R202). The bytes that planReply, bookingReply, elementReply, antennaReply and statusBytes give rest in part on the
model's readings and choices (assumptions 17, 40, 42 and 55, the last for the slew fields of an antenna that does not slew
and for a plan before its first computation) and on three free values (assumptions 3, 4 and 57). -/
def Obligations.ReadsChangeNothing : Prop :=
  ∀ (s : State) (l extra : List Byte), s.sp.resp = .empty →
    let win := hostWindow l extra
    (l = [] → Serves (.readStatus win) s (s.answered 8 win .ok s.statusBytes)
      ∧ (s.ts.tripLog.length ≤ 8 → s.statusBytes.length = 126))
    ∧ (l.length = 2 →
      let i := field l 0 1
      let w := field l 1 1
      (63 < i ∨ 1 < w → Serves (.readPreset win) s (s.answered 11 win .badArg []))
      ∧ (i ≤ 63 → w ≤ 1 → Serves (.readPreset win) s (s.answered 11 win .ok
        (bytesOf (presetBytes ((s.presetSet i).way w)
          ++ [(s.presetSet i).pins w, (s.presetSet i).lru])))))
    ∧ (l.length = 1 →
      let i := field l 0 1
      (3 < i → Serves (.readPlan win) s (s.answered 13 win .badArg []))
      ∧ (i ≤ 3 → Serves (.readPlan win) s (s.answered 13 win .ok (bytesOf (s.planReply i))))
      ∧ (68 < i → Serves (.readBooking win) s (s.answered 14 win .badArg []))
      ∧ (i ≤ 68 → Serves (.readBooking win) s (s.answered 14 win .ok (bytesOf (s.bookingReply i)))))
    ∧ (l.length = 2 →
      let kind := field l 0 1
      let id := field l 1 1
      (1 < kind ∨ (kind = 0 ∧ s.element id = none) ∨ (kind = 1 ∧ s.antenna id = none) →
        Serves (.readElement win) s (s.answered 15 win .badArg []))
      ∧ (∀ e, kind = 0 → s.element id = some e →
        Serves (.readElement win) s (s.answered 15 win .ok (s.elementReply id e)))
      ∧ (∀ a, kind = 1 → s.antenna id = some a →
        Serves (.readElement win) s (s.answered 15 win .ok (s.antennaReply id a))))

/-- The season tables and the ad hoc list (R100–R103, R108–R110): LOAD-ENTRY stores an entry that passes its tests at the
lowest free place of the pending table, and is refused by the first test that fails: BAD-ARG, FREQ-RANGE, NO-ROUTE,
ANT-BAND, OVERLAP, FULL; CLEAR-PENDING empties that table and the arm; ARM-CHANGEOVER arms; SWAP-NOW exchanges the tables.
LOAD-ADHOC is refused by the same tests over the ad hoc list, in RUNNING also BAD-ARG when the entry's end is due, and
takes the lowest free slot. A frequency has the band of R99's table whose range, both edges included, holds it; two
entries overlap when an occurrence of one contains the start of an occurrence of the other, by the minutes of the week
(R101), and two ad hoc entries when an absolute interval contains the other's start (R103). In RUNNING (stated where no
occurrence is open, the new one neither) an entry past its late limit is due to be missed, and a waiting plan of a table
occurrence that it overlaps is dropped with a SUPPRESSED record, its booking released. The model's own in this: late
limits are noted, and what was noted of a slot's former entry goes when the slot is filled (assumption 8); a days mask
with bit 7 is out of range (DEDUCED, assumption 41); the late limits noted for the former table go at a swap (assumption
51). -/
def Obligations.TablesAreLoadedAndSwapped : Prop :=
  (∀ (s : State) (l extra : List Byte), s.sp.resp = .empty →
    let win := hostWindow l extra
    let byPath := fun (freq ant : Nat) (refused : Status → Prop) =>
      (bandOf freq = none → refused .freqRange)
        ∧ (∀ n, bandOf freq = some n → s.antenna ant = none ∨ s.routesTo ant = [] → refused .noRoute)
        ∧ (∀ n a, bandOf freq = some n → s.antenna ant = some a → s.routesTo ant ≠ [] →
          a.bands.testBit n = false → refused .antBand)
    (s.sp.phase = .config ∨ s.sp.phase = .running → l.length = 14 →
      let e := entryOf l
      (e.inRange = false → Serves (.loadEntry win) s (s.answered 16 win .badArg []))
      ∧ (e.inRange = true →
        byPath e.freq e.ant fun st => Serves (.loadEntry win) s (s.answered 16 win st []))
      ∧ (e.inRange = true → s.pathCheck e.freq e.ant = none →
        (∀ p ∈ s.ss.pending.entries, p.2.cancelled = false → p.2.overlapsWith e = false) →
        (∀ i < 128, lookupKey i s.ss.pending.entries ≠ none) →
        Serves (.loadEntry win) s (s.answered 16 win .full []))
      ∧ (e.inRange = true → s.pathCheck e.freq e.ant = none →
        (∃ p ∈ s.ss.pending.entries, p.2.cancelled = false ∧ p.2.overlapsWith e = true) →
        Serves (.loadEntry win) s (s.answered 16 win .overlap []))
      ∧ (∀ i, e.inRange = true → s.pathCheck e.freq e.ant = none →
        (∀ p ∈ s.ss.pending.entries, p.2.cancelled = false → p.2.overlapsWith e = false) →
        i < 128 → lookupKey i s.ss.pending.entries = none →
        (∀ j < i, lookupKey j s.ss.pending.entries ≠ none) →
        ∃ t, Serves (.loadEntry win) s t
          ∧ t = (s.answered 16 win .ok [byte i]).withSs
              { s.ss with pending := { s.ss.pending with entries := t.ss.pending.entries } }
          ∧ lookupKey i t.ss.pending.entries
            = some { e with az := s.storedAz e.ant e.az, cancelled := false, mark := none }
          ∧ ∀ j, j ≠ i → lookupKey j t.ss.pending.entries = lookupKey j s.ss.pending.entries))
    ∧ (s.sp.phase = .config ∨ s.sp.phase = .running → l = [] →
      Serves (.clearPending win) s ((s.answered 17 win .ok []).withSs
        { s.ss with pending := { entries := [], floor := none }, arm := none }))
    ∧ (s.sp.phase = .config ∨ s.sp.phase = .running → l.length = 6 →
      let week := field l 0 2
      let second := field l 2 4
      let past := absDue (week * 60480000 + second * 100) s.absNow
      (604800 ≤ second ∨ (s.sp.phase = .running ∧ past = true) →
        Serves (.armChangeover win) s (s.answered 18 win .badArg []))
      ∧ (second < 604800 → s.sp.phase = .config ∨ past = false →
        Serves (.armChangeover win) s ((s.answered 18 win .ok []).withSs
          { s.ss with arm := some (week, second) })))
    ∧ (s.sp.phase = .config → l = [] → s.cp.plans = [] →
      Serves (.swapNow win) s ((s.answered 19 win .ok []).withSs
        { s.ss with
          active := s.ss.pending, pending := s.ss.active, arm := none
          lateDue := s.ss.lateDue.filter fun o => match o with
            | .table _ _ => false
            | .adhoc _ => true }))
    ∧ (s.sp.phase = .running → l = [] → s.cp.plans = [] → s.ss.pending.entries = [] → s.ss.adhoc = [] →
      s.ss.lateDue = [] →
      Serves (.swapNow win) s ((s.answered 19 win .ok []).withSs
        { s.ss with
          active := { entries := [], floor := some s.absNow }, pending := s.ss.active, arm := none }))
    ∧ (s.sp.phase = .config ∨ s.sp.phase = .running → l.length = 17 →
      let x := (adhocOf l).2
      let stored := { x with az := s.storedAz x.ant x.az, taken := false }
      let ended := s.sp.phase = .running ∧ absDue x.absEnd s.absNow = true
      let refused := fun st => Serves (.loadAdhoc win) s (s.answered 20 win st [])
      (604800 ≤ field l 2 4 ∨ x.inRange = false ∨ ended → refused .badArg)
      ∧ (field l 2 4 < 604800 → x.inRange = true → ¬ ended →
        byPath x.freq x.ant refused
        ∧ (s.pathCheck x.freq x.ant = none → (∃ p ∈ s.ss.adhoc, p.2.overlapsWith x = true) →
          refused .overlap)
        ∧ (s.pathCheck x.freq x.ant = none → (∀ p ∈ s.ss.adhoc, p.2.overlapsWith x = false) →
          ((∀ i < 8, lookupKey i s.ss.adhoc ≠ none) → refused .full)
          ∧ (∀ i, i < 8 → lookupKey i s.ss.adhoc = none → (∀ j < i, lookupKey j s.ss.adhoc ≠ none) →
            let a := s.answered 20 win .ok [byte i]
            let others := s.ss.lateDue.filter (· != .adhoc i)
            let late := others ++ if absDue (s.adhocLate x) s.absNow then [.adhoc i] else []
            let ends := s.ss.endDue.filter (· != i)
            let placed := fun t : State => lookupKey i t.ss.adhoc = some stored
              ∧ ∀ j, j ≠ i → lookupKey j t.ss.adhoc = lookupKey j s.ss.adhoc
            (s.sp.phase = .config → ∃ t, Serves (.loadAdhoc win) s t
              ∧ t = a.withSs { s.ss with adhoc := t.ss.adhoc, lateDue := others, endDue := ends } ∧ placed t)
            ∧ (s.sp.phase = .running → s.openOccs = [] → s.adhocOpen stored = false →
              (s.cp.plans = [] → ∃ t, Serves (.loadAdhoc win) s t
                ∧ t = a.withSs { s.ss with adhoc := t.ss.adhoc, lateDue := late, endDue := ends } ∧ placed t)
              ∧ (∀ p b, s.cp.plans = [p] → p.state.waiting = true → p.src.isTable = true →
                absOverlaps x.start (x.dur * 6000) p.absA (fd p.a p.z) = true → p.pin = none →
                s.cm.own = [b] → p.booking = some b.desc.num → b.req = .plan p.id →
                b.state = .booked ∨ (b.state = .tentative ∧ b.sent = true) → s.ts.state = .idle →
                s.sp.airLog.length < 32 → s.hlc.queue.length + s.hlc.slots.length < 16 →
                ∃ t, Serves (.loadAdhoc win) s t
                  ∧ t = ((((a.withSs { s.ss with adhoc := t.ss.adhoc, lateDue := late, endDue := ends }).withCp
                      { s.cp with plans := [] }).withCm { s.cm with own := [] }).withHlc
                      { s.hlc with queue := enqueue s.hlc.queue (.release b.desc.num) }).withSp
                    { a.sp with airLog := s.sp.airLog ++ [p.record .suppressed none] }
                  ∧ placed t)))))))
    ∧ (∀ freq n : Nat, bandOf freq = some n ↔ ∃ lo hi, lo ≤ freq ∧ freq ≤ hi ∧ (n, lo, hi) ∈
      [(0, 2300, 2495), (1, 3200, 3400), (2, 3900, 4000), (3, 4750, 5060), (4, 5900, 6200), (5, 7200, 7450),
       (6, 9400, 9900), (7, 11600, 12100), (8, 13570, 13870), (9, 15100, 15800), (10, 17480, 17900),
       (11, 18900, 19020), (12, 21450, 21850), (13, 25670, 26100)])
    ∧ (∀ x y : Entry, x.minute < 1440 → y.minute < 1440 →
      (x.overlapsWith y = true ↔ ∃ d e, d < 7 ∧ e < 7 ∧ x.days.testBit d = true ∧ y.days.testBit e = true ∧
        let a := d * 1440 + x.minute
        let b := e * 1440 + y.minute
        (b + 10080 - a) % 10080 < x.dur ∨ (a + 10080 - b) % 10080 < y.dur))
    ∧ ∀ x y : AdHoc, x.start < 65536 * 60480000 → y.start < 65536 * 60480000 →
      (x.overlapsWith y = true ↔
        (y.start + 65536 * 60480000 - x.start) % (65536 * 60480000) < x.dur * 6000
          ∨ (x.start + 65536 * 60480000 - y.start) % (65536 * 60480000) < y.dur * 6000)

/-- CANCEL-ENTRY in RUNNING (R112): of a place or slot that is not loaded, BAD-ARG; of an active entry with no plan, or
with none but ENDING plans, and no open occurrence, the entry is cancelled and nothing else changes; an occurrence of it
that is open and waiting becomes handled and is recorded MISSED, cause CANCELLED; of an ad hoc entry with no plan its slot
empties, with that record where it is open, and with a plan that is ENDING nothing changes. Of an entry of either kind
with a waiting plan (R154), the plan is dropped MISSED, cause CANCELLED: its record is written, RELEASE offered for its
booking and its pin released. With the current plan, RF on its way or on the air, the plan is cut: it is ENDING with
pending outcome CUT, cause CANCELLED, DOWN is sent and its booking is ENDING until RF is off (R153, R163). With it in
SWITCHING, or TRIPPED, and no RF, the booking goes at once, the CUT record is written, the guard timer starts and TRIPPED
is left for IDLE (R138, R154, R176). An ad hoc entry leaves its slot with its plan. That every occurrence that is open and
unhandled is taken as waiting is DEDUCED (assumption 37), and so are METER-LOST cleared at the ramp-down and when TRIPPED
is left (assumption 28) and the restart delay timer stopped when TRIPPED is left (assumption 27). Stated where no pick is
pending and no other plan waits on the one ended, and, where the plan leaves, for it alone in the queue and no occurrence
open. -/
def Obligations.EntriesAreCancelled : Prop :=
  ∀ (s : State) (l extra : List Byte), s.sp.resp = .empty → s.sp.phase = .running → l.length = 2 →
    let win := hostWindow l extra
    let kind := field l 0 1
    let i := field l 1 1
    let a := s.answered 21 win .ok []
    (1 < kind ∨ (kind = 0 ∧ lookupKey i s.ss.active.entries = none)
        ∨ (kind = 1 ∧ lookupKey i s.ss.adhoc = none) →
      Serves (.cancelEntry win) s (s.answered 21 win .badArg []))
    ∧ (∀ e, kind = 0 → lookupKey i s.ss.active.entries = some e →
      (e.cancelled = true → Serves (.cancelEntry win) s (s.answered 21 win .ok []))
      ∧ (e.cancelled = false → (∀ p ∈ s.cp.plans, p.src = .table true i → p.state = .ending) →
        (∀ d ∈ e.dayList, s.tableOpen e d = false) →
        Serves (.cancelEntry win) s ((s.answered 21 win .ok []).withSs
          { s.ss with active := { s.ss.active with
            entries := s.ss.active.entries.map fun p =>
              if p.1 = i then (p.1, { p.2 with cancelled := true }) else p } }))
      ∧ (∀ d, e.cancelled = false → (∀ p ∈ s.cp.plans, p.src = .table true i → p.state = .ending) → d ∈ e.dayList →
        (∀ d' ∈ e.dayList, s.tableOpen e d' = true ↔ d' = d) → s.sp.airLog.length < 32 →
        Serves (.cancelEntry win) s ((a.withSp
            { a.sp with airLog := s.sp.airLog ++ [bareRecord (.table true i) (e.airStart d) .missed (some .cancelled)] }).withSs
          { s.ss with active := { s.ss.active with
            entries := s.ss.active.entries.map fun p =>
              if p.1 = i then (p.1, { p.2 with cancelled := true, mark := some (s.absStart (e.airStart d)) }) else p } })))
    ∧ (∀ x, kind = 1 → lookupKey i s.ss.adhoc = some x →
      let emptied := { s.ss with adhoc := s.ss.adhoc.filter fun p => p.1 != i }
      ((∀ p ∈ s.cp.plans, p.src ≠ .adhoc i) →
        (s.adhocOpen x = false → Serves (.cancelEntry win) s (a.withSs emptied))
        ∧ (s.adhocOpen x = true → s.sp.airLog.length < 32 → Serves (.cancelEntry win) s ((a.withSs emptied).withSp
            { a.sp with airLog := s.sp.airLog
                ++ [bareRecord (.adhoc i) (x.start % 60480000) .missed (some .cancelled)] })))
      ∧ ((∃ p ∈ s.cp.plans, p.src = .adhoc i) → (∀ p ∈ s.cp.plans, p.src = .adhoc i → p.state = .ending) →
        Serves (.cancelEntry win) s a))
    ∧ (∀ (kept left : Schedule) (p : Plan) (n : Nat) (b : OwnBooking),
      (kind = 0 ∧ p.src = .table true i ∧ left = kept
          ∧ (∃ e, lookupKey i s.ss.active.entries = some e ∧ e.cancelled = false)
          ∧ kept = { s.ss with active := { s.ss.active with
              entries := s.ss.active.entries.map fun q =>
                if q.1 = i then (q.1, { q.2 with cancelled := true }) else q } }
        ∨ kind = 1 ∧ p.src = .adhoc i ∧ lookupKey i s.ss.adhoc ≠ none ∧ kept = s.ss
          ∧ left = { s.ss with adhoc := s.ss.adhoc.filter fun q => q.1 != i }) →
      s.openOccs = [] → s.pendingIntent = none → p.booking = some n → s.ownBooking n = some b → b.req = .plan p.id →
      let pd := match p.pin with
        | some (set, way) => (s.releasePin set way).pd
        | none => s.pd
      let ended := { p.closeLost s.now with state := .ending, pendOut := some .cut, cause := some .cancelled }
      (p.state.waiting = true → s.cp.plans = [p] → s.cm.own = [b] → s.ts.state = .idle →
        b.state = .booked ∨ (b.state = .tentative ∧ b.sent = true) → s.sp.airLog.length < 32 →
        s.hlc.queue.length + s.hlc.slots.length < 16 →
        Serves (.cancelEntry win) s ((((((a.withSs left).withPd pd).withCm { s.cm with own := [] }).withCp
            { s.cp with plans := [] }).withHlc
            { s.hlc with queue := enqueue s.hlc.queue (.release n) }).withSp
          { a.sp with airLog := s.sp.airLog ++ [p.record .missed (some .cancelled)] }))
      ∧ (s.plan p.id = some p → s.currentPlan = some p → (∀ q ∈ s.cp.plans, q.src = p.src → q = p) →
        (s.cp.plans.map Plan.id).Nodup → (∀ q ∈ s.cp.plans, ¬ (q.cont = true ∧ q.state.waiting = true)) →
        p.state ≠ .ending → b.state.committed = true →
        s.ts.state = .tuning ∨ s.ts.state = .tuned ∨ s.ts.state = .ramping ∨ s.ts.state = .onAir →
        Serves (.cancelEntry win) s (((((a.withSs kept).withCp
            { s.cp with owedMoves := [], plans := s.cp.plans.map fun q => if q.id = p.id then ended else q }).withCm
            { s.cm with own := s.cm.own.map fun x =>
                if x.desc.num = n then { x with state := .ending, confirm := none, relPending := true } else x }).withTs
            { s.ts.stopTimers with
              state := .down, sent := s.ts.sent ++ [.down], rfoffT := some (s.cfg.tDWN + s.cfg.tGRC)
              rfOffTaken := false, strayT := none }).withRl
          { s.rl with request := none }))
      ∧ (s.cp.plans = [p] → s.cm.own = [b] → p.state.current = true → p.state ≠ .ending →
        b.state.committed = true → s.ts.state = .idle ∨ s.ts.state = .tripped → s.pins.rfs = false → s.sp.airLog.length < 32 →
        s.hlc.queue.length + s.hlc.slots.length < 16 →
        Serves (.cancelEntry win) s ((((((((a.withSs left).withPd pd).withCm { s.cm with own := [] }).withCp
            { s.cp with plans := [], owedMoves := [], guardT := some s.cfg.tGRD }).withHlc
            { s.hlc with queue := enqueue s.hlc.queue (.release n) }).withRl { s.rl with request := none }).withTs
            (if s.ts.state = .idle then s.ts
              else { s.ts with
                state := .idle, restartT := none, restartWait := false, meterGap := none, meterLost := false
                strayT := none })).withSp
          { a.sp with airLog := s.sp.airLog ++ [(p.closeLost s.now).record .cut (some .cancelled)] })))

/-- SERVICE in RUNNING (R51): of an item not homed here, of a kind above 1 or with a direction above 1 (assumption 41),
BAD-ARG; out, a home item is OUT, keeps its position, is not in
motion, and has no request queued; in, an OUT item is SET as sensed or FAULT, and an element due for exercise at once;
an element already so is left as it is. Stated for a quiet station. -/
def Obligations.ServiceTakesItemsOutAndIn : Prop :=
  ∀ (s : State) (l extra : List Byte), s.sp.resp = .empty → s.sp.phase = .running → l.length = 3 →
    let win := hostWindow l extra
    let id := field l 1 1
    (1 < field l 0 1 ∨ (field l 0 1 = 0 ∧ s.isHome .element id = false)
        ∨ (field l 0 1 = 1 ∧ s.isHome .antenna id = false) ∨ 1 < field l 2 1 →
      Serves (.service win) s (s.answered 22 win .badArg []))
    ∧ (field l 0 1 = 0 → s.isHome .element id = true → s.quiet = true →
      (field l 2 1 = 0 → (s.elv id).state = .out → Serves (.service win) s (s.answered 22 win .ok []))
      ∧ (field l 2 1 = 1 → (s.elv id).state ≠ .out → Serves (.service win) s (s.answered 22 win .ok []))
      ∧ (field l 2 1 = 0 → (s.elv id).state ≠ .out → ∃ t, Serves (.service win) s t
        ∧ t.sp = (s.answered 22 win .ok []).sp
        ∧ (t.elv id).state = .out ∧ (t.elv id).pos = (s.elv id).pos
        ∧ t.ed.driveQ = s.ed.driveQ.filter (fun r => r.item != id)
        ∧ t.ed.motion = s.ed.motion.filter (fun m => m.req.item != id)
        ∧ (∀ i, i ≠ id → t.elv i = s.elv i) ∧ t.ts = s.ts ∧ t.tb = s.tb ∧ t.ss = s.ss)
      ∧ (field l 2 1 = 1 → (s.elv id).state = .out → ∃ t, Serves (.service win) s t
        ∧ t.sp = (s.answered 22 win .ok []).sp
        ∧ (t.elv id).state = (if (s.sensedPos id).isSome then .set else .fault)
        ∧ (t.elv id).pos = s.sensedPos id ∧ (t.elv id).idle = s.cfg.tEXR / 100
        ∧ (∀ i, i ≠ id → t.elv i = s.elv i) ∧ t.ed.driveQ = s.ed.driveQ ∧ t.ts = s.ts ∧ t.tb = s.tb))
    ∧ (field l 0 1 = 1 → s.isHome .antenna id = true → s.quiet = true →
      (field l 2 1 = 0 → (s.anv id).state ≠ .out → ∃ t, Serves (.service win) s t
        ∧ t.sp = (s.answered 22 win .ok []).sp
        ∧ (t.anv id).state = .out ∧ (t.anv id).az = (s.anv id).az
        ∧ t.ed.slewQ = s.ed.slewQ.filter (fun r => r.item != id)
        ∧ t.ed.slew = s.ed.slew.filter (fun m => m.req.item != id)
        ∧ t.ts = s.ts ∧ t.tb = s.tb ∧ t.ss = s.ss)
      ∧ (field l 2 1 = 1 → (s.anv id).state = .out → ∃ t, Serves (.service win) s t
        ∧ t.sp = (s.answered 22 win .ok []).sp
        ∧ (∀ a, s.antenna id = some a → a.slew = none →
          (t.anv id).state = .set ∧ (t.anv id).az = none)
        ∧ (∀ a, s.antenna id = some a → a.slew ≠ none →
          (t.anv id).state = (if (s.sensedAz id).isSome then .set else .fault)
          ∧ (t.anv id).az = s.sensedAz id)
        ∧ t.ed.slewQ = s.ed.slewQ ∧ t.ts = s.ts ∧ t.tb = s.tb))

/-- The directory's modes, windows and records, the flags and the lockout from the host (R117, R121, R125, R127, R178,
R193): each command changes what it names alone, and is refused BAD-ARG when a value is out of range (of PRESET-MODE's
spare bits DEDUCED, assumption 41) and WRITE-PRESET BUSY when its way is pinned, be the record written valid or not.
CLEAR-LOCKOUT clears METER-LOST (DEDUCED, assumption 28). -/
def Obligations.HostSetsModesRecordsAndFlags : Prop :=
  ∀ (s : State) (l extra : List Byte), s.sp.resp = .empty →
    let win := hostWindow l extra
    (s.sp.phase = .running → l.length = 1 →
      (3 < field l 0 1 → Serves (.presetMode win) s (s.answered 23 win .badArg []))
      ∧ (field l 0 1 ≤ 3 → Serves (.presetMode win) s ((s.answered 23 win .ok []).withPd
        { s.pd with freeze := field l 0 1 % 2 == 1, flush := decide (2 ≤ field l 0 1) })))
    ∧ (s.sp.phase = .running → l.length = 5 →
      let ok := field l 0 1 ≤ 3 ∧ field l 1 1 ≤ 1 ∧ field l 2 2 ≤ 26100 ∧ 4 ≤ field l 4 1
        ∧ field l 4 1 ≤ 14
      let x : FreqWindow := { enabled := field l 1 1 == 1, base := field l 2 2, k := field l 4 1 }
      (¬ ok → Serves (.setWindow win) s (s.answered 24 win .badArg []))
      ∧ (ok → Serves (.setWindow win) s ((s.answered 24 win .ok []).withPd
        { s.pd with windows := s.pd.windows.set (field l 0 1) x })))
    ∧ (l.length = 14 →
      let i := field l 0 1
      let w := field l 1 1
      let p : Preset :=
        { valid := true, freq := field l 3 2, ant := field l 5 1, tune := field l 6 2
          load := field l 8 2, band := field l 10 1, age := field l 11 2, hits := field l 13 1 }
      let x := s.presetSet i
      (63 < i ∨ 1 < w ∨ 1 < field l 2 1 → Serves (.writePreset win) s (s.answered 12 win .badArg []))
      ∧ (i ≤ 63 → w ≤ 1 → field l 2 1 = 0 → 0 < x.pins w →
        Serves (.writePreset win) s (s.answered 12 win .busy []))
      ∧ (i ≤ 63 → w ≤ 1 → field l 2 1 = 1 → p.writable i = false →
        Serves (.writePreset win) s (s.answered 12 win .badArg []))
      ∧ (i ≤ 63 → w ≤ 1 → field l 2 1 = 1 → p.writable i = true →
        (0 < x.pins w → Serves (.writePreset win) s (s.answered 12 win .busy []))
        ∧ (x.pins w = 0 → Serves (.writePreset win) s ((s.answered 12 win .ok []).withPd
          { s.pd with sets := s.pd.sets.set i (x.setWay w p) })))
      ∧ (i ≤ 63 → w ≤ 1 → field l 2 1 = 0 → x.pins w = 0 →
        Serves (.writePreset win) s ((s.answered 12 win .ok []).withPd
          { s.pd with sets := s.pd.sets.set i (x.setWay w { x.way w with valid := false }) })))
    ∧ (l.length = 2 → ∃ t, Serves (.clearFlags win) s t
      ∧ t = ((s.answered 9 win .ok []).withFlags t.flags).withPd
          { s.pd with
            latch := if (field l 0 2).testBit 8 then none else s.pd.latch
            further := s.pd.further && !(field l 0 2).testBit 8 }
      ∧ (∀ b, b < 14 → b ≠ 3 → b ≠ 5 → b ≠ 7 → b ≠ 10 →
        (t.flagBits[b]?).getD false = ((s.flagBits[b]?).getD false && !(field l 0 2).testBit b)))
    ∧ (s.sp.phase = .running → l = [] →
      (s.ts.state ≠ .lockout → Serves (.clearLockout win) s (s.answered 25 win .ok []))
      ∧ (s.ts.state = .lockout → (∀ b ∈ s.cm.own, b.relPending = false) →
        ∃ t, Serves (.clearLockout win) s t
          ∧ t = (s.answered 25 win .ok []).withTs { s.ts with
              state := .idle, tripLog := [], meterGap := none, meterLost := false
              strayT := if s.pins.rfs then some (s.ts.strayT.getD (s.cfg.tDWN + s.cfg.tGRC)) else none }
          ∧ t.inhibit = true))

/-- START in CONFIG (R43, R52, R189): NOT-READY unless station, timing and time are loaded; otherwise JOINING, with the
beacon and JOINING timers running, every home element sensed afresh, or OUT when its record says so, with idle time
0, every home antenna SET at its sensed azimuth or FAULT, or SET without an azimuth where it does not slew, and every other
item UNKNOWN with its home absent. Stated for the first START, with no changeover armed. -/
def Obligations.StartJoins : Prop :=
  ∀ (s : State) (extra : List Byte), s.sp.resp = .empty → s.sp.phase = .config →
    let win := hostWindow [] extra
    ((s.sp.stationLoaded && s.sp.timingLoaded && s.tb.timeSet) = false →
      Serves (.start win) s (s.answered 7 win .notReady []))
    ∧ (s.sp.stationLoaded = true → s.sp.timingLoaded = true → s.tb.timeSet = true → s.ss.arm = none →
      s.ed.everStarted = false → ∃ t, Serves (.start win) s t
        ∧ t.sp.phase = .joining ∧ t.sp.resp = .ready
        ∧ t.sp.response = some { status := .ok, payload := [] }
        ∧ t.hlc.beaconT = some s.cfg.tBCN ∧ t.hlc.joiningT = some (2 * s.cfg.tBCN)
        ∧ t.ed.everStarted = true ∧ t.tb = s.tb ∧ t.cfg = s.cfg ∧ t.ss = s.ss ∧ t.cm = s.cm
        ∧ t.ed.driveQ = [] ∧ t.ed.slewQ = []
        ∧ (∀ i e, s.element i = some e → e.home = s.cfg.stationId →
          (t.elv i).idle = 0
          ∧ (t.elv i).state = (if e.inService = false then .out
            else if (t.sensedPos i).isSome then .set else .fault)
          ∧ (t.elv i).pos = t.sensedPos i)
        ∧ (∀ i e, s.element i = some e → e.home ≠ s.cfg.stationId →
          (t.elv i).state = .unknown ∧ (t.elv i).pos = none ∧ (t.elv i).homeAbsent = true)
        ∧ (∀ i a, s.antenna i = some a → a.home = s.cfg.stationId → (t.anv i).homeAbsent = false
          ∧ (a.slew = none → (t.anv i).state = .set ∧ (t.anv i).az = none)
          ∧ (a.slew ≠ none → (t.anv i).state = (if (t.sensedAz i).isSome then .set else .fault)
            ∧ (t.anv i).az = t.sensedAz i))
        ∧ (∀ i a, s.antenna i = some a → a.home ≠ s.cfg.stationId →
          (t.anv i).state = .unknown ∧ (t.anv i).az = none ∧ (t.anv i).homeAbsent = true))

/-- STOP and RESTART (R83, R97, R129, R158, R181, R190, R191): STOP in JOINING enters HALTED at once, its timers stopped;
in RUNNING with nothing held it enters HALTED, and with a booking that waits for RF-off it stays STOPPING. RESTART in
HALTED and LINK-FAULT enters JOINING with every block's RESTART values, the phase and sequencer state of each station's
latest beacon kept (DEDUCED, assumption 45); in RUNNING with nothing held it reaches JOINING, and is so marked while a
booking waits for RF-off. That a RELEASE waiting for the SENT report of an unsent CLAIM does not count as held is the
model's choice (assumption 53). With a waiting plan in RUNNING, STOP and RESTART drop it ABORTED, cause STOP or RESTART:
its record is written and its booking released, and the station then enters HALTED or JOINING (R154, R157, R190, R191).
With a current plan and RF on its way or on the air, the station is STOPPING, the plan ENDING, ABORTED with that cause,
DOWN is sent and the booking ENDING until RF is off (R68, R153, R163; that METER-LOST clears at the ramp-down is DEDUCED,
assumption 28); a current plan with no RF leaves at once with its ABORTED record. Stated for the one plan of a station
whose one booking it holds, with no pick pending and no other RELEASE owed. -/
def Obligations.StopHaltsAndRestartJoins : Prop :=
  (∀ (s : State) (extra : List Byte), s.sp.resp = .empty → s.ed.exercise = none → s.cp.plans = [] →
    (s.cm.own.map fun b => b.desc.num).Nodup →
    let win := hostWindow [] extra
    let ok := fun t : State => t.sp.resp = .ready ∧ t.sp.response = some { status := .ok, payload := [] }
    let held := s.pins.rfs = true ∧ s.ts.state = .idle
      ∧ ∃ b ∈ s.cm.own, b.state = .ending ∧ b.relPending = true
    (s.sp.phase = .joining → ∃ t, Serves (.stop win) s t ∧ ok t
      ∧ t.sp.phase = .halted ∧ t.hlc.beaconT = none ∧ t.hlc.joiningT = none ∧ t.cm = s.cm ∧ t.tb = s.tb
      ∧ t.hlc.queue = s.hlc.queue ∧ t.ed.driveQ = [] ∧ t.ed.motion = none ∧ t.ts = s.ts)
    ∧ (s.sp.phase = .running → s.cm.own = [] → s.cm.owedRel = [] →
      (∃ t, Serves (.stop win) s t ∧ ok t ∧ t.sp.phase = .halted ∧ t.hlc.beaconT = none ∧ t.tb = s.tb)
      ∧ (s.ss.arm = none → ∃ t, Serves (.restart win) s t ∧ ok t ∧ t.sp.phase = .joining
        ∧ t.hlc.joiningT = some (2 * s.cfg.tBCN)))
    ∧ (s.sp.phase = .running → held →
      (∃ t, Serves (.stop win) s t ∧ ok t ∧ t.sp.phase = .stopping ∧ t.sp.restartMark = false)
      ∧ (∃ t, Serves (.restart win) s t ∧ ok t ∧ t.sp.phase = .stopping ∧ t.sp.restartMark = true))
    ∧ (s.sp.phase = .halted ∨ s.sp.phase = .linkFault → s.ss.arm = none → ∃ t, Serves (.restart win) s t ∧ ok t
      ∧ t.sp.phase = .joining ∧ t.sp.restartMark = false
      ∧ t.cm = { ClaimMap.reset with numCtr := s.cm.numCtr }
      ∧ t.rl = { RampLog.reset with numCtr := s.rl.numCtr } ∧ t.cp = Planner.reset ∧ t.ss = s.ss
      ∧ t.hlc.presence = (s.hlc.presence.map fun e => { e with present := false, absence := none })
      ∧ t.hlc.seq = 0 ∧ t.hlc.txErr = 0 ∧ t.hlc.rxBits = [] ∧ t.hlc.attempt = none
      ∧ t.hlc.stamp = s.hlc.stamp ∧ t.hlc.rxErr = s.hlc.rxErr
      ∧ t.tb = { s.tb with offsets := List.replicate 16 none, skew := false }
      ∧ t.ts.p = 0 ∧ t.ts.tripLog = s.ts.tripLog ∧ t.ts.lineErr = s.ts.lineErr ∧ t.ts.sent = s.ts.sent
      ∧ (s.ts.state = .lockout ↔ t.ts.state = .lockout)
      ∧ (∀ i e, s.element i = some e → s.ed.everStarted = true → (t.elv i).idle = (s.elv i).idle)))
    ∧ (∀ (s : State) (extra : List Byte) (restart : Bool) (p : Plan) (b : OwnBooking), s.sp.resp = .empty →
      s.sp.phase = .running → s.ed.exercise = none → s.pendingIntent = none → s.cp.plans = [p] → s.cm.own = [b] →
      p.booking = some b.desc.num → b.req = .plan p.id → s.cm.owedRel = [] → s.ss.arm = none →
      let win := hostWindow [] extra
      let asked := if restart then Instr.restart win else .stop win
      let a := s.answered (if restart then 27 else 26) win .ok []
      let cause := if restart then AirCause.restart else .stop
      let left := fun rec => ∃ t, Serves asked s t
        ∧ t.sp.phase = (if restart then .joining else .halted) ∧ t.sp.restartMark = false
        ∧ t.sp.resp = .ready ∧ t.sp.response = a.sp.response ∧ t.sp.airLog = s.sp.airLog ++ [rec]
        ∧ t.cp.plans = [] ∧ t.cm.own = [] ∧ t.cm.owedRel = [] ∧ t.ts.sent = s.ts.sent
        ∧ (restart = false → t.hlc.beaconT = none
          ∧ t.hlc.queue = enqueue s.hlc.queue (.release b.desc.num))
        ∧ (restart = true → t.hlc.joiningT = some (2 * s.cfg.tBCN))
      (p.state.waiting = true → b.state = .booked ∨ (b.state = .tentative ∧ b.sent = true) → s.ts.state = .idle →
        s.sp.airLog.length < 32 → s.hlc.queue.length + s.hlc.slots.length < 16 →
        left (p.record .aborted (some cause)))
      ∧ (p.state.current = true → p.state ≠ .ending → b.state.committed = true → s.ts.state = .idle →
        s.pins.rfs = false → s.sp.airLog.length < 32 → s.hlc.queue.length + s.hlc.slots.length < 16 →
        left ((p.closeLost s.now).record .aborted (some cause)))
      ∧ (p.state.current = true → p.state ≠ .ending → b.state.committed = true →
        s.ts.state = .tuning ∨ s.ts.state = .tuned ∨ s.ts.state = .ramping ∨ s.ts.state = .onAir →
        Serves asked s (((((a.withSp
            { a.sp with phase := .stopping, restartMark := restart, cpStopped := false, cmStopped := false }).withCp
            { s.cp with
              owedMoves := []
              plans := [{ p.closeLost s.now with state := .ending, pendOut := some .aborted, cause := some cause }] }).withCm
            { s.cm with own := [{ b with state := .ending, confirm := none, relPending := true }] }).withTs
            { s.ts.stopTimers with
              state := .down, sent := s.ts.sent ++ [.down], rfoffT := some (s.cfg.tDWN + s.cfg.tGRC)
              rfOffTaken := false, strayT := none }).withRl
          { s.rl with request := none })))

/-! ## Invariants -/

/-- Every step keeps the timebase in range: REFNOM within its limits, the divider below D, the capture count within its
limit, tick-in-second, second of the week, week, free-run count, hour counter, and 16 offset places that hold nothing or an
offset of at most half a week (R1, R2, R3, R5, R7, R11, R13). -/
def Obligations.TimebaseStaysInRange : Prop :=
  ∀ s t : State, step s = .next t → s.timeInRange = true → t.timeInRange = true

/-- Every step keeps the transmit queue within 16 frames in priority order with at most one pending frame for each
block (R23, R24), the peer map within 64 records with no two under one key (R70), and every table kept by key with
no key twice. Every step keeps it so that in STOPPING each plan in the queue is ENDING (R157). Every step keeps the plan
queue within 4 plans, no two with one id, at most one of them current and every other in ROUTING, BLOCKED or READY (R131); the
own booking list within 5 bookings, at most 4 of plans and at most 1 of the exercise (R59); the ramp log within 32 records
(R84), or with own ones alone (the model's choice, assumption 61); and P at or below the ceiling (R168). And every step that
leaves the settings and the antenna records as they are (only the loads of CONFIG and pin reset change them) keeps P at or
above PFLR in RAMPING and ON-AIR, and from the first UP of a plan on, with every plan in the queue able to be aired at PFLR
or more (R168, with R133 and R140). -/
def Obligations.FormsAreKept : Prop :=
  ∀ s t : State, step s = .next t →
    (s.formsKept = true → t.formsKept = true) ∧ (s.stopEnds = true → t.stopEnds = true)
      ∧ (s.planBound = true → t.planBound = true) ∧ (s.cm.ownBound = true → t.cm.ownBound = true)
      ∧ (s.cm.ownBound = true → s.cm.own.length ≤ 5)
      ∧ (s.rl.intentBound = true → t.rl.intentBound = true) ∧ (s.ts.powerBound = true → t.ts.powerBound = true)
      ∧ (t.cfg = s.cfg → t.ed.antennas = s.ed.antennas →
        s.planBound = true → s.ts.powerBound = true → s.powerFloor = true → t.powerFloor = true)
end

