-- ==== Sys2Proof/Laws/State.lean ====
section
/-! SUPPORT. One lemma per field per setter of `State`, each true by unfolding, and what two settings of
one block come to. -/

namespace Sys2Proof.Machine

open Sys2Proof

variable (s : State)

/-! ## withCfg -/

@[simp] theorem State.withCfg_cfg (v : Settings) : (s.withCfg v).cfg = v := rfl
@[simp] theorem State.withCfg_tb (v : Settings) : (s.withCfg v).tb = s.tb := rfl
@[simp] theorem State.withCfg_hlc (v : Settings) : (s.withCfg v).hlc = s.hlc := rfl
@[simp] theorem State.withCfg_ed (v : Settings) : (s.withCfg v).ed = s.ed := rfl
@[simp] theorem State.withCfg_cm (v : Settings) : (s.withCfg v).cm = s.cm := rfl
@[simp] theorem State.withCfg_rl (v : Settings) : (s.withCfg v).rl = s.rl := rfl
@[simp] theorem State.withCfg_ss (v : Settings) : (s.withCfg v).ss = s.ss := rfl
@[simp] theorem State.withCfg_pd (v : Settings) : (s.withCfg v).pd = s.pd := rfl
@[simp] theorem State.withCfg_cp (v : Settings) : (s.withCfg v).cp = s.cp := rfl
@[simp] theorem State.withCfg_ts (v : Settings) : (s.withCfg v).ts = s.ts := rfl
@[simp] theorem State.withCfg_sp (v : Settings) : (s.withCfg v).sp = s.sp := rfl
@[simp] theorem State.withCfg_flags (v : Settings) : (s.withCfg v).flags = s.flags := rfl
@[simp] theorem State.withCfg_pins (v : Settings) : (s.withCfg v).pins = s.pins := rfl
@[simp] theorem State.withCfg_freeCtr (v : Settings) : (s.withCfg v).freeCtr = s.freeCtr := rfl
@[simp] theorem State.withCfg_reports (v : Settings) : (s.withCfg v).reports = s.reports := rfl
@[simp] theorem State.withCfg_pending (v : Settings) : (s.withCfg v).pending = s.pending := rfl
@[simp] theorem State.withCfg_withCfg (v w : Settings) : (s.withCfg v).withCfg w = s.withCfg w := rfl
@[simp] theorem State.withCfg_self : s.withCfg s.cfg = s := rfl

/-! ## withTb -/

@[simp] theorem State.withTb_cfg (v : Timebase) : (s.withTb v).cfg = s.cfg := rfl
@[simp] theorem State.withTb_tb (v : Timebase) : (s.withTb v).tb = v := rfl
@[simp] theorem State.withTb_hlc (v : Timebase) : (s.withTb v).hlc = s.hlc := rfl
@[simp] theorem State.withTb_ed (v : Timebase) : (s.withTb v).ed = s.ed := rfl
@[simp] theorem State.withTb_cm (v : Timebase) : (s.withTb v).cm = s.cm := rfl
@[simp] theorem State.withTb_rl (v : Timebase) : (s.withTb v).rl = s.rl := rfl
@[simp] theorem State.withTb_ss (v : Timebase) : (s.withTb v).ss = s.ss := rfl
@[simp] theorem State.withTb_pd (v : Timebase) : (s.withTb v).pd = s.pd := rfl
@[simp] theorem State.withTb_cp (v : Timebase) : (s.withTb v).cp = s.cp := rfl
@[simp] theorem State.withTb_ts (v : Timebase) : (s.withTb v).ts = s.ts := rfl
@[simp] theorem State.withTb_sp (v : Timebase) : (s.withTb v).sp = s.sp := rfl
@[simp] theorem State.withTb_flags (v : Timebase) : (s.withTb v).flags = s.flags := rfl
@[simp] theorem State.withTb_pins (v : Timebase) : (s.withTb v).pins = s.pins := rfl
@[simp] theorem State.withTb_freeCtr (v : Timebase) : (s.withTb v).freeCtr = s.freeCtr := rfl
@[simp] theorem State.withTb_reports (v : Timebase) : (s.withTb v).reports = s.reports := rfl
@[simp] theorem State.withTb_pending (v : Timebase) : (s.withTb v).pending = s.pending := rfl
@[simp] theorem State.withTb_withTb (v w : Timebase) : (s.withTb v).withTb w = s.withTb w := rfl
@[simp] theorem State.withTb_self : s.withTb s.tb = s := rfl

/-! ## withHlc -/

@[simp] theorem State.withHlc_cfg (v : Link) : (s.withHlc v).cfg = s.cfg := rfl
@[simp] theorem State.withHlc_tb (v : Link) : (s.withHlc v).tb = s.tb := rfl
@[simp] theorem State.withHlc_hlc (v : Link) : (s.withHlc v).hlc = v := rfl
@[simp] theorem State.withHlc_ed (v : Link) : (s.withHlc v).ed = s.ed := rfl
@[simp] theorem State.withHlc_cm (v : Link) : (s.withHlc v).cm = s.cm := rfl
@[simp] theorem State.withHlc_rl (v : Link) : (s.withHlc v).rl = s.rl := rfl
@[simp] theorem State.withHlc_ss (v : Link) : (s.withHlc v).ss = s.ss := rfl
@[simp] theorem State.withHlc_pd (v : Link) : (s.withHlc v).pd = s.pd := rfl
@[simp] theorem State.withHlc_cp (v : Link) : (s.withHlc v).cp = s.cp := rfl
@[simp] theorem State.withHlc_ts (v : Link) : (s.withHlc v).ts = s.ts := rfl
@[simp] theorem State.withHlc_sp (v : Link) : (s.withHlc v).sp = s.sp := rfl
@[simp] theorem State.withHlc_flags (v : Link) : (s.withHlc v).flags = s.flags := rfl
@[simp] theorem State.withHlc_pins (v : Link) : (s.withHlc v).pins = s.pins := rfl
@[simp] theorem State.withHlc_freeCtr (v : Link) : (s.withHlc v).freeCtr = s.freeCtr := rfl
@[simp] theorem State.withHlc_reports (v : Link) : (s.withHlc v).reports = s.reports := rfl
@[simp] theorem State.withHlc_pending (v : Link) : (s.withHlc v).pending = s.pending := rfl
@[simp] theorem State.withHlc_withHlc (v w : Link) : (s.withHlc v).withHlc w = s.withHlc w := rfl
@[simp] theorem State.withHlc_self : s.withHlc s.hlc = s := rfl

/-! ## withEd -/

@[simp] theorem State.withEd_cfg (v : Drive) : (s.withEd v).cfg = s.cfg := rfl
@[simp] theorem State.withEd_tb (v : Drive) : (s.withEd v).tb = s.tb := rfl
@[simp] theorem State.withEd_hlc (v : Drive) : (s.withEd v).hlc = s.hlc := rfl
@[simp] theorem State.withEd_ed (v : Drive) : (s.withEd v).ed = v := rfl
@[simp] theorem State.withEd_cm (v : Drive) : (s.withEd v).cm = s.cm := rfl
@[simp] theorem State.withEd_rl (v : Drive) : (s.withEd v).rl = s.rl := rfl
@[simp] theorem State.withEd_ss (v : Drive) : (s.withEd v).ss = s.ss := rfl
@[simp] theorem State.withEd_pd (v : Drive) : (s.withEd v).pd = s.pd := rfl
@[simp] theorem State.withEd_cp (v : Drive) : (s.withEd v).cp = s.cp := rfl
@[simp] theorem State.withEd_ts (v : Drive) : (s.withEd v).ts = s.ts := rfl
@[simp] theorem State.withEd_sp (v : Drive) : (s.withEd v).sp = s.sp := rfl
@[simp] theorem State.withEd_flags (v : Drive) : (s.withEd v).flags = s.flags := rfl
@[simp] theorem State.withEd_pins (v : Drive) : (s.withEd v).pins = s.pins := rfl
@[simp] theorem State.withEd_freeCtr (v : Drive) : (s.withEd v).freeCtr = s.freeCtr := rfl
@[simp] theorem State.withEd_reports (v : Drive) : (s.withEd v).reports = s.reports := rfl
@[simp] theorem State.withEd_pending (v : Drive) : (s.withEd v).pending = s.pending := rfl
@[simp] theorem State.withEd_withEd (v w : Drive) : (s.withEd v).withEd w = s.withEd w := rfl
@[simp] theorem State.withEd_self : s.withEd s.ed = s := rfl

/-! ## withCm -/

@[simp] theorem State.withCm_cfg (v : ClaimMap) : (s.withCm v).cfg = s.cfg := rfl
@[simp] theorem State.withCm_tb (v : ClaimMap) : (s.withCm v).tb = s.tb := rfl
@[simp] theorem State.withCm_hlc (v : ClaimMap) : (s.withCm v).hlc = s.hlc := rfl
@[simp] theorem State.withCm_ed (v : ClaimMap) : (s.withCm v).ed = s.ed := rfl
@[simp] theorem State.withCm_cm (v : ClaimMap) : (s.withCm v).cm = v := rfl
@[simp] theorem State.withCm_rl (v : ClaimMap) : (s.withCm v).rl = s.rl := rfl
@[simp] theorem State.withCm_ss (v : ClaimMap) : (s.withCm v).ss = s.ss := rfl
@[simp] theorem State.withCm_pd (v : ClaimMap) : (s.withCm v).pd = s.pd := rfl
@[simp] theorem State.withCm_cp (v : ClaimMap) : (s.withCm v).cp = s.cp := rfl
@[simp] theorem State.withCm_ts (v : ClaimMap) : (s.withCm v).ts = s.ts := rfl
@[simp] theorem State.withCm_sp (v : ClaimMap) : (s.withCm v).sp = s.sp := rfl
@[simp] theorem State.withCm_flags (v : ClaimMap) : (s.withCm v).flags = s.flags := rfl
@[simp] theorem State.withCm_pins (v : ClaimMap) : (s.withCm v).pins = s.pins := rfl
@[simp] theorem State.withCm_freeCtr (v : ClaimMap) : (s.withCm v).freeCtr = s.freeCtr := rfl
@[simp] theorem State.withCm_reports (v : ClaimMap) : (s.withCm v).reports = s.reports := rfl
@[simp] theorem State.withCm_pending (v : ClaimMap) : (s.withCm v).pending = s.pending := rfl
@[simp] theorem State.withCm_withCm (v w : ClaimMap) : (s.withCm v).withCm w = s.withCm w := rfl
@[simp] theorem State.withCm_self : s.withCm s.cm = s := rfl

/-! ## withRl -/

@[simp] theorem State.withRl_cfg (v : RampLog) : (s.withRl v).cfg = s.cfg := rfl
@[simp] theorem State.withRl_tb (v : RampLog) : (s.withRl v).tb = s.tb := rfl
@[simp] theorem State.withRl_hlc (v : RampLog) : (s.withRl v).hlc = s.hlc := rfl
@[simp] theorem State.withRl_ed (v : RampLog) : (s.withRl v).ed = s.ed := rfl
@[simp] theorem State.withRl_cm (v : RampLog) : (s.withRl v).cm = s.cm := rfl
@[simp] theorem State.withRl_rl (v : RampLog) : (s.withRl v).rl = v := rfl
@[simp] theorem State.withRl_ss (v : RampLog) : (s.withRl v).ss = s.ss := rfl
@[simp] theorem State.withRl_pd (v : RampLog) : (s.withRl v).pd = s.pd := rfl
@[simp] theorem State.withRl_cp (v : RampLog) : (s.withRl v).cp = s.cp := rfl
@[simp] theorem State.withRl_ts (v : RampLog) : (s.withRl v).ts = s.ts := rfl
@[simp] theorem State.withRl_sp (v : RampLog) : (s.withRl v).sp = s.sp := rfl
@[simp] theorem State.withRl_flags (v : RampLog) : (s.withRl v).flags = s.flags := rfl
@[simp] theorem State.withRl_pins (v : RampLog) : (s.withRl v).pins = s.pins := rfl
@[simp] theorem State.withRl_freeCtr (v : RampLog) : (s.withRl v).freeCtr = s.freeCtr := rfl
@[simp] theorem State.withRl_reports (v : RampLog) : (s.withRl v).reports = s.reports := rfl
@[simp] theorem State.withRl_pending (v : RampLog) : (s.withRl v).pending = s.pending := rfl
@[simp] theorem State.withRl_withRl (v w : RampLog) : (s.withRl v).withRl w = s.withRl w := rfl
@[simp] theorem State.withRl_self : s.withRl s.rl = s := rfl

/-! ## withSs -/

@[simp] theorem State.withSs_cfg (v : Schedule) : (s.withSs v).cfg = s.cfg := rfl
@[simp] theorem State.withSs_tb (v : Schedule) : (s.withSs v).tb = s.tb := rfl
@[simp] theorem State.withSs_hlc (v : Schedule) : (s.withSs v).hlc = s.hlc := rfl
@[simp] theorem State.withSs_ed (v : Schedule) : (s.withSs v).ed = s.ed := rfl
@[simp] theorem State.withSs_cm (v : Schedule) : (s.withSs v).cm = s.cm := rfl
@[simp] theorem State.withSs_rl (v : Schedule) : (s.withSs v).rl = s.rl := rfl
@[simp] theorem State.withSs_ss (v : Schedule) : (s.withSs v).ss = v := rfl
@[simp] theorem State.withSs_pd (v : Schedule) : (s.withSs v).pd = s.pd := rfl
@[simp] theorem State.withSs_cp (v : Schedule) : (s.withSs v).cp = s.cp := rfl
@[simp] theorem State.withSs_ts (v : Schedule) : (s.withSs v).ts = s.ts := rfl
@[simp] theorem State.withSs_sp (v : Schedule) : (s.withSs v).sp = s.sp := rfl
@[simp] theorem State.withSs_flags (v : Schedule) : (s.withSs v).flags = s.flags := rfl
@[simp] theorem State.withSs_pins (v : Schedule) : (s.withSs v).pins = s.pins := rfl
@[simp] theorem State.withSs_freeCtr (v : Schedule) : (s.withSs v).freeCtr = s.freeCtr := rfl
@[simp] theorem State.withSs_reports (v : Schedule) : (s.withSs v).reports = s.reports := rfl
@[simp] theorem State.withSs_pending (v : Schedule) : (s.withSs v).pending = s.pending := rfl
@[simp] theorem State.withSs_withSs (v w : Schedule) : (s.withSs v).withSs w = s.withSs w := rfl
@[simp] theorem State.withSs_self : s.withSs s.ss = s := rfl

/-! ## withPd -/

@[simp] theorem State.withPd_cfg (v : Directory) : (s.withPd v).cfg = s.cfg := rfl
@[simp] theorem State.withPd_tb (v : Directory) : (s.withPd v).tb = s.tb := rfl
@[simp] theorem State.withPd_hlc (v : Directory) : (s.withPd v).hlc = s.hlc := rfl
@[simp] theorem State.withPd_ed (v : Directory) : (s.withPd v).ed = s.ed := rfl
@[simp] theorem State.withPd_cm (v : Directory) : (s.withPd v).cm = s.cm := rfl
@[simp] theorem State.withPd_rl (v : Directory) : (s.withPd v).rl = s.rl := rfl
@[simp] theorem State.withPd_ss (v : Directory) : (s.withPd v).ss = s.ss := rfl
@[simp] theorem State.withPd_pd (v : Directory) : (s.withPd v).pd = v := rfl
@[simp] theorem State.withPd_cp (v : Directory) : (s.withPd v).cp = s.cp := rfl
@[simp] theorem State.withPd_ts (v : Directory) : (s.withPd v).ts = s.ts := rfl
@[simp] theorem State.withPd_sp (v : Directory) : (s.withPd v).sp = s.sp := rfl
@[simp] theorem State.withPd_flags (v : Directory) : (s.withPd v).flags = s.flags := rfl
@[simp] theorem State.withPd_pins (v : Directory) : (s.withPd v).pins = s.pins := rfl
@[simp] theorem State.withPd_freeCtr (v : Directory) : (s.withPd v).freeCtr = s.freeCtr := rfl
@[simp] theorem State.withPd_reports (v : Directory) : (s.withPd v).reports = s.reports := rfl
@[simp] theorem State.withPd_pending (v : Directory) : (s.withPd v).pending = s.pending := rfl
@[simp] theorem State.withPd_withPd (v w : Directory) : (s.withPd v).withPd w = s.withPd w := rfl
@[simp] theorem State.withPd_self : s.withPd s.pd = s := rfl

/-! ## withCp -/

@[simp] theorem State.withCp_cfg (v : Planner) : (s.withCp v).cfg = s.cfg := rfl
@[simp] theorem State.withCp_tb (v : Planner) : (s.withCp v).tb = s.tb := rfl
@[simp] theorem State.withCp_hlc (v : Planner) : (s.withCp v).hlc = s.hlc := rfl
@[simp] theorem State.withCp_ed (v : Planner) : (s.withCp v).ed = s.ed := rfl
@[simp] theorem State.withCp_cm (v : Planner) : (s.withCp v).cm = s.cm := rfl
@[simp] theorem State.withCp_rl (v : Planner) : (s.withCp v).rl = s.rl := rfl
@[simp] theorem State.withCp_ss (v : Planner) : (s.withCp v).ss = s.ss := rfl
@[simp] theorem State.withCp_pd (v : Planner) : (s.withCp v).pd = s.pd := rfl
@[simp] theorem State.withCp_cp (v : Planner) : (s.withCp v).cp = v := rfl
@[simp] theorem State.withCp_ts (v : Planner) : (s.withCp v).ts = s.ts := rfl
@[simp] theorem State.withCp_sp (v : Planner) : (s.withCp v).sp = s.sp := rfl
@[simp] theorem State.withCp_flags (v : Planner) : (s.withCp v).flags = s.flags := rfl
@[simp] theorem State.withCp_pins (v : Planner) : (s.withCp v).pins = s.pins := rfl
@[simp] theorem State.withCp_freeCtr (v : Planner) : (s.withCp v).freeCtr = s.freeCtr := rfl
@[simp] theorem State.withCp_reports (v : Planner) : (s.withCp v).reports = s.reports := rfl
@[simp] theorem State.withCp_pending (v : Planner) : (s.withCp v).pending = s.pending := rfl
@[simp] theorem State.withCp_withCp (v w : Planner) : (s.withCp v).withCp w = s.withCp w := rfl
@[simp] theorem State.withCp_self : s.withCp s.cp = s := rfl

/-! ## withTs -/

@[simp] theorem State.withTs_cfg (v : Sequencer) : (s.withTs v).cfg = s.cfg := rfl
@[simp] theorem State.withTs_tb (v : Sequencer) : (s.withTs v).tb = s.tb := rfl
@[simp] theorem State.withTs_hlc (v : Sequencer) : (s.withTs v).hlc = s.hlc := rfl
@[simp] theorem State.withTs_ed (v : Sequencer) : (s.withTs v).ed = s.ed := rfl
@[simp] theorem State.withTs_cm (v : Sequencer) : (s.withTs v).cm = s.cm := rfl
@[simp] theorem State.withTs_rl (v : Sequencer) : (s.withTs v).rl = s.rl := rfl
@[simp] theorem State.withTs_ss (v : Sequencer) : (s.withTs v).ss = s.ss := rfl
@[simp] theorem State.withTs_pd (v : Sequencer) : (s.withTs v).pd = s.pd := rfl
@[simp] theorem State.withTs_cp (v : Sequencer) : (s.withTs v).cp = s.cp := rfl
@[simp] theorem State.withTs_ts (v : Sequencer) : (s.withTs v).ts = v := rfl
@[simp] theorem State.withTs_sp (v : Sequencer) : (s.withTs v).sp = s.sp := rfl
@[simp] theorem State.withTs_flags (v : Sequencer) : (s.withTs v).flags = s.flags := rfl
@[simp] theorem State.withTs_pins (v : Sequencer) : (s.withTs v).pins = s.pins := rfl
@[simp] theorem State.withTs_freeCtr (v : Sequencer) : (s.withTs v).freeCtr = s.freeCtr := rfl
@[simp] theorem State.withTs_reports (v : Sequencer) : (s.withTs v).reports = s.reports := rfl
@[simp] theorem State.withTs_pending (v : Sequencer) : (s.withTs v).pending = s.pending := rfl
@[simp] theorem State.withTs_withTs (v w : Sequencer) : (s.withTs v).withTs w = s.withTs w := rfl
@[simp] theorem State.withTs_self : s.withTs s.ts = s := rfl

/-! ## withSp -/

@[simp] theorem State.withSp_cfg (v : Port) : (s.withSp v).cfg = s.cfg := rfl
@[simp] theorem State.withSp_tb (v : Port) : (s.withSp v).tb = s.tb := rfl
@[simp] theorem State.withSp_hlc (v : Port) : (s.withSp v).hlc = s.hlc := rfl
@[simp] theorem State.withSp_ed (v : Port) : (s.withSp v).ed = s.ed := rfl
@[simp] theorem State.withSp_cm (v : Port) : (s.withSp v).cm = s.cm := rfl
@[simp] theorem State.withSp_rl (v : Port) : (s.withSp v).rl = s.rl := rfl
@[simp] theorem State.withSp_ss (v : Port) : (s.withSp v).ss = s.ss := rfl
@[simp] theorem State.withSp_pd (v : Port) : (s.withSp v).pd = s.pd := rfl
@[simp] theorem State.withSp_cp (v : Port) : (s.withSp v).cp = s.cp := rfl
@[simp] theorem State.withSp_ts (v : Port) : (s.withSp v).ts = s.ts := rfl
@[simp] theorem State.withSp_sp (v : Port) : (s.withSp v).sp = v := rfl
@[simp] theorem State.withSp_flags (v : Port) : (s.withSp v).flags = s.flags := rfl
@[simp] theorem State.withSp_pins (v : Port) : (s.withSp v).pins = s.pins := rfl
@[simp] theorem State.withSp_freeCtr (v : Port) : (s.withSp v).freeCtr = s.freeCtr := rfl
@[simp] theorem State.withSp_reports (v : Port) : (s.withSp v).reports = s.reports := rfl
@[simp] theorem State.withSp_pending (v : Port) : (s.withSp v).pending = s.pending := rfl
@[simp] theorem State.withSp_withSp (v w : Port) : (s.withSp v).withSp w = s.withSp w := rfl
@[simp] theorem State.withSp_self : s.withSp s.sp = s := rfl

/-! ## withFlags -/

@[simp] theorem State.withFlags_cfg (v : Flags) : (s.withFlags v).cfg = s.cfg := rfl
@[simp] theorem State.withFlags_tb (v : Flags) : (s.withFlags v).tb = s.tb := rfl
@[simp] theorem State.withFlags_hlc (v : Flags) : (s.withFlags v).hlc = s.hlc := rfl
@[simp] theorem State.withFlags_ed (v : Flags) : (s.withFlags v).ed = s.ed := rfl
@[simp] theorem State.withFlags_cm (v : Flags) : (s.withFlags v).cm = s.cm := rfl
@[simp] theorem State.withFlags_rl (v : Flags) : (s.withFlags v).rl = s.rl := rfl
@[simp] theorem State.withFlags_ss (v : Flags) : (s.withFlags v).ss = s.ss := rfl
@[simp] theorem State.withFlags_pd (v : Flags) : (s.withFlags v).pd = s.pd := rfl
@[simp] theorem State.withFlags_cp (v : Flags) : (s.withFlags v).cp = s.cp := rfl
@[simp] theorem State.withFlags_ts (v : Flags) : (s.withFlags v).ts = s.ts := rfl
@[simp] theorem State.withFlags_sp (v : Flags) : (s.withFlags v).sp = s.sp := rfl
@[simp] theorem State.withFlags_flags (v : Flags) : (s.withFlags v).flags = v := rfl
@[simp] theorem State.withFlags_pins (v : Flags) : (s.withFlags v).pins = s.pins := rfl
@[simp] theorem State.withFlags_freeCtr (v : Flags) : (s.withFlags v).freeCtr = s.freeCtr := rfl
@[simp] theorem State.withFlags_reports (v : Flags) : (s.withFlags v).reports = s.reports := rfl
@[simp] theorem State.withFlags_pending (v : Flags) : (s.withFlags v).pending = s.pending := rfl
@[simp] theorem State.withFlags_withFlags (v w : Flags) : (s.withFlags v).withFlags w = s.withFlags w := rfl
@[simp] theorem State.withFlags_self : s.withFlags s.flags = s := rfl

/-! ## withPins -/

@[simp] theorem State.withPins_cfg (v : Pins) : (s.withPins v).cfg = s.cfg := rfl
@[simp] theorem State.withPins_tb (v : Pins) : (s.withPins v).tb = s.tb := rfl
@[simp] theorem State.withPins_hlc (v : Pins) : (s.withPins v).hlc = s.hlc := rfl
@[simp] theorem State.withPins_ed (v : Pins) : (s.withPins v).ed = s.ed := rfl
@[simp] theorem State.withPins_cm (v : Pins) : (s.withPins v).cm = s.cm := rfl
@[simp] theorem State.withPins_rl (v : Pins) : (s.withPins v).rl = s.rl := rfl
@[simp] theorem State.withPins_ss (v : Pins) : (s.withPins v).ss = s.ss := rfl
@[simp] theorem State.withPins_pd (v : Pins) : (s.withPins v).pd = s.pd := rfl
@[simp] theorem State.withPins_cp (v : Pins) : (s.withPins v).cp = s.cp := rfl
@[simp] theorem State.withPins_ts (v : Pins) : (s.withPins v).ts = s.ts := rfl
@[simp] theorem State.withPins_sp (v : Pins) : (s.withPins v).sp = s.sp := rfl
@[simp] theorem State.withPins_flags (v : Pins) : (s.withPins v).flags = s.flags := rfl
@[simp] theorem State.withPins_pins (v : Pins) : (s.withPins v).pins = v := rfl
@[simp] theorem State.withPins_freeCtr (v : Pins) : (s.withPins v).freeCtr = s.freeCtr := rfl
@[simp] theorem State.withPins_reports (v : Pins) : (s.withPins v).reports = s.reports := rfl
@[simp] theorem State.withPins_pending (v : Pins) : (s.withPins v).pending = s.pending := rfl
@[simp] theorem State.withPins_withPins (v w : Pins) : (s.withPins v).withPins w = s.withPins w := rfl
@[simp] theorem State.withPins_self : s.withPins s.pins = s := rfl

/-! ## withFreeCtr -/

@[simp] theorem State.withFreeCtr_cfg (v : Nat) : (s.withFreeCtr v).cfg = s.cfg := rfl
@[simp] theorem State.withFreeCtr_tb (v : Nat) : (s.withFreeCtr v).tb = s.tb := rfl
@[simp] theorem State.withFreeCtr_hlc (v : Nat) : (s.withFreeCtr v).hlc = s.hlc := rfl
@[simp] theorem State.withFreeCtr_ed (v : Nat) : (s.withFreeCtr v).ed = s.ed := rfl
@[simp] theorem State.withFreeCtr_cm (v : Nat) : (s.withFreeCtr v).cm = s.cm := rfl
@[simp] theorem State.withFreeCtr_rl (v : Nat) : (s.withFreeCtr v).rl = s.rl := rfl
@[simp] theorem State.withFreeCtr_ss (v : Nat) : (s.withFreeCtr v).ss = s.ss := rfl
@[simp] theorem State.withFreeCtr_pd (v : Nat) : (s.withFreeCtr v).pd = s.pd := rfl
@[simp] theorem State.withFreeCtr_cp (v : Nat) : (s.withFreeCtr v).cp = s.cp := rfl
@[simp] theorem State.withFreeCtr_ts (v : Nat) : (s.withFreeCtr v).ts = s.ts := rfl
@[simp] theorem State.withFreeCtr_sp (v : Nat) : (s.withFreeCtr v).sp = s.sp := rfl
@[simp] theorem State.withFreeCtr_flags (v : Nat) : (s.withFreeCtr v).flags = s.flags := rfl
@[simp] theorem State.withFreeCtr_pins (v : Nat) : (s.withFreeCtr v).pins = s.pins := rfl
@[simp] theorem State.withFreeCtr_freeCtr (v : Nat) : (s.withFreeCtr v).freeCtr = v := rfl
@[simp] theorem State.withFreeCtr_reports (v : Nat) : (s.withFreeCtr v).reports = s.reports := rfl
@[simp] theorem State.withFreeCtr_pending (v : Nat) : (s.withFreeCtr v).pending = s.pending := rfl
@[simp] theorem State.withFreeCtr_withFreeCtr (v w : Nat) : (s.withFreeCtr v).withFreeCtr w = s.withFreeCtr w := rfl
@[simp] theorem State.withFreeCtr_self : s.withFreeCtr s.freeCtr = s := rfl

/-! ## withReports -/

@[simp] theorem State.withReports_cfg (v : List Report) : (s.withReports v).cfg = s.cfg := rfl
@[simp] theorem State.withReports_tb (v : List Report) : (s.withReports v).tb = s.tb := rfl
@[simp] theorem State.withReports_hlc (v : List Report) : (s.withReports v).hlc = s.hlc := rfl
@[simp] theorem State.withReports_ed (v : List Report) : (s.withReports v).ed = s.ed := rfl
@[simp] theorem State.withReports_cm (v : List Report) : (s.withReports v).cm = s.cm := rfl
@[simp] theorem State.withReports_rl (v : List Report) : (s.withReports v).rl = s.rl := rfl
@[simp] theorem State.withReports_ss (v : List Report) : (s.withReports v).ss = s.ss := rfl
@[simp] theorem State.withReports_pd (v : List Report) : (s.withReports v).pd = s.pd := rfl
@[simp] theorem State.withReports_cp (v : List Report) : (s.withReports v).cp = s.cp := rfl
@[simp] theorem State.withReports_ts (v : List Report) : (s.withReports v).ts = s.ts := rfl
@[simp] theorem State.withReports_sp (v : List Report) : (s.withReports v).sp = s.sp := rfl
@[simp] theorem State.withReports_flags (v : List Report) : (s.withReports v).flags = s.flags := rfl
@[simp] theorem State.withReports_pins (v : List Report) : (s.withReports v).pins = s.pins := rfl
@[simp] theorem State.withReports_freeCtr (v : List Report) : (s.withReports v).freeCtr = s.freeCtr := rfl
@[simp] theorem State.withReports_reports (v : List Report) : (s.withReports v).reports = v := rfl
@[simp] theorem State.withReports_pending (v : List Report) : (s.withReports v).pending = s.pending := rfl
@[simp] theorem State.withReports_withReports (v w : List Report) : (s.withReports v).withReports w = s.withReports w := rfl
@[simp] theorem State.withReports_self : s.withReports s.reports = s := rfl

/-! ## withPending -/

@[simp] theorem State.withPending_cfg (v : List Instr) : (s.withPending v).cfg = s.cfg := rfl
@[simp] theorem State.withPending_tb (v : List Instr) : (s.withPending v).tb = s.tb := rfl
@[simp] theorem State.withPending_hlc (v : List Instr) : (s.withPending v).hlc = s.hlc := rfl
@[simp] theorem State.withPending_ed (v : List Instr) : (s.withPending v).ed = s.ed := rfl
@[simp] theorem State.withPending_cm (v : List Instr) : (s.withPending v).cm = s.cm := rfl
@[simp] theorem State.withPending_rl (v : List Instr) : (s.withPending v).rl = s.rl := rfl
@[simp] theorem State.withPending_ss (v : List Instr) : (s.withPending v).ss = s.ss := rfl
@[simp] theorem State.withPending_pd (v : List Instr) : (s.withPending v).pd = s.pd := rfl
@[simp] theorem State.withPending_cp (v : List Instr) : (s.withPending v).cp = s.cp := rfl
@[simp] theorem State.withPending_ts (v : List Instr) : (s.withPending v).ts = s.ts := rfl
@[simp] theorem State.withPending_sp (v : List Instr) : (s.withPending v).sp = s.sp := rfl
@[simp] theorem State.withPending_flags (v : List Instr) : (s.withPending v).flags = s.flags := rfl
@[simp] theorem State.withPending_pins (v : List Instr) : (s.withPending v).pins = s.pins := rfl
@[simp] theorem State.withPending_freeCtr (v : List Instr) : (s.withPending v).freeCtr = s.freeCtr := rfl
@[simp] theorem State.withPending_reports (v : List Instr) : (s.withPending v).reports = s.reports := rfl
@[simp] theorem State.withPending_pending (v : List Instr) : (s.withPending v).pending = v := rfl
@[simp] theorem State.withPending_withPending (v w : List Instr) : (s.withPending v).withPending w = s.withPending w := rfl
@[simp] theorem State.withPending_self : s.withPending s.pending = s := rfl

end Sys2Proof.Machine
end

