-- ==== Sys2Proof/Laws/Ops.lean ====
section
/-! SUPPORT. What the shared operations do: forward distance, lists kept by key, ordered insertion, bounded
appending, timers and reports. -/

namespace Sys2Proof.Machine

open Sys2Proof

/-! ## Week ticks -/

theorem fd_lt (a b : Nat) : fd a b < Config.weekTicks := Nat.mod_lt _ (by decide)

theorem addT_lt (a b : Nat) : addT a b < Config.weekTicks := Nat.mod_lt _ (by decide)

theorem subT_lt (a b : Nat) : subT a b < Config.weekTicks := Nat.mod_lt _ (by decide)

/-- A week tick is no distance from itself. -/
theorem fd_self (a : Nat) : fd a a = 0 := by
  unfold fd Config.weekTicks
  omega

/-- An instant is due at its own tick. -/
theorem due_self (a : Nat) : due a a = true := by
  simp [due, atOrAfter, fd_self, Config.halfWeek]

theorem fd_addT (a n : Nat) (h : n < Config.weekTicks) : fd a (addT a n) = n := by
  unfold fd addT Config.weekTicks at *
  omega

/-! ## Lists kept by key -/

theorem lookupKey_putKey_self {α : Type} (k : Nat) (v : α) (l : List (Nat × α)) :
    lookupKey k (putKey k v l) = some v := by
  induction l with
  | nil => simp [putKey, lookupKey]
  | cons p rest ih =>
    unfold putKey
    split
    · simp [lookupKey]
    · split
      · simp [lookupKey]
      · rename_i h
        simp [lookupKey, h, ih]

theorem lookupKey_putKey_other {α : Type} (j k : Nat) (v : α) (l : List (Nat × α)) (h : j ≠ k) :
    lookupKey j (putKey k v l) = lookupKey j l := by
  induction l with
  | nil => simp [putKey, lookupKey, h]
  | cons p rest ih =>
    unfold putKey
    split
    · simp [lookupKey, h]
    · split
      · rename_i hk
        have : j ≠ p.1 := by omega
        simp [lookupKey, h, this]
      · simp only [lookupKey, ih]

theorem lookupKey_dropKey_self {α : Type} (k : Nat) (l : List (Nat × α)) :
    lookupKey k (dropKey k l) = none := by
  induction l with
  | nil => rfl
  | cons p rest ih =>
    by_cases h : p.1 = k
    · simpa [dropKey, h] using ih
    · have : k ≠ p.1 := fun e => h e.symm
      simp only [dropKey, List.filter_cons, bne_iff_ne, ne_eq, h, not_false_eq_true, if_true, lookupKey,
        this, if_false]
      exact ih

theorem lookupKey_dropKey_other {α : Type} (j k : Nat) (l : List (Nat × α)) (h : j ≠ k) :
    lookupKey j (dropKey k l) = lookupKey j l := by
  induction l with
  | nil => rfl
  | cons p rest ih =>
    by_cases hk : p.1 = k
    · have : j ≠ p.1 := by omega
      simp only [dropKey, List.filter_cons, bne_iff_ne, ne_eq, hk, not_true_eq_false, if_false, lookupKey]
      rw [← hk, if_neg this, hk]
      exact ih
    · simp only [dropKey, List.filter_cons, bne_iff_ne, ne_eq, hk, not_false_eq_true, if_true, lookupKey]
      rw [show (List.filter (fun p => p.1 != k) rest) = dropKey k rest from rfl, ih]

/-- The one form, said for every pair of entries. -/
theorem keysRise_iff {α : Type} (l : List (Nat × α)) :
    keysRise l = true ↔ l.Pairwise fun x y => x.1 < y.1 := by
  induction l with
  | nil => simp [keysRise]
  | cons p rest ih =>
    cases rest with
    | nil => simp [keysRise]
    | cons q rest =>
      simp only [keysRise, Bool.and_eq_true, decide_eq_true_eq, ih, List.pairwise_cons]
      constructor
      · rintro ⟨h, h2, h3⟩
        refine ⟨?_, h2, h3⟩
        intro x hx
        rcases List.mem_cons.1 hx with rfl | hx
        · exact h
        · exact Nat.lt_trans h (h2 x hx)
      · rintro ⟨h, h2, h3⟩
        exact ⟨h q (List.mem_cons_self ..), h2, h3⟩

/-- An entry of a list after a put is the new one or stood there before. -/
theorem mem_putKey {α : Type} (k : Nat) (v : α) (l : List (Nat × α)) (x : Nat × α)
    (h : x ∈ putKey k v l) : x = (k, v) ∨ x ∈ l := by
  induction l with
  | nil => simpa [putKey] using h
  | cons p rest ih =>
    unfold putKey at h
    split at h
    · simpa using h
    · split at h
      · rcases List.mem_cons.1 h with h | h
        · exact .inl h
        · exact .inr (List.mem_cons_of_mem _ h)
      · rcases List.mem_cons.1 h with h | h
        · exact .inr (by simp [h])
        · rcases ih h with h | h
          · exact .inl h
          · exact .inr (List.mem_cons_of_mem _ h)

theorem keysRise_putKey {α : Type} (k : Nat) (v : α) (l : List (Nat × α)) (h : keysRise l = true) :
    keysRise (putKey k v l) = true := by
  rw [keysRise_iff] at h ⊢
  induction l with
  | nil => simp [putKey]
  | cons p rest ih =>
    obtain ⟨h1, h2⟩ := List.pairwise_cons.1 h
    unfold putKey
    split
    · rename_i hk
      refine List.pairwise_cons.2 ⟨?_, h⟩
      intro x hx
      rcases List.mem_cons.1 hx with rfl | hx
      · exact hk
      · exact Nat.lt_trans hk (h1 x hx)
    · split
      · rename_i hk
        exact List.pairwise_cons.2 ⟨fun x hx => hk ▸ h1 x hx, h2⟩
      · refine List.pairwise_cons.2 ⟨?_, ih h2⟩
        intro x hx
        rcases mem_putKey k v rest x hx with rfl | hx
        · simp only; omega
        · exact h1 x hx

theorem keysRise_filter {α : Type} (p : Nat × α → Bool) (l : List (Nat × α)) (h : keysRise l = true) :
    keysRise (l.filter p) = true := by
  rw [keysRise_iff] at h ⊢
  exact h.filter p

theorem keysRise_dropKey {α : Type} (k : Nat) (l : List (Nat × α)) (h : keysRise l = true) :
    keysRise (dropKey k l) = true := keysRise_filter _ l h

/-- A change of the values alone keeps the form. -/
theorem keysRise_map {α β : Type} (f : Nat × α → Nat × β) (hf : ∀ x, (f x).1 = x.1) (l : List (Nat × α))
    (h : keysRise l = true) : keysRise (l.map f) = true := by
  rw [keysRise_iff] at h ⊢
  exact List.pairwise_map.2 (h.imp fun {a b} hab => by simpa [hf] using hab)

/-! ## Ordered insertion -/

theorem insertBy_perm {α : Type} (before : α → α → Bool) (x : α) (l : List α) :
    (insertBy before x l).Perm (x :: l) := by
  induction l with
  | nil => simp [insertBy]
  | cons y rest ih =>
    unfold insertBy
    split
    · exact .refl _
    · exact (ih.cons y).trans (.swap x y rest)

theorem mem_insertBy {α : Type} (before : α → α → Bool) (x y : α) (l : List α) :
    y ∈ insertBy before x l ↔ y = x ∨ y ∈ l := by
  rw [(insertBy_perm before x l).mem_iff, List.mem_cons]

theorem length_insertBy {α : Type} (before : α → α → Bool) (x : α) (l : List α) :
    (insertBy before x l).length = l.length + 1 := (insertBy_perm before x l).length_eq

theorem sortBy_perm {α : Type} (before : α → α → Bool) (l : List α) : (sortBy before l).Perm l := by
  have h : ∀ (l acc : List α),
      (l.foldl (fun acc x => insertBy before x acc) acc).Perm (l ++ acc) := by
    intro l
    induction l with
    | nil => intro acc; exact .refl _
    | cons x rest ih =>
      intro acc
      refine (ih _).trans ?_
      exact ((insertBy_perm before x acc).append_left rest).trans List.perm_middle
  simpa [sortBy] using h l []

theorem mem_sortBy {α : Type} (before : α → α → Bool) (l : List α) (x : α) :
    x ∈ sortBy before l ↔ x ∈ l := (sortBy_perm before l).mem_iff

/-! ## Bounded appending -/

theorem length_appendBounded {α : Type} (cap : Nat) (l : List α) (x : α) (h : l.length ≤ cap) (hc : 0 < cap) :
    (appendBounded cap l x).length ≤ cap := by
  unfold appendBounded
  split <;> simp <;> omega

theorem mem_appendBounded_last {α : Type} (cap : Nat) (l : List α) (x : α) : x ∈ appendBounded cap l x := by
  simp [appendBounded]

/-! ## Timers -/

@[simp] theorem countDown_none : countDown none = none := rfl
@[simp] theorem countDown_some (n : Nat) : countDown (some n) = some (n - 1) := rfl

theorem ended_iff (t : Option Nat) : ended t = true ↔ t = some 0 := by simp [ended]

/-! ## Reports and phases -/

@[simp] theorem State.report_reports (s : State) (rs : List Report) : (s.report rs).reports = s.reports ++ rs := rfl
@[simp] theorem State.report_cfg (s : State) (rs : List Report) : (s.report rs).cfg = s.cfg := rfl
@[simp] theorem State.report_tb (s : State) (rs : List Report) : (s.report rs).tb = s.tb := rfl
@[simp] theorem State.report_hlc (s : State) (rs : List Report) : (s.report rs).hlc = s.hlc := rfl
@[simp] theorem State.report_ed (s : State) (rs : List Report) : (s.report rs).ed = s.ed := rfl
@[simp] theorem State.report_cm (s : State) (rs : List Report) : (s.report rs).cm = s.cm := rfl
@[simp] theorem State.report_rl (s : State) (rs : List Report) : (s.report rs).rl = s.rl := rfl
@[simp] theorem State.report_ss (s : State) (rs : List Report) : (s.report rs).ss = s.ss := rfl
@[simp] theorem State.report_pd (s : State) (rs : List Report) : (s.report rs).pd = s.pd := rfl
@[simp] theorem State.report_cp (s : State) (rs : List Report) : (s.report rs).cp = s.cp := rfl
@[simp] theorem State.report_ts (s : State) (rs : List Report) : (s.report rs).ts = s.ts := rfl
@[simp] theorem State.report_sp (s : State) (rs : List Report) : (s.report rs).sp = s.sp := rfl
@[simp] theorem State.report_flags (s : State) (rs : List Report) : (s.report rs).flags = s.flags := rfl
@[simp] theorem State.report_pins (s : State) (rs : List Report) : (s.report rs).pins = s.pins := rfl
@[simp] theorem State.report_pending (s : State) (rs : List Report) : (s.report rs).pending = s.pending := rfl

@[simp] theorem State.setPhase_phase (s : State) (p : Phase) : (s.setPhase p).phase = p := rfl
@[simp] theorem State.setPhase_sp (s : State) (p : Phase) : (s.setPhase p).sp = { s.sp with phase := p } := rfl

end Sys2Proof.Machine
end

