-- ==== Sys2Proof/Laws/Link.lean ====
section
/-! SUPPORT. What an offer to the link can do (R23, R24), and what a charge and a success leave (R21). -/

namespace Sys2Proof.Machine

open Sys2Proof

theorem enqueue_perm (q : List QFrame) (f : Frame) :
    (enqueue q f).Perm ({ frame := f, attempts := 0, sending := false } :: q) := insertBy_perm _ _ _

theorem length_enqueue (q : List QFrame) (f : Frame) : (enqueue q f).length = q.length + 1 :=
  length_insertBy _ _ _

/-- With room a frame enters the queue (R23). -/
theorem Link.offer_room (l : Link) (f : Frame) (h : l.queue.length + l.slots.length < 16) :
    l.offer f = some { l with queue := enqueue l.queue f } := by
  simp [Link.offer, Link.hasRoom, Config.queueSize, h]

/-- A full queue discards a BEACON (R24). -/
theorem Link.offer_full_beacon (l : Link) (b : BeaconBody)
    (h : ¬ l.queue.length + l.slots.length < 16) : l.offer (.beacon b) = some l := by
  simp [Link.offer, Link.hasRoom, Config.queueSize, h, isBeacon]

/-- An offer that is taken changes the queue and the slots alone (R23, R24). -/
theorem Link.offer_frame (l l' : Link) (f : Frame) (h : l.offer f = some l') :
    l' = { l with queue := l'.queue, slots := l'.slots } := by
  unfold Link.offer at h
  split at h
  · cases h; rfl
  · split at h
    · cases h; rfl
    · split at h
      · cases h
      · split at h <;> (cases h; rfl)

/-- All that an offer to a full queue can do for a frame other than a BEACON: it is refused, or takes a
BEACON's place, or goes to its block's slot (R24). -/
theorem Link.offer_full (l : Link) (f : Frame) (h : ¬ l.queue.length + l.slots.length < 16)
    (hb : isBeacon f = false) :
    (l.slotTaken f = true ∧ l.offer f = none)
      ∨ (l.slotTaken f = false ∧ ∃ q, dropNewestBeacon l.queue = some q
        ∧ l.offer f = some { l with queue := enqueue q f })
      ∨ (l.slotTaken f = false ∧ dropNewestBeacon l.queue = none
        ∧ l.offer f = some { l with slots := l.slots ++ [f] }) := by
  have hr : l.hasRoom = false := decide_eq_false h
  cases hs : l.slotTaken f with
  | true => exact .inl ⟨rfl, by simp [Link.offer, hr, hb, hs]⟩
  | false =>
    cases hd : dropNewestBeacon l.queue with
    | some q => exact .inr (.inl ⟨rfl, q, rfl, by simp [Link.offer, hr, hb, hs, hd]⟩)
    | none => exact .inr (.inr ⟨rfl, rfl, by simp [Link.offer, hr, hb, hs, hd]⟩)

/-- All that a block's offer can do: nothing, or a change of the link alone. -/
theorem State.offer_cases (s : State) (f : Frame) :
    (s.offer f = (s, false))
      ∨ (∃ l, offerPermitted s.phase f = true ∧ s.hlc.offer f = some l ∧ s.offer f = (s.withHlc l, true)) := by
  unfold State.offer
  split
  · cases h : s.hlc.offer f with
    | none => exact .inl rfl
    | some l => exact .inr ⟨l, ‹_›, rfl, rfl⟩
  · exact .inl rfl

/-- With room, an offer the phase permits puts the frame into the queue. -/
theorem State.offer_room (s : State) (f : Frame) (hp : offerPermitted s.phase f = true)
    (h : s.hlc.queue.length + s.hlc.slots.length < 16) :
    s.offer f = (s.withHlc { s.hlc with queue := enqueue s.hlc.queue f }, true) := by
  unfold State.offer
  rw [if_pos hp, Link.offer_room _ _ h]

/-- An offer leaves every block but the link as it was. -/
theorem State.offer_other (s : State) (f : Frame) : (s.offer f).1 = s.withHlc (s.offer f).1.hlc := by
  rcases s.offer_cases f with h | ⟨l, _, _, h⟩ <;> rw [h] <;> rfl

/-- A charge never lengthens the queue. -/
theorem length_chargeFirst_le (hit : QFrame → Bool) (q : List QFrame) :
    (chargeFirst hit q).1.length ≤ q.length := by
  induction q with
  | nil => simp [chargeFirst]
  | cons x rest ih =>
    unfold chargeFirst
    split
    · split <;> simp
    · simpa using ih

/-- A success takes the frame sent out of the queue and no other. -/
theorem Link.succeed_queue (l : Link) : l.succeed.queue = l.queue.filter fun x => !x.sending := rfl

@[simp] theorem Link.succeed_txErr (l : Link) : l.succeed.txErr = 0 := rfl
@[simp] theorem Link.succeed_slots (l : Link) : l.succeed.slots = l.slots := rfl
@[simp] theorem Link.succeed_stamp (l : Link) : l.succeed.stamp = l.stamp := rfl
@[simp] theorem Link.number_stamp (l : Link) : l.number.stamp = l.stamp := rfl
@[simp] theorem Link.number_queue (l : Link) : l.number.queue = l.queue := rfl
@[simp] theorem Link.follow_queue (l : Link) (v : Nat) : (l.follow v).queue = l.queue := rfl
@[simp] theorem Link.follow_stamp (l : Link) (v : Nat) : (l.follow v).stamp = max l.stamp v := rfl

end Sys2Proof.Machine
end

