-- ==== Sys2Proof/Laws/Bookings.lean ====
section
/-! SUPPORT. What the claim map's and the sequencer's shared operations can change: the claim map, the link and the
reports handed over; and the sequencer alone. -/

namespace Sys2Proof.Machine

open Sys2Proof

/-- Only the claim map, the link and the outstanding reports differ. -/
def State.bookingFrame (s t : State) : Prop := t = ((s.withHlc t.hlc).withCm t.cm).withReports t.reports

theorem State.bookingFrame_refl (s : State) : s.bookingFrame s := rfl

theorem State.bookingFrame_trans {s t u : State} (h : s.bookingFrame t) (k : t.bookingFrame u) :
    s.bookingFrame u := by
  unfold State.bookingFrame at *
  rw [k, h]
  rfl

theorem State.bookingFrame_withCm (s : State) (c : ClaimMap) : s.bookingFrame (s.withCm c) := rfl

theorem State.bookingFrame_withHlc (s : State) (l : Link) : s.bookingFrame (s.withHlc l) := rfl

theorem State.bookingFrame_report (s : State) (rs : List Report) : s.bookingFrame (s.report rs) := rfl

theorem State.bookingFrame_foldl {α : Type} (f : State → α → State)
    (hf : ∀ (s : State) (x : α), s.bookingFrame (f s x)) (l : List α) : ∀ s : State, s.bookingFrame (l.foldl f s) := by
  induction l with
  | nil => intro s; exact s.bookingFrame_refl
  | cons x rest ih => intro s; exact State.bookingFrame_trans (hf s x) (ih _)

theorem State.bookingFrame_offer (s : State) (f : Frame) : s.bookingFrame (s.offer f).1 := by
  rw [s.offer_other f]
  exact s.bookingFrame_withHlc _

theorem State.bookingFrame_offerRelease (s : State) (num : Nat) : s.bookingFrame (s.offerRelease num) := by
  unfold State.offerRelease
  split
  · exact s.bookingFrame_refl
  · simp only
    split
    · exact s.bookingFrame_offer _
    · exact s.bookingFrame_withCm _

theorem State.bookingFrame_offerObject (s : State) (c n o : Nat) : s.bookingFrame (s.offerObject c n o) := by
  unfold State.offerObject
  simp only
  split
  · exact s.bookingFrame_offer _
  · exact s.bookingFrame_withCm _

theorem State.bookingFrame_offerAir (s : State) (num : Nat) : s.bookingFrame (s.offerAir num) :=
  State.bookingFrame_trans (s.bookingFrame_offer _) (State.bookingFrame_withCm _ _)

theorem State.bookingFrame_removeOwn (s : State) (b : OwnBooking) (r : Bool) :
    s.bookingFrame (s.removeOwn b r) := by
  unfold State.removeOwn
  simp only
  split
  · rfl
  · split
    · rfl
    · split
      · exact State.bookingFrame_trans (s.bookingFrame_withCm _)
          (State.bookingFrame_trans (State.bookingFrame_offerRelease _ _) (State.bookingFrame_report _ _))
      · rfl

/-- A booking's end changes the claim map, the link and the reports alone (R59, R68). -/
theorem State.bookingFrame_endOwn (s : State) (b : OwnBooking) (w : Told) : s.bookingFrame (s.endOwn b w) :=
  State.bookingFrame_trans (s.bookingFrame_removeOwn b true) (State.bookingFrame_report _ _)

theorem State.bookingFrame_releaseTest (s : State) : s.bookingFrame s.releaseTest := by
  unfold State.releaseTest
  split
  · exact s.bookingFrame_refl
  · exact State.bookingFrame_foldl _ (fun s b => s.bookingFrame_endOwn b .released) _ s

theorem State.bookingFrame_releaseBooking (s : State) (num : Nat) : s.bookingFrame (s.releaseBooking num) := by
  unfold State.releaseBooking
  split
  · exact s.bookingFrame_refl
  · split
    · exact s.bookingFrame_endOwn _ _
    · exact State.bookingFrame_trans
        (State.bookingFrame_trans (s.bookingFrame_withCm _) (State.bookingFrame_report _ _))
        (State.bookingFrame_releaseTest _)

theorem State.bookingFrame_putRec (s : State) (r : PeerRec) : s.bookingFrame (s.putRec r) :=
  s.bookingFrame_withCm _

/-- Placement changes the claim map, the link and the reports alone (R70, R71, R74). -/
theorem State.bookingFrame_place (s : State) (r : PeerRec) (was : Bool) : s.bookingFrame (s.place r was) := by
  unfold State.place
  simp only
  split
  · split
    · exact State.bookingFrame_trans (s.bookingFrame_putRec _) (State.bookingFrame_offerObject _ _ _ _)
    · exact s.bookingFrame_putRec _
  · split
    · exact s.bookingFrame_putRec _
    · exact State.bookingFrame_trans
        (State.bookingFrame_trans (s.bookingFrame_putRec { r with mark := heldMark r.announced })
          (State.bookingFrame_foldl _ (fun s (x : PeerRec) => s.bookingFrame_putRec { x with mark := .yielded }) _ _))
        (State.bookingFrame_foldl _ (fun s b => s.bookingFrame_endOwn b .displaced) _ _)

theorem State.bookingFrame_addRec (s : State) (r : PeerRec) : s.bookingFrame (s.addRec r) := by
  unfold State.addRec
  split
  · exact s.bookingFrame_place _ _
  · simp only
    split
    · exact s.bookingFrame_withCm _
    · exact State.bookingFrame_trans (State.bookingFrame_withCm _ _) (State.bookingFrame_place _ _ _)

theorem State.bookingFrame_keepRecs (s : State) (keep : PeerRec → Bool) : s.bookingFrame (s.keepRecs keep) :=
  s.bookingFrame_withCm _

theorem State.bookingFrame_afterMap (s s0 : State) : s.bookingFrame (s.afterMap s0) := by
  unfold State.afterMap
  simp only
  split
  · exact s.bookingFrame_report _
  · exact s.bookingFrame_refl

theorem State.bookingFrame_requestBooking (s : State) (req : Requester) (d : Desc) :
    s.bookingFrame (s.requestBooking req d).1 := by
  unfold State.requestBooking
  split
  · exact s.bookingFrame_refl
  · simp only
    split
    · exact State.bookingFrame_trans (s.bookingFrame_offer _)
        (State.bookingFrame_trans (State.bookingFrame_withHlc _ _) (State.bookingFrame_withCm _ _))
    · exact s.bookingFrame_refl

/-- A claim request is refused without a trace, or makes one TENTATIVE booking at the end of the list, its CLAIM
offered (R60, R61). -/
theorem State.requestBooking_cases (s : State) (req : Requester) (d : Desc) :
    (∃ why, s.requestBooking req d = (s, .refused why))
      ∨ (∃ b, s.claimRefusal req d = none ∧ b.req = req ∧ b.state = .tentative ∧ b.sent = false
        ∧ b.desc.holder = s.cfg.stationId ∧ b.desc.stamp = s.hlc.nextStamp
        ∧ (s.requestBooking req d).2 = .made b.desc.num
        ∧ (s.requestBooking req d).1.cm.own = s.cm.own ++ [b]) := by
  cases hc : s.claimRefusal req d with
  | some why => exact .inl ⟨why, by simp [State.requestBooking, hc]⟩
  | none =>
    simp only [State.requestBooking, hc]
    split
    · refine .inr ⟨{ desc := { d with
                       holder := s.cfg.stationId, num := nextNumber s.cm.numCtr s.bookingNumbersUsed
                       stamp := s.hlc.nextStamp }
                     state := .tentative, req := req, sent := false, listen := none, confirm := none
                     relPending := false, owedAir := false }, trivial, rfl, rfl, rfl, rfl, rfl, rfl, ?_⟩
      rw [State.offer_other]
      rfl
    · exact .inl ⟨_, rfl⟩

/-! ## The sequencer -/

/-- With nothing release-pending the release condition moves nothing (R68). -/
theorem State.releaseTest_none (s : State) (h : ∀ b ∈ s.cm.own, b.relPending = false) : s.releaseTest = s := by
  unfold State.releaseTest
  split
  · rfl
  · rw [List.filter_eq_nil_iff.2 fun b hb => by simp [h b hb]]
    rfl

theorem State.retime_other (s : State) : s.retime = s.withTs s.retime.ts := rfl

/-- A change of state with nothing release-pending changes the sequencer alone. -/
theorem State.setSeq_none (s : State) (st : SeqState) (h : ∀ b ∈ s.cm.own, b.relPending = false) :
    s.setSeq st = (s.withTs { s.ts with state := st }).retime :=
  State.releaseTest_none _ h

@[simp] theorem State.setSeq_tb (s : State) (st : SeqState) : (s.setSeq st).tb = s.tb := by
  have h := State.bookingFrame_releaseTest ((s.withTs { s.ts with state := st }).retime)
  unfold State.setSeq
  rw [h]
  rfl

/-- The state entered is the state asked for. -/
@[simp] theorem State.setSeq_state (s : State) (st : SeqState) : (s.setSeq st).ts.state = st := by
  have h := State.bookingFrame_releaseTest ((s.withTs { s.ts with state := st }).retime)
  unfold State.setSeq
  rw [h]
  rfl

/-- Entering a state sends nothing. -/
@[simp] theorem State.setSeq_sent (s : State) (st : SeqState) : (s.setSeq st).ts.sent = s.ts.sent := by
  have h := State.bookingFrame_releaseTest ((s.withTs { s.ts with state := st }).retime)
  unfold State.setSeq
  rw [h]
  rfl

@[simp] theorem State.send_sent (s : State) (m : TxMsg) : (s.send m).ts.sent = s.ts.sent ++ [m] := rfl
@[simp] theorem State.send_state (s : State) (m : TxMsg) : (s.send m).ts.state = s.ts.state := rfl

/-- Where the sequencer is not TUNING, RAMPING, ON-AIR or DOWN, the inhibit is asserted (R164). -/
theorem State.inhibit_of_state (s : State) (h : SeqState.permits s.ts.state = false) : s.inhibit = true := by
  simp [State.inhibit, State.permit, h]

end Sys2Proof.Machine
end

