-- ==== Sys2Proof/Laws/Settle.lean ====
section
/-! SUPPORT. What delivery does: nothing when no report is outstanding, one report at a time otherwise; and
which reports find nobody to act on them. -/

namespace Sys2Proof.Machine

open Sys2Proof

theorem drain_rest (n : Nat) (s : State) (h : s.reports = []) : drain n s = s := by
  cases n <;> simp [drain, h]

theorem drain_cons (n : Nat) (s : State) (r : Report) (rest : List Report)
    (h : s.reports = r :: rest) : drain (n + 1) s = drain n (deliver r (s.withReports rest)) := by
  simp [drain, h]

theorem reportFuel_pos : reportFuel = 99999 + 1 := rfl

/-- A command whose effect hands over no report is its effect. -/
theorem run_rest (f : State → State) (s : State) (h : (f (s.withReports [])).reports = []) :
    run f s = .next (f (s.withReports [])) := by
  unfold run
  rw [drain_rest _ _ h]

/-- A command always answers a next state. -/
theorem run_next (f : State → State) (s : State) :
    run f s = .next (drain reportFuel (f (s.withReports []))) := rfl

/-- Reports that a quiet state takes without effect. -/
def Report.idle : Report → Bool
  | .told _ _ _ => true
  | .permitTest => true
  | .homeGone _ _ => true
  | .retryBlocked => true
  | .contCheck => true
  | .moveRefused _ _ _ _ => true
  | .peerRefused _ _ _ _ => true
  | .elementSet _ => true
  | .elementFault _ => true
  | .restartTest => true
  | .leaveTripped => true
  | .stopTest => true
  | _ => false

theorem deliver_quiet (r : Report) (s : State) (hs : s.quiet = true) (hr : r.idle = true) :
    deliver r s = s := by
  simp only [State.quiet, Bool.and_eq_true, List.isEmpty_iff, Option.isNone_iff_eq_none,
    beq_iff_eq, bne_iff_ne, ne_eq] at hs
  obtain ⟨⟨⟨h1, h2⟩, h3⟩, h4⟩ := hs
  cases r <;> simp_all [Report.idle, deliver, State.told, State.permitTest, State.planHomeGone,
    State.retryBlocked, State.contCheck, State.moveRefused, State.exerciseSet, State.exerciseStops,
    State.restartTest, State.leaveTripped, State.stopTest, State.currentPlan, State.phase,
    State.planMoveRefused]
  case told req num what =>
    cases req <;> simp [State.planTold, State.exerciseTold, State.plan, h1, h2]

/-- Idle reports leave a quiet state as it is. -/
theorem drain_quiet (l : List Report) : ∀ (n : Nat) (s : State), s.reports = l → l.length ≤ n →
    s.quiet = true → (∀ r ∈ l, r.idle = true) → drain n s = s.withReports [] := by
  induction l with
  | nil =>
    intro n s h _ _ _
    rw [drain_rest n s h, ← h]
    rfl
  | cons r rest ih =>
    intro n s h hn hq hr
    match n, hn with
    | n + 1, hn =>
      have hq' : (s.withReports rest).quiet = true := hq
      rw [drain_cons n s r rest h, deliver_quiet r _ hq' (hr r (by simp))]
      rw [ih n (s.withReports rest) rfl (by simp at hn; omega) hq fun x hx => hr x (by simp [hx])]
      rfl

end Sys2Proof.Machine
end

