-- ==== Sys2Proof/Tests/Slice0.lean ====
section
/-! SUPPORT. Tests: words and examples of the manual, ill-formed terms, and for every statement a concrete state
and operands that meet its hypotheses, with what follows there. -/

namespace Sys2Proof.Tests

-- One proof is checked before the next begins: each pending check holds a stack of its own, and all of them at once more
-- memory than a build may use.
set_option Elab.async false

open Sys2Proof Sys2Proof.Machine

/-! ## Helpers -/

/-- The next state of an outcome. -/
def nextOf : Host.Outcome State Fault Refusal → State
  | .next t => t
  | _ => State.reset

/-- The next state a command leaves. -/
def after1 (c : Instr) (s : State) : State := nextOf (exec c s)

/-- The state a host command leaves at its completion. -/
def served (c : Instr) (s : State) : State := after1 .commandCompletion (after1 c s)

def bs (l : List Nat) : List Byte := l.map byte

/-- Station 2 with settings inside their limits. -/
def settings : Settings :=
  { stationId := 2, profile := 7, tBCN := 500, tLSN := 20, nRMP := 2, tWRMP := 1000, refnom := 10000
    tGRD := 50, tSET := 10, tTRF := 200, tTRS := 400, tATN := 3000, tRMP := 100, tDWN := 100, tGRC := 300
    tSLK := 100, tHZN := 60000, tLATE := 6000, tEXR := 8640000, tEXL := 6000, ageV := 100, nTRP := 3
    tWTRP := 60000, tRST := 500, pMax := 500, pFlr := 50, pfMin := 10, prAbs := 100, qWrn := 50
    qTrp := 100, fold := 10, tFLD := 50, tRCV := 1000 }

/-- The plant as station 2 sees it: element 4 and antenna 3 at home, element 9 and antenna 7 at station 5. -/
def plant : Drive :=
  { Drive.reset with
    elements := [(4, { home := 2, count := 4, rating := 300, nominal := 100, inService := true }),
      (9, { home := 5, count := 2, rating := 300, nominal := 120, inService := true })]
    antennas := [(3, { home := 2, bands := 16383, rating := 400
                       slew := some { lo := 90, hi := 200, rate := 30, deflt := 120 } }),
      (7, { home := 5, bands := 16383, rating := 500, slew := none })]
    routes := [(11, { antenna := 3, pref := 0, steps := [(4, 1)] }),
      (12, { antenna := 7, pref := 0, steps := [(9, 1)] })]
    elView := [(4, { ElView.fresh with state := .set, pos := some 0, idle := 5 }),
      (9, { ElView.fresh with state := .set, pos := some 1 })]
    anView := [(3, { AnView.fresh with state := .set, az := some 120 }),
      (7, { AnView.fresh with state := .set })]
    elChan := [4], anChan := [3], everStarted := true }

/-- Station 2 in a phase, time set and GOOD, second 1000 of the week, now 100000. -/
def station (ph : Phase) : State :=
  { State.reset with
    cfg := settings
    tb := { Timebase.reset with timeSet := true, good := true, sow := 1000 }
    ed := plant
    sp := { Port.reset with phase := ph, stationLoaded := true, timingLoaded := true }
    pins := { Pins.reset with
      elLines := Pins.reset.elLines.set 0 (true, 0), anLines := Pins.reset.anLines.set 0 120 } }

def run0 : State := station .running

/-- An own booking of the route to antenna 7, number 1. -/
def desc1 : Desc :=
  { holder := 2, num := 1, cls := 2, stamp := 10, start := 99000, stop := 440000, antenna := some 7
    azimuth := none, steps := [(9, 1)] }

def booking (st : BkState) : OwnBooking :=
  { desc := desc1, state := st, req := .plan 0, sent := true, listen := none, confirm := none
    relPending := false, owedAir := false }

/-- A plan of table place 2 on route 12. -/
def plan1 (st : PlanState) : Plan :=
  { id := 0, src := .table true 2, cls := 2, absA := 130000, a := 130000, z := 430000, late := 136000
    freq := 9565, ant := 7, az := none, program := 3, entryPower := 250, cmdPower := some 250
    clampP := false, clampA := false, route := some 12, excluded := [], preset := .miss, pin := none
    t := 3000, w := some 100000, u := some 126800, r := some 129900, booking := some 1, intent := none
    swTick := some 100000, predTune := none, predFull := none, lateness := 0, state := st, cont := false
    firstFull := none, lostAir := 0, folds := 0, pendOut := none, cause := none, lostOpen := none
    progDone := false, noSet := false, switchedAt := none, tunedAt := none, path := 0
    limitPast := false }

def withPlan (s : State) (p : Plan) (b : OwnBooking) : State :=
  (s.withCp { s.cp with plans := [p] }).withCm { s.cm with own := [b] }

def withSeq (s : State) (st : SeqState) : State := s.withTs { s.ts with state := st }

/-- A booking of station 5 on element 9, number 8. -/
def desc5 : Desc :=
  { holder := 5, num := 8, cls := 1, stamp := 20, start := 99000, stop := 300000, antenna := some 7
    azimuth := none, steps := [(9, 0)] }

def rec5 (m : Mark) (announced : Nat) : PeerRec := { desc := desc5, announced := announced, mark := m }

def head5 : Head := { sender := 5, tick := 100000 }

/-! ## Examples of the manual -/

/-- The index examples of chapter 7. -/
theorem test_index_examples :
    (presetIndex 9565 7 = 30 ∧ presetIndex 9569 7 = 30 ∧ presetIndex 9810 0 = 30)
      ∧ presetIndex 9570 7 = 31 ∧ presetIndex 9565 2 = 59 ∧ presetIndex 2300 0 = 0
      ∧ presetIndex 26100 31 = 49 := by decide +kernel

/-- The window examples of chapter 7. -/
theorem test_window_examples :
    let w : FreqWindow := { enabled := true, base := 9500, k := 8 }
    let v : FreqWindow := { enabled := true, base := 25670, k := 4 }
    w.covers 9472 = true ∧ w.covers 9727 = true ∧ w.covers 9728 = false ∧ w.covers 9471 = false
      ∧ v.covers 25664 = true ∧ v.covers 25679 = true ∧ v.covers 25680 = false := by decide +kernel

/-- The estimate examples of chapter 3. -/
theorem test_estimate_examples :
    let w : SlewRec := { lo := 90, hi := 200, rate := 30, deflt := 120 }
    motionEstimate 240 [231, 248, 236, 244] = 279 ∧ motionEstimate 180 [] = 203
      ∧ motionEstimate 150 [142, 161] = 182
      ∧ w.time (some 120) 155 = 1167 ∧ w.time none 155 = 2167 := by decide +kernel

/-- The full queue example of chapter 2, from the CLAIM to the POSITION. -/
theorem test_full_queue_example :
    let pos : Frame := .position
      { kind := 0, item := 4, report := 1, value := some 1, motion := 0, reqStation := 255
        reqBooking := 255, reason := 0 }
    let mov : Frame := .move 0 9 1 1
    let bea : Frame := .beacon { phase := 2, seq := 0, profile := 7, stampCtr := 0, bookings := [] }
    let q := fun f : Frame => ({ frame := f, attempts := 0, sending := false } : QFrame)
    let s := run0.withHlc { run0.hlc with
      queue := (List.replicate 11 pos).map q ++ (List.replicate 3 mov).map q ++ (List.replicate 2 bea).map q }
    let s1 := s.offer (.claim desc1)
    let s2 := s1.1.offer bea
    let s3 := s2.1.offer (.release 1)
    let s4 := s3.1.offer (.air 1)
    let s5 := s4.1.offer pos
    (s1.2 = true ∧ s1.1.hlc.queue.length = 16 ∧ s1.1.hlc.queue.countP (fun x => isBeacon x.frame) = 1)
      ∧ (s2.2 = true ∧ s2.1 = s1.1)
      ∧ (s3.2 = true ∧ s3.1.hlc.queue.countP (fun x => isBeacon x.frame) = 0
        ∧ (s3.1.hlc.queue.drop 14).map QFrame.frame = [.release 1, .claim desc1])
      ∧ (s4.2 = true ∧ s4.1.hlc.slots = [.air 1] ∧ s5.2 = true ∧ s5.1.hlc.slots = [.air 1, pos]) := by
  decide +kernel

/-- Message examples, written out from the layouts of R200, R201 and R203: a RELEASE of booking 1 by station 2 at
tick 100000 (arbitration 100 0010, kind 5, length 1, tick 000186A0); the CRC 45055 comes from a
long division by the generator of R201. -/
theorem test_release_bits :
    frameCovered { sender := 2, tick := 100000 } (.release 1)
      = [true, false, false, false, false, true, false,
         false, false, false, false, false, true, false, true,
         false, false, false, false, false, false, false, true,
         false, false, false, false, false, false, false, false,
         false, false, false, false, false, false, false, true,
         true, false, false, false, false, true, true, false,
         true, false, true, false, false, false, false, false,
         false, false, false, false, false, false, false, true]
      ∧ crc (frameCovered { sender := 2, tick := 100000 } (.release 1)) = 45055#16
      ∧ linkCommand (frameBits { sender := 2, tick := 100000 } (.release 1))
        = .release { sender := 2, tick := 100000 } 1 := by decide +kernel

/-- The transmitter line (R203): UP with 250 kW and DOWN on TXD; TUNED, a wrong check byte, an unknown type and a FAULT
cause out of range on RXD. -/
theorem test_line_bytes :
    txBytes (.up 250) = [2, 5, 0, 250, 255] ∧ txBytes .down = [2, 7, 7]
      ∧ lineCommands .sync (([2, 65, 4, 0, 3, 33, 5, 110] : List Nat).map some)
        = [.tuned 1024 801 5]
      ∧ lineCommands .sync (([2, 67, 68] : List Nat).map some) = [.txReportDiscarded .badCheck]
      ∧ lineCommands .sync (([2, 9, 2, 68, 68] : List Nat).map some)
        = [.txReportDiscarded .badType, .rfOff]
      ∧ lineCommands .sync (([2, 70, 5, 75] : List Nat).map some) = [.txReportDiscarded .badField]
      ∧ lineCommands .sync [some 2, some 69, some 0, none, some 2, some 68, some 68]
        = [.txReportDiscarded .gap, .rfOff] := by decide +kernel

/-- Windows (R182): code 0 fetches, code 6 is SET-TIME, code 28 names no command; a window released before its first
byte is none. -/
theorem test_window_command :
    windowCommand [] = none ∧ windowCommand (bs [0, 0, 0]) = some (.fetch 3)
      ∧ windowCommand (bs [6, 6, 0, 1]) = some (.setTime (bs [6, 0, 1]))
      ∧ windowCommand (bs [28, 0]) = some (.unknownCommand (byte 28) (bs [0])) := by decide +kernel

/-! ## Ill-formed terms -/

theorem test_wf_desc_refuses :
    desc1.wf = true
      ∧ (([{ desc1 with holder := 256 }, { desc1 with num := 256 }, { desc1 with cls := 256 },
        { desc1 with stamp := 4294967296 }, { desc1 with start := 4294967296 },
        { desc1 with stop := 4294967296 }, { desc1 with antenna := some 255 },
        { desc1 with azimuth := some 65535 }, { desc1 with steps := [] },
        { desc1 with steps := List.replicate 7 (9, 1) }, { desc1 with steps := [(256, 1)] },
        { desc1 with steps := [(9, 256)] }] : List Desc).all fun d => d.wf == false) = true := by decide +kernel

theorem test_wf_position_refuses :
    let p : PosReport :=
      { kind := 0, item := 4, report := 1, value := some 1, motion := 0, reqStation := 255
        reqBooking := 255, reason := 0 }
    p.wf = true
      ∧ (([{ p with kind := 256 }, { p with item := 256 }, { p with report := 256 },
        { p with value := some 65535 }, { p with motion := 65536 }, { p with reqStation := 256 },
        { p with reqBooking := 256 }, { p with reason := 256 }] : List PosReport).all fun x =>
          x.wf == false) = true := by decide +kernel

theorem test_wf_beacon_refuses :
    let b : BeaconBody := { phase := 2, seq := 0, profile := 7, stampCtr := 0, bookings := [(desc1, 1)] }
    b.wf = true
      ∧ (([{ b with phase := 256 }, { b with seq := 256 }, { b with profile := 256 },
        { b with stampCtr := 4294967296 }, { b with bookings := List.replicate 6 (desc1, 1) },
        { b with bookings := [({ desc1 with steps := [] }, 1)] },
        { b with bookings := [(desc1, 256)] }] : List BeaconBody).all fun x => x.wf == false) = true := by
  decide +kernel

theorem test_wf_frame_refuses :
    (([.object 256 0 0, .object 0 256 0, .object 0 0 256, .air 256, .move 256 0 0 0, .move 0 256 0 0,
      .move 0 0 256 0, .move 0 0 0 65536, .release 256, .rampIntent 256 0, .rampIntent 0 4294967296,
      .rampCancel 256] : List Frame).all fun f => f.wf == false) = true := by decide +kernel

theorem test_wf_instr_refuses :
    (([.release { sender := 16, tick := 0 } 0, .release { sender := 1, tick := 4294967296 } 0,
      .release head5 256, .air head5 256, .rampCancel head5 256, .object head5 256 0 0,
      .move head5 256 0 0 0, .rampIntent head5 256 0, .claim head5 { desc1 with steps := [] },
      .beacon head5 { phase := 256, seq := 0, profile := 0, stampCtr := 0, bookings := [] },
      .position head5 { kind := 256, item := 0, report := 0, value := none, motion := 0
                        reqStation := 0, reqBooking := 0, reason := 0 },
      .peerAbsent 16, .motionTimeout true 8, .slewTimeout 512, .unbiddenChange .element 16 true 0,
      .unbiddenChange .element 0 true 8, .unbiddenChange .antenna 8 true 0,
      .unbiddenChange .antenna 0 true 512, .listenTimerEnd 256, .confirmTimerEnd 256, .planLateLimit 4,
      .tuned 4096 0 0, .tuned 0 4096 0, .tuned 0 0 16, .tuneFail 0, .tuneFail 256, .meter 65536 0,
      .meter 0 65536, .unknownCommand (byte 27) [], .fetch 0] : List Instr).all fun i =>
        i.wf == false) = true := by decide +kernel

/-- The table gives its rows no bits, so no word spells a command (assumption 2). -/
theorem test_no_word_spells : decodeTableWord 16 1234 = none
    ∧ (State.withFetchWord State.reset 16 1234) = State.reset := by decide +kernel

/-! ## The machine and hall time: a state for each statement's hypotheses -/

theorem witness_StepRunsFrontCommand :
    (State.reset.withPending [.tick, .pinReset]).pending = [.tick, .pinReset]
      ∧ nextOf (step (State.reset.withPending [.tick, .pinReset]))
        = after1 .tick (State.reset.withPending [.pinReset])
      ∧ nextOf (step run0) = run0 := by decide +kernel

theorem witness_CommandsAnswerAndKeepQueueAndInputs :
    movesInputs .tick = false ∧ (after1 .tick run0).pending = []
      ∧ (after1 .tick run0).pins = run0.pins
      ∧ (after1 (.rfSenseChange true) run0).pins = { run0.pins with rfs := true } := by decide +kernel

/-- The three clauses of a tick, at their boundary values: 98 and 99, and a free-run second that is the 600th. -/
theorem witness_TicksMakeSeconds :
    let t98 := run0.withTb { run0.tb with tis := 98 }
    let t99 := run0.withTb { run0.tb with tis := 99, sow := 604799, hourCtr := 3599 }
    let free := run0.withTb { run0.tb with freeMark := true, freeCount := 599, tis := 0 }
    (t98.tb.tis < 99 ∧ (after1 .tick t98).tb.tis = 99 ∧ (after1 .tick t98).tb.sow = 1000)
      ∧ (t99.tb.tis = 99 ∧ (after1 .tick t99).tb.tis = 0 ∧ (after1 .tick t99).tb.sow = 0
        ∧ (after1 .tick t99).tb.week = 1 ∧ (after1 .tick t99).tb.hourDue = 1
        ∧ (after1 .tick t99).tb.freeMark = true)
      ∧ (free.tb.freeMark = true ∧ free.tb.tis < 99 ∧ (after1 .tick free).tb.good = false
        ∧ (after1 .tick free).flags.poorTime = true ∧ (after1 .tick free).flags.ppsMissing = true
        ∧ (after1 .tick free).tb.freeCount = 600) := by decide +kernel

/-- Captures at the limit, outside the accept range by one cycle, and at its edge (9,800,000 for REFNOM 10000). -/
theorem witness_EdgesDisciplineClock :
    let s := fun c : Nat => run0.withTb { run0.tb with capCount := c, tis := 98 }
    (after1 (.ppsEdge 0) (s 20000000)).flags.ppsReject = false
      ∧ (after1 (.ppsEdge 0) (s 20000000)).tb.capCount = 0
      ∧ (after1 (.ppsEdge 0) (s 9799999)).flags.ppsReject = true
      ∧ (after1 (.ppsEdge 1) (s 9799999)).flags.ppsReject = false
      ∧ (after1 (.ppsEdge 1) (s 9799999)).tb.d = 98000 ∧ (after1 (.ppsEdge 1) (s 9799999)).tb.tis = 0
      ∧ (after1 (.ppsEdge 0) (s 10200000)).tb.d = 102000
      ∧ (after1 (.ppsEdge 0) (s 10200001)).flags.ppsReject = true := by decide +kernel

theorem witness_HoursAndIdleSecondsCount :
    let h := (run0.withTb { run0.tb with hourDue := 1 }).setPresetSet 30
      { PresetSet.reset with way0 := { Preset.reset with valid := true, age := 65535 } }
    let i := run0.withEd { run0.ed with
      idleDue := 1, elView := [(4, { ElView.fresh with idle := 259200 }), (9, ElView.fresh)] }
    (0 < h.tb.hourDue ∧ ((after1 .hourEvent h).presetSet 30).way0.age = 65535
        ∧ (after1 .hourEvent h).tb.hourDue = 0)
      ∧ (0 < i.ed.idleDue ∧ keysRise i.ed.elements = true ∧ ((after1 .idleSecond i).elv 4).idle = 259201
        ∧ ((after1 .idleSecond i).elv 9).idle = 0
        ∧ (after1 .idleSecond i).flags.elementOverdue = true) := by decide +kernel

/-- Stations 5 and 6 agree on an offset of 3 seconds and are more than half of three peers present. -/
theorem witness_OffsetMajorityStepsTime :
    let here : PeerEntry := { present := true, absence := some 900, heard := some (2, 0) }
    let s := (run0.withHlc { run0.hlc with
      presence := ((PeerEntry.reset :: run0.hlc.presence.drop 1).set 5 here).set 6 here }).withTb
        { run0.tb with offsets := run0.tb.offsets.set 6 (some 3) }
    let h : Head := { sender := 5, tick := 100342 }
    let b : BeaconBody := { phase := 2, seq := 0, profile := 7, stampCtr := 0, bookings := [] }
    let t := after1 (.beacon h b) s
    (s.quiet = true ∧ s.sp.phase = .running ∧ s.tb.timeSet = true ∧ s.cm.map = [] ∧ b.bookings = []
        ∧ s.hlc.presence.length = 16 ∧ h.sender < 16 ∧ h.sender ≠ s.cfg.stationId ∧ h.tick < 60480000)
      ∧ t.tb.sow = 1003 ∧ t.tb.offsets = List.replicate 16 none ∧ t.flags.timeStepped = true
      ∧ (after1 (.beacon { h with tick := 100242 } b) s).tb.skew = true := by decide +kernel

/-! ## The hall link -/

/-- A peer present with `n` ticks left on its absence timer. -/
def here (n : Nat) : PeerEntry := { present := true, absence := some n, heard := none }

def beaconFrame : Frame :=
  .beacon { phase := 2, seq := 0, profile := 7, stampCtr := 0, bookings := [] }

def queued (f : Frame) (n : Nat) (sending : Bool) : QFrame := { frame := f, attempts := n, sending := sending }

def sendState (q : List QFrame) (attempt : Option Nat) : State :=
  run0.withHlc { run0.hlc with queue := q, attempt := attempt, txErr := 31 }

theorem witness_FrameReadsBack :
    let h : Head := { sender := 15, tick := 4294967295 }
    let f : Frame := .beacon { phase := 255, seq := 0, profile := 7, stampCtr := 1, bookings := [(desc1, 4)] }
    h.wf = true ∧ f.wf = true ∧ readFrame (frameBits h f) = some (h, f) := by decide +kernel

theorem witness_OneFlippedBitIsBadFrame :
    (List.range (frameBits head5 (.air 8)).length).all (fun i =>
      linkCommand ((frameBits head5 (.air 8)).set i (!((frameBits head5 (.air 8))[i]?).getD false))
        == .badFrame) = true := by decide +kernel

theorem witness_AttemptsRunTheirCourse :
    let idle := sendState [queued beaconFrame 7 false] none
    let busy := sendState [queued beaconFrame 7 true] (some 99990)
    let claim := (sendState [queued (.claim desc1) 0 true] (some 99990)).withCm
      { run0.cm with own := [{ booking .tentative with sent := false }] }
    ((after1 .attemptStart idle).hlc.attempt = some 100000
        ∧ (after1 .attemptStart idle).hlc.queue = [queued beaconFrame 7 true])
      ∧ (after1 .lostArbitration busy).hlc.queue = [queued beaconFrame 7 false]
      ∧ ((after1 .attemptAbort busy).hlc.queue = [] ∧ (after1 .attemptAbort busy).hlc.txErr = 32)
      ∧ ((after1 .busyTimeout idle).hlc.queue = [] ∧ (after1 .busyTimeout idle).hlc.txErr = 32)
      ∧ ((after1 .frameSent busy).hlc.txErr = 0 ∧ (after1 .frameSent busy).hlc.seq = 1)
      ∧ (claim.cm.unsent.contains desc1.num = false
        ∧ (after1 .frameSent claim).cm.own = [{ booking .tentative with sent := true, listen := some 20 }]) := by
  decide +kernel

theorem witness_LinkFaultStopsStation :
    let s := withSeq ((withPlan run0 (plan1 .onAir) (booking .active)).withHlc
      { run0.hlc with txErr := 32, beaconT := some 3, presence := run0.hlc.presence.set 5 (here 900) }) .onAir
    let t := after1 .linkFaultEntry s
    s.hlc.txErr = 32 ∧ sendsIn s.sp.phase = true ∧ t.sp.phase = .linkFault ∧ t.ts.state = .down
      ∧ (t.peer 5).present = false ∧ t.inhibit = true ∧ t.flagWord.testBit 5 = true
      ∧ t.hlc.beaconT = none := by decide +kernel

theorem witness_FreedPlaceTakesPendingFrame :
    let s := run0.withHlc { run0.hlc with
      queue := List.replicate 15 (queued (.move 0 9 1 1) 0 false)
      slots := [.move 0 9 1 1, .air 1, .rampIntent 4 100500] }
    s.hlc.slots = [.move 0 9 1 1] ++ .air 1 :: [.rampIntent 4 100500]
      ∧ framePriority (.air 1) < framePriority (.move 0 9 1 1) ∧ s.owedItems = []
      ∧ (after1 .pendingSlotEmptied s).hlc.queue.head? = some (queued (.air 1) 0 false)
      ∧ (after1 .pendingSlotEmptied s).hlc.slots = [.move 0 9 1 1, .rampIntent 4 100500] := by decide +kernel

theorem witness_BadFramesCountGoodFramesNumber :
    let full := run0.withHlc { run0.hlc with rxErr := 255 }
    (after1 .badFrame full).hlc.rxErr = 255
      ∧ run0.goodFrame { sender := 2, tick := 0 } (.air 1) = false
      ∧ (after1 (.air { sender := 2, tick := 0 } 1) run0).hlc.rxErr = 1
      ∧ (station .config).goodFrame { sender := 2, tick := 0 } (.claim desc5) = true
      ∧ (after1 (.claim { sender := 2, tick := 0 } desc5) (station .config)).hlc.stamp = 20
      ∧ (after1 (.claim head5 desc5) (station .linkFault)).hlc.seq = 1 := by decide +kernel

theorem witness_BeaconAndJoiningTimersEnd :
    let s := run0.withHlc { run0.hlc with beaconT := some 0 }
    let j := (station .joining).withHlc { run0.hlc with joiningT := some 0 }
    (s.hlc.beaconT = some 0 ∧ s.hlc.queue.length + s.hlc.slots.length < 16
        ∧ (after1 .beaconTimer s).hlc.beaconT = some 500
        ∧ (after1 .beaconTimer s).hlc.queue = [queued beaconFrame 0 false])
      ∧ (j.hlc.joiningT = some 0 ∧ (after1 .joiningTimerEnd j).sp.phase = .running) := by decide +kernel

/-- Station 5's list carries its record 8 at another state and a new record 9; its older record 7 is pruned. -/
theorem witness_BeaconsKeepPeersAndRecords :
    let s := run0.withCm { run0.cm with
      map := [{ rec5 .heard 0 with desc := { desc5 with num := 7 } }, rec5 .heard 0,
        { rec5 .heard 0 with desc := { desc5 with holder := 6, num := 1, start := 310000, stop := 320000 } }] }
    let b : BeaconBody :=
      { phase := 2, seq := 4, profile := 8, stampCtr := 20
        bookings := [(desc5, 4), ({ desc5 with num := 9, start := 400000, stop := 410000 }, 1)] }
    let t := after1 (.beacon head5 b) s
    (s.goodFrame head5 (.beacon b) = true ∧ head5.sender < s.hlc.presence.length
        ∧ s.cm.map.length + b.bookings.length ≤ 64 ∧ recsRise s.cm.map = true)
      ∧ t.hlc.presence = s.hlc.presence.set 5 { present := true, absence := some 1500, heard := some (2, 4) }
      ∧ t.flags.profileMismatch = true ∧ t.peerRec 5 7 = none ∧ (t.peerRec 5 8).map PeerRec.announced = some 4
      ∧ (t.peerRec 5 9).isSome = true ∧ (t.peerRec 6 1).isSome = true := by decide +kernel

theorem witness_AbsentPeerLosesItsRecords :
    let s := ((run0.withHlc { run0.hlc with presence := run0.hlc.presence.set 5 (here 0) }).withCm
          { run0.cm with map := [rec5 .heard 0] }).withRl
            { run0.rl with intents := [{ station := 5, num := 1, tick := 100500, order := some 3, own := none }] }
    let t := after1 (.peerAbsent 5) s
    (5 < s.hlc.presence.length ∧ 5 ≠ s.cfg.stationId ∧ (s.peer 5).present = true
        ∧ (s.peer 5).absence = some 0)
      ∧ (t.peer 5).present = false ∧ t.cm.map = [] ∧ t.rl.intents = [] ∧ (t.elv 9).homeAbsent = true
      ∧ (t.elv 4).homeAbsent = false := by decide +kernel

/-! ## Elements and antennas -/

/-- Station 5's held booking 3 of home element 4, position 2, over now; a request for it. -/
def held4 : PeerRec :=
  { desc := { holder := 5, num := 3, cls := 2, stamp := 5, start := 99000, stop := 300000, antenna := some 3
              azimuth := some 150, steps := [(4, 2)] }
    announced := 2, mark := .heard }

def request4 : Request := { item := 4, target := 2, station := 5, booking := 3 }
def request3 : Request := { item := 3, target := 150, station := 5, booking := 3 }

/-- Station 2 whose lines show element 4 at a code and antenna 3 at an azimuth. -/
def showing (code az : Nat) (s : State) : State :=
  s.withPins { s.pins with elLines := s.pins.elLines.set 0 (true, code), anLines := s.pins.anLines.set 0 az }

def holding : State := run0.withCm { run0.cm with map := [held4] }

theorem witness_DriveTurnMovesElement :
    let s := holding.withEd { holding.ed with driveQ := [request4] }
    let e : ElementRec := { home := 2, count := 4, rating := 300, nominal := 100, inService := true }
    (s.sp.phase = .running ∧ s.ed.exercise = none ∧ s.ed.motion = none ∧ s.element 4 = some e
        ∧ (s.withEd { s.ed with driveQ := [] }).turnRefusal .element request4 = none)
      ∧ ((s.sensedPos 4 ≠ some 2)
        ∧ (after1 .driveTurn s).ed.motion = some { req := request4, count := 0, timer := 300 }
        ∧ ((after1 .driveTurn s).elv 4).state = .moving ∧ (after1 .driveTurn s).etgt = 2)
      ∧ (((showing 2 120 s).sensedPos 4 = some 2) ∧ (after1 .driveTurn (showing 2 120 s)).ed.motion = none
        ∧ ((after1 .driveTurn (showing 2 120 s)).elv 4).pos = some 2) := by decide +kernel

theorem witness_MotionsEnd :
    let m : Motion := { req := request4, count := 0, timer := 0 }
    let s := holding.withEd { holding.ed with
      motion := some m, elView := [(4, { ElView.fresh with state := .moving, history := [7, 8, 9, 10] }),
        (9, ElView.fresh)] }
    let t := after1 .targetSensed s
    let u := after1 (.motionTimeout true 7) s
    let v := after1 (.motionTimeout true 3) s
    ((s.elv 4).history.length ≤ 4 ∧ (t.elv 4).state = .set ∧ (t.elv 4).pos = some 2
        ∧ (t.elv 4).history = [8, 9, 10, 1] ∧ (t.elv 4).motion = 1 ∧ t.ed.motion = none)
      ∧ (m.timer = 0 ∧ channelOf 4 s.ed.elChan = some 0 ∧ 0 < s.pins.elLines.length
        ∧ (u.elv 4).state = .fault ∧ (u.elv 4).pos = none ∧ (v.elv 4).pos = some 3
        ∧ (v.elv 4).history = [7, 8, 9, 10]) := by decide +kernel

theorem witness_SlewStartsAndEnds :
    let s := holding.withEd { holding.ed with slewQ := [request3] }
    let m := fun n : Nat => holding.withEd { holding.ed with slew := some { req := request3, timer := n } }
    ((s.withEd { s.ed with slewQ := [] }).turnRefusal .antenna request3 = none ∧ s.sensedAz 3 ≠ some 150
        ∧ channelOf 3 s.ed.anChan = some 0 ∧ 0 < s.pins.anLines.length
        ∧ (after1 .slewTurn s).ed.slew = some { req := request3, timer := 2100 }
        ∧ (after1 .slewTurn s).aslw = some (0, some true))
      ∧ ((after1 .slewTargetSensed (m 3)).anv 3).az = some 150
      ∧ ((after1 (.slewTimeout 360) (m 0)).anv 3).state = .fault
      ∧ ((after1 (.slewTimeout 360) (m 0)).anv 3).az = none
      ∧ ((after1 (.slewTimeout 359) (m 0)).anv 3).az = some 359 := by decide +kernel

theorem witness_UnbiddenChangeFaultsItem :
    let t := after1 (.unbiddenChange .element 0 true 3) run0
    let o := run0.withEd { run0.ed with elView := [(4, { ElView.fresh with state := .out }), (9, ElView.fresh)] }
    let u := after1 (.unbiddenChange .antenna 0 true 511) run0
    (run0.ed.elChan[0]? = some 4 ∧ run0.sensedPos 4 = some 0 ∧ (t.elv 4).state = .fault
        ∧ (t.elv 4).pos = some 3)
      ∧ after1 (.unbiddenChange .element 0 true 7) o
        = o.withPins { o.pins with elLines := o.pins.elLines.set 0 (true, 7) }
      ∧ (run0.ed.anChan[0]? = some 3 ∧ run0.sensedAz 3 = some 120 ∧ (u.anv 3).state = .fault
        ∧ (u.anv 3).az = none) := by decide +kernel

theorem witness_RequestsAndReportsOfItems :
    let p : PosReport :=
      { kind := 0, item := 9, report := 1, value := some 0, motion := 120, reqStation := 255
        reqBooking := 255, reason := 0 }
    let a : PosReport := { p with kind := 1, item := 7, report := 2, value := some 5, motion := 0 }
    let t := after1 (.position head5 p) run0
    (dispatchesIn holding.sp.phase = true ∧ head5.sender ≠ holding.cfg.stationId
        ∧ holding.requestRefusal .element request4 = none ∧ holding.handling .element request4 = .append
        ∧ (after1 (.move head5 0 4 3 2) holding).ed.driveQ = [request4])
      ∧ (holding.requestRefusal .antenna request3 = none
        ∧ (after1 (.move head5 1 3 3 150) holding).ed.slewQ = [request3])
      ∧ ((after1 (.move head5 0 4 3 4) holding).hlc.queue.map QFrame.frame = [.position
          { kind := 0, item := 4, report := 4, value := some 4, motion := 0, reqStation := 5
            reqBooking := 3, reason := 1 }])
      ∧ (after1 (.move head5 2 4 3 2) holding).ed = holding.ed
      ∧ (run0.homeOf .element 9 = some 5 ∧ (t.elv 9).state = .set ∧ (t.elv 9).pos = some 0
        ∧ (t.elv 9).history = [120])
      ∧ (after1 (.position { head5 with sender := 6 } p) run0).ed = run0.ed
      ∧ ((after1 (.position head5 a) run0).anv 7).state = .fault := by decide +kernel

/-! ## Bookings -/

theorem witness_RankIsStrictOrder :
    let x : Standing := { committed := true, cls := 1, stamp := 9, holder := 9 }
    x.ahead { x with committed := false, cls := 3 } = true ∧ x.ahead { x with holder := 10 } = true
      ∧ x.ahead x = false ∧ ({ x with cls := 2 } : Standing).ahead x = true
      ∧ ({ x with stamp := 8 } : Standing).ahead x = true := by decide +kernel

def claim5 : Desc := { desc5 with num := 20, stamp := 30 }

theorem witness_ClaimsArePlacedAndDisplace :
    let strong := run0.withCm { run0.cm with own := [booking .moving] }
    let weak := run0.withCm { run0.cm with map := [{ rec5 .heard 0 with
      desc := { desc5 with holder := 6, cls := 3 } }] }
    let low := run0.withCm { run0.cm with
      own := [{ booking .booked with desc := { desc1 with cls := 1, stamp := 40 } }] }
    let c := Instr.claim head5 claim5
    (strong.goodFrame head5 (.claim claim5) = true ∧ claim5.readable = true ∧ recsRise weak.cm.map = true
        ∧ low.quiet = true ∧ weak.peerRec 5 20 = none)
      ∧ ((after1 c strong).peerRec 5 20).map PeerRec.mark = some .objected
      ∧ ((after1 c weak).peerRec 5 20).map PeerRec.mark = some .yielded
      ∧ (((after1 c low).peerRec 5 20).map PeerRec.mark = some .heard ∧ (after1 c low).cm.own = []
        ∧ (after1 c low).hlc.queue.map QFrame.frame = [.release 1] ∧ (after1 c low).cp = low.cp) := by
  decide +kernel

theorem witness_ObjectAndAirAct :
    let b := run0.withCm { run0.cm with own := [booking .booked] }
    let m := run0.withCm { run0.cm with own := [booking .moving] }
    let r := run0.withCm { run0.cm with map := [rec5 .objected 1] }
    (b.quiet = true ∧ b.ownBooking 1 = some (booking .booked)
        ∧ after1 (.object head5 2 1 8) b = (b.withHlc { b.hlc with
            seq := 1, queue := enqueue [] (.release 1) }).withCm { b.cm with own := [] }
        ∧ after1 (.object head5 3 1 8) b = b.withHlc { b.hlc with seq := 1 })
      ∧ after1 (.object head5 2 1 8) m = m.withHlc { m.hlc with seq := 1 }
      ∧ (after1 (.air head5 8) r).peerRec 5 8 = some (rec5 .active 4)
      ∧ after1 (.air head5 9) r = r.withHlc { r.hlc with seq := 1 } := by decide +kernel

theorem witness_RecordsAndIntentsLeave :
    let many := (List.range 49).map fun n => { rec5 .heard 0 with desc := { desc5 with num := n } }
    let s := run0.withCm { run0.cm with map := many, horizon := some 900000 }
    let old := run0.withCm { run0.cm with
      map := [{ rec5 .heard 0 with desc := { desc5 with stop := 100000 } },
        { rec5 .heard 0 with desc := { desc5 with num := 9, stop := 100001 } }] }
    let i := run0.withRl { run0.rl with
      intents := [{ station := 2, num := 4, tick := 99000, order := none, own := some .unsent },
        { station := 5, num := 4, tick := 99001, order := some 1, own := none }]
      request := some { plan := 0, desired := 99000, lowest := 99000, limit := 110000, bySeq := false
                        waiting := false } }
    ((after1 (.release head5 48) s).cm.map.length = 48 ∧ (after1 (.release head5 48) s).cm.horizon = none)
      ∧ ((after1 (.release head5 50) s).cm = s.cm)
      ∧ ((after1 .peerRecordExpiry old).cm.map.map fun r => r.desc.num) = [9]
      ∧ ((after1 .intentExpiry i).rl.intents.map Intent.station = [5]
        ∧ (after1 .intentExpiry i).rl.request = none) := by decide +kernel

theorem witness_ListenAndConfirmTimersEnd :
    let s := withPlan run0 (plan1 .routing) { booking .tentative with listen := some 0 }
    let m := withPlan run0 (plan1 .switching) { booking .moving with confirm := some 0 }
    (s.ownBooking 1 = some { booking .tentative with listen := some 0 } ∧ s.ts.state = .idle
        ∧ s.plan 0 = some (plan1 .routing)
        ∧ after1 (.listenTimerEnd 1) s = withPlan run0 (plan1 .ready) (booking .booked))
      ∧ (m.stands desc1 = true
        ∧ (m.predict { plan1 .switching with tunedAt := some 100000, state := .tuning } 100000 0).beyond = false
        ∧ ((after1 (.confirmTimerEnd 1) m).ownBooking 1).map OwnBooking.state = some .confirmed
        ∧ (after1 (.confirmTimerEnd 1) m).ts.sent = [.set 9565 3, .autotune]
        ∧ (after1 (.confirmTimerEnd 1) m).ts.state = .tuning)
      ∧ (after1 (.confirmTimerEnd 1) (withPlan run0 (plan1 .onAir)
          { booking .moving with confirm := some 0 })).ts.sent = [] := by decide +kernel

theorem witness_OwnUntilRemovesOrExtends :
    let b := fun (n start : Nat) (st : BkState) =>
      ({ booking st with desc := { desc1 with num := n, start := start, stop := 100000 } } : OwnBooking)
    let s := run0.withCm { run0.cm with own := [b 1 99000 .booked, b 2 99000 .moving, b 3 51581500 .moving] }
    s.quiet = true ∧ (s.cm.own.map fun b => b.desc.num).Nodup
      ∧ ((after1 .ownBookingUntil s).cm.own.map fun x => (x.desc.num, x.desc.stop))
        = [(2, 101500), (3, 101500)]
      ∧ ((after1 .ownBookingUntil (s.withCm { s.cm with own := [b 3 51581499 .moving] })).cm.own.map
          fun x => x.desc.stop) = [100000] := by decide +kernel

/-! ## Ramps -/

theorem witness_WindowRuleCoversEveryWindow :
    windowRule 2 1000 [99500, 100500] 100000 = true ∧ windowRule 2 1000 [99500, 100499] 100000 = false
      ∧ windowRule 2 1000 [100999, 98000] 100000 = true ∧ 0 < 1000 := by decide +kernel

theorem witness_PeerIntentsEnterAndLeave :
    let x : Intent := { station := 5, num := 4, tick := 100500, order := some 1, own := none }
    let s := run0.withRl { run0.rl with intents := [x] }
    let t := after1 (.rampIntent head5 4 100200) s
    (run0.intentOutOfSpan 99000 = true ∧ (after1 (.rampIntent head5 4 99000) run0).rl = run0.rl)
      ∧ (s.intentOutOfSpan 99001 = false ∧ t.rl.intents = [{ x with tick := 100200 }])
      ∧ ((after1 (.rampIntent head5 5 99001) s).rl.intents.map Intent.tick) = [99001, 100500]
      ∧ (after1 (.rampCancel head5 4) s).rl.intents = [] := by decide +kernel

/-- Station 2, TUNED, with its plan in RAMP-WAIT and an ANNOUNCED intent due now. -/
def checking (others : List Nat) : State :=
  let p := { plan1 .rampWait with intent := some (4, 100000) }
  (withSeq (withPlan run0 p (booking .confirmed)) .tuned).withRl { run0.rl with
    intents := others.map (fun t => ({ station := 5, num := t % 256, tick := t, order := some 1, own := none } : Intent))
      ++ [{ station := 2, num := 4, tick := 100000, order := some 2, own := some .announced }] }

theorem witness_StartCheckCountsRecentIntents :
    let one := checking [99001]
    let two := checking [99001, 99500]
    (one.checkReady.isSome = true ∧ (after1 .startCheck one).ts.sent = [.up 250]
        ∧ (after1 .startCheck one).ts.state = .ramping
        ∧ (after1 .startCheck one).hlc.queue.map QFrame.frame = [.air 1])
      ∧ (two.checkReady.isSome = true ∧ (after1 .startCheck two).ts.sent = [])
      ∧ (after1 .startCheck (checking [99000, 99500])).ts.sent = [.up 250] := by decide +kernel

theorem witness_UpOnlyAfterPassedStartCheck :
    let s := checking []
    exec .startCheck s = .next (after1 .startCheck s) ∧ (after1 .startCheck s).ts.sent = s.ts.sent ++ [.up 250]
      ∧ .up 250 ∈ [TxMsg.up 250] := by
  refine ⟨rfl, ?_, ?_⟩ <;> decide +kernel

/-! ## Tables and plans -/

/-- Table place 2: Sunday 00:20, 10 minutes, antenna 3; its air start is tick 120000. -/
def entry2 : Entry :=
  { minute := 20, days := 1, dur := 10, freq := 9565, ant := 3, az := none, power := 250, program := 3
    cls := 2, cancelled := false, mark := none }

def loaded (s : State) : State :=
  s.withSs { s.ss with active := { s.ss.active with entries := [(2, entry2)] } }

theorem witness_PlanningInstantTakesOccurrence :
    let s := (loaded run0).withEd { run0.ed with routes := [] }
    let l := withSeq s .lockout
    (s.openOccs = [.table 2 0] ∧ s.tableOpen entry2 0 = true ∧ s.routesTo 3 = [] ∧ s.inWindow 9565 = false
        ∧ s.isDual 9565 3 = false ∧ (s.presetSet (presetIndex 9565 3)).find 9565 3 = none
        ∧ s.cfg.pFlr ≤ min (min entry2.power s.cfg.pMax) 400
        ∧ ((after1 .planningInstant s).cp.plans.map fun p => (p.a, p.z, p.late, p.state))
          = [(120000, 180000, 126000, .blocked)])
      ∧ (l.openOccs = [.table 2 0] ∧ (after1 .planningInstant l).cp.plans = []
        ∧ ((after1 .planningInstant l).sp.airLog.map fun r => (r.outcome, r.cause))
          = [(.missed, some .lockout)]) := by decide +kernel

theorem witness_LateLimitsAndEnds :
    let s0 := loaded run0
    let s := (s0.withSs { s0.ss with lateDue := [.table 2 0] }).withTb { s0.tb with sow := 1260 }
    let x : AdHoc :=
      { start := 40000, dur := 10, freq := 9565, ant := 7, az := none, power := 250, program := 3, cls := 3
        taken := false }
    let a := (station .halted).withSs { run0.ss with adhoc := [(0, x), (1, { x with dur := 11 })], endDue := [0, 1] }
    let p := { plan1 .blocked with late := 100000, booking := none }
    let b := run0.withCp { run0.cp with plans := [p] }
    let w := withSeq (withPlan run0 { plan1 .rampWait with late := 100000 } (booking .confirmed)) .tuned
    (s.tableUnhandled entry2 0 = true ∧ absDue (120000 + s.cfg.tLATE) s.absNow = true
        ∧ ((after1 .occurrenceLateLimit s).sp.airLog.map fun r => (r.a, r.outcome, r.cause))
          = [(120000, .missed, some .lateLimit)])
      ∧ ((after1 .adHocEnd a).ss.adhoc.map Prod.fst) = [1]
      ∧ (due p.late b.now = true ∧ b.openOccs = [] ∧ (after1 (.planLateLimit 0) b).cp.plans = []
        ∧ ((after1 (.planLateLimit 0) b).sp.airLog.map fun r => (r.outcome, r.cause))
          = [(.missed, some .noRoute)])
      ∧ (w.currentPlan = some { plan1 .rampWait with late := 100000 } ∧ (after1 (.planLateLimit 0) w).ts.state = .down
        ∧ ((after1 (.planLateLimit 0) w).plan 0).map Plan.pendOut = some (some .missed)
        ∧ ((after1 (.planLateLimit 0) w).ownBooking 1).map OwnBooking.state = some .ending) := by decide +kernel

theorem witness_ChangeoverSwapsTables :
    let s0 := loaded (station .halted)
    let s := s0.withSs { s0.ss with arm := some (0, 1000) }
    let later := s0.withSs { s0.ss with arm := some (0, 1001) }
    absDue (0 * 60480000 + 1000 * 100) s.absNow = true
      ∧ (after1 .changeoverInstant s).ss.active = { entries := [], floor := some 100000 }
      ∧ (after1 .changeoverInstant s).ss.pending = s0.ss.active
      ∧ absDue (0 * 60480000 + 1001 * 100) s.absNow = false ∧ after1 .changeoverInstant later = later := by
  decide +kernel

theorem witness_SwitchingAndGuardTimer :
    let s := (withPlan run0 (plan1 .ready) (booking .booked)).withEd { run0.ed with
      elView := [(4, ElView.fresh), (9, { ElView.fresh with state := .set, pos := some 0 })] }
    let t := after1 .switchingStart s
    let g := run0.withCp { run0.cp with guardT := some 0, plans := [plan1 .ending] }
    (s.switchReady = some (plan1 .ready) ∧ (∀ m ∈ s.planMoves (plan1 .ready), s.isHome m.1 m.2.1 = false)
        ∧ (s.predict { plan1 .ready with switchedAt := some 100000 } 100000
          (s.pathTime 7 none (s.routeSteps (plan1 .ready)))).beyond = false
        ∧ t.hlc.queue.map QFrame.frame = [.move 0 9 1 1] ∧ (t.plan 0).map Plan.state = some .switching
        ∧ (t.ownBooking 1).map OwnBooking.state = some .moving)
      ∧ ((∀ p ∈ g.cp.plans, p.state.waiting = false)
        ∧ after1 .guardTimerEnd g = g.withCp { g.cp with guardT := none }) := by decide +kernel

theorem witness_AirStartsAndEnds :
    let p := { plan1 .onAir with a := 100000, firstFull := some 99990 }
    let q := { plan1 .onAir with a := 90000, z := 100000, firstFull := some 90010, progDone := true }
    let s := withSeq (withPlan run0 p (booking .active)) .onAir
    let e := withSeq (withPlan run0 q (booking .active)) .onAir
    let e := e.withPins { e.pins with rfs := true }
    (due p.a s.now = true ∧ (after1 .airStart s).ts.psel = 3
        ∧ (after1 .airStart s).cp.plans = [{ p with progDone := true }])
      ∧ (due q.z e.now = true ∧ q.firstFull ≠ none ∧ (after1 .airEnd e).ts.sent = [.down]
        ∧ (after1 .airEnd e).ts.state = .down ∧ (after1 .airEnd e).inhibit = true
        ∧ ((after1 .airEnd e).ownBooking 1).map OwnBooking.relPending = some true) := by decide +kernel

theorem witness_ContinuationTakesOver :
    let q := { plan1 .onAir with a := 90000, z := 100000, firstFull := some 90010, progDone := true }
    let c := { plan1 .ready with
      id := 1, a := 100000, absA := 100000, booking := some 2, cont := true, program := 4, cmdPower := some 200 }
    let bc : OwnBooking :=
      { booking .booked with desc := { desc1 with num := 2, start := 100000 }, req := .plan 1 }
    let s := withSeq ((run0.withCp { run0.cp with plans := [q, c] }).withCm
      { run0.cm with own := [booking .active, bc] }) .onAir
    let s := s.withTs { s.ts with p := 250, ceiling := 250 }
    let t := after1 .airEnd s
    (c.precedes c = false ∧ q.precedes c = true ∧ s.stands desc1 = true ∧ s.openOccs = [])
      ∧ t.ts.state = .onAir ∧ t.ts.psel = 4 ∧ t.ts.sent = [.power 200] ∧ t.ts.ceiling = 200
      ∧ t.cm.own = [{ bc with state := .active }] ∧ t.hlc.queue.map QFrame.frame = [.air 2]
      ∧ (t.cp.plans = [{ c with state := .onAir, firstFull := some 100000, progDone := true }])
      ∧ t.sp.airLog = [q.record q.ending.1 q.ending.2] := by decide +kernel

/-! ## Presets -/

def preset9565 : Preset :=
  { valid := true, freq := 9565, ant := 7, tune := 100, load := 200, band := 6, age := 99, hits := 255 }

def withSet30 (x : PresetSet) : State := run0.setPresetSet 30 x

theorem witness_LookupAnswersByFirstTest :
    let one := withSet30 { PresetSet.reset with way1 := preset9565 }
    let dual := withSet30 { PresetSet.reset with way0 := preset9565, way1 := preset9565, pin1 := 2 }
    let flush := one.withPd { one.pd with flush := true }
    let win := one.withPd { one.pd with windows := [{ enabled := true, base := 9500, k := 8 }] }
    let old := withSet30 { PresetSet.reset with way1 := { preset9565 with age := 100 } }
    one.pd.sets.length = 64
      ∧ (one.lookup 9565 7).2 = { outcome := .fresh, pin := some (30, 1) }
      ∧ ((one.lookup 9565 7).1.presetSet 30).pin1 = 1 ∧ ((one.lookup 9565 7).1.presetSet 30).lru = 0
      ∧ (old.lookup 9565 7).2.outcome = .stale ∧ (one.lookup 9570 7).2.outcome = .miss
      ∧ (win.lookup 9565 7).2.outcome = .nopreset
      ∧ ((flush.lookup 9565 7).2.outcome = .miss ∧ ((flush.lookup 9565 7).1.presetSet 30).way1.valid = false)
      ∧ ((dual.lookup 9565 7).2.outcome = .miss ∧ (dual.lookup 9565 7).1.pd.latch = some (30, 9565, 7)
        ∧ (dual.lookup 9565 7).1.flags.directoryError = true
        ∧ ((dual.lookup 9565 7).1.presetSet 30).pin1 = 0) := by decide +kernel

/-! ## The sequencer -/

theorem witness_TuneEndsEitherWay :
    let s := withSeq (withPlan run0 { plan1 .tuning with tunedAt := some 99000 } (booking .confirmed)) .tuning
    let s := (s.withRl { s.rl with intents := [{ station := 2, num := 4, tick := 100000, order := some 2
                                                 own := some .announced }] }).setPresetSet 30
      { PresetSet.reset with way1 := preset9565 }
    let s := s.withTs { s.ts with tuneT := some 0 }
    let t := after1 (.tuned 101 201 7) s
    (s.pathWhole = true ∧ s.pendingIntent.isSome = true ∧ t.ts.state = .tuned
        ∧ (t.plan 0).map Plan.state = some .rampWait
        ∧ (t.presetSet 30).way1 = { preset9565 with tune := 101, load := 201, band := 7, age := 0 })
      ∧ (s.ts.tuneFailed = false ∧ (after1 (.tuneFail 9) s).ts.state = .down
        ∧ ((after1 (.tuneFail 9) s).plan 0).map (fun q => (q.pendOut, q.cause)) = some (some .aborted, some .tune))
      ∧ (after1 (.tuneFail 9) s).ts.lastTuneFail = some 9
      ∧ (after1 .tuneTimeout s).ts.sent = [.down] := by decide +kernel

theorem witness_AtPowerGoesOnAir :
    let p := { plan1 .ramping with lostOpen := some 99000, lostAir := 5, firstFull := some 98000 }
    let s := withSeq (withPlan run0 { p with a := 90000 } (booking .active)) .ramping
    let t := after1 .atPower s
    s.pathWhole = true ∧ t.ts.state = .onAir ∧ t.inhibit = false ∧ t.ts.psel = 3
      ∧ (t.plan 0).map (fun q => (q.firstFull, q.lostAir, q.lostOpen)) = some (some 98000, 1005, none) := by
  decide +kernel

theorem witness_ProtectionCausesTrip :
    let s := withSeq (withPlan run0 (plan1 .onAir) (booking .active)) .onAir
    let two := s.withTs { s.ts with tripLog := [(40000, .arc), (40001, .arc), (99000, .arc)] }
    let r := withSeq s .ramping
    let r := r.withTs { r.ts with atpT := some 0, meterGap := some 200, floorT := some 0 }
    let d := withSeq s .down
    let d := d.withPins { d.pins with rfs := true }
    let d := d.withTs { d.ts with rfoffT := some 0, strayT := some 0 }
    ((after1 (.fault .arc) s).ts.state = .tripped ∧ (after1 (.fault .arc) s).ts.tripLog = [(100000, .arc)])
      ∧ ((after1 (.meter 10 1) two).ts.state = .lockout
        ∧ (after1 (.meter 10 1) two).ts.tripLog = [(40001, .arc), (99000, .arc), (100000, .reflected)]
        ∧ (after1 (.meter 10 1) two).ts.sent = [.down])
      ∧ ((after1 (.meter 9 100) s).ts.tripLog = [(100000, .reflectedAbs)])
      ∧ ((after1 .atPowerTimeout r).ts.tripLog = [(100000, .rampTimeout)])
      ∧ ((after1 .meterTimeout r).ts.tripLog = [(100000, .meter)])
      ∧ ((after1 .foldFloor r).ts.tripLog = [(100000, .foldFloor)])
      ∧ ((after1 .rfOffTimeout d).ts.tripLog = [(100000, .rfHold)] ∧ (after1 .rfOffTimeout d).ts.sent = [.down])
      ∧ ((after1 .strayRfTimeout d).ts.tripLog = [(100000, .rfHold)]) := by decide +kernel

theorem witness_MeterFoldsWatchesRecovers :
    let s := withSeq run0 .onAir
    let s := s.withTs { s.ts with p := 250, ceiling := 250, meterGap := some 30, meterLost := true }
    let at_ := fun p : Nat => s.withTs { s.ts with p := p }
    (s.cfg.pfMin ≤ 200 ∧ s.cfg.qWrn ≤ 1000 * 10 / 200 ∧ (after1 (.meter 200 10) s).ts.sent = [.power 225]
        ∧ (after1 (.meter 200 10) s).ts.p = 225 ∧ (after1 (.meter 200 10) s).ts.foldCount = 1)
      ∧ (after1 (.meter 200 10) (at_ 50)).ts.floorT = some 50
      ∧ (after1 (.meter 200 4) (at_ 200)).ts.recT = some 1000
      ∧ (after1 (.meter 200 5) (at_ 200)).ts.recT = none
      ∧ (after1 (.meter 200 5) s).ts.meterLost = false := by decide +kernel

theorem witness_SequencerTimersAct :
    let s := withSeq run0 .onAir
    let s := s.withTs { s.ts with
      p := 200, ceiling := 210, foldT := some 0, recT := some 0, meterGap := some 20, lineErr := 255
      tripLog := [(40000, .arc), (40001, .arc)] }
    (after1 .foldIntervalEnd s).ts.foldT = none
      ∧ ((after1 .recovery s).ts.p = 210 ∧ (after1 .recovery s).ts.recT = none
        ∧ (after1 .recovery s).ts.sent = [.power 210])
      ∧ (after1 .meterLost s).ts.meterLost = true
      ∧ (after1 (.txReportDiscarded .gap) s).ts.lineErr = 255
      ∧ (after1 .tripLogExpiry s).ts.tripLog = [(40001, .arc)] := by decide +kernel

theorem witness_RfOffReturnsToIdle :
    let low := withSeq run0 .down
    let low := low.withTs { low.ts with rfoffT := some 0, lineErr := 4 }
    let high := low.withPins { low.pins with rfs := true }
    let held := run0.withCm { run0.cm with own := [{ booking .ending with relPending := true }] }
    let held := held.withPins { held.pins with rfs := true }
    (after1 .rfOff low).ts.state = .idle
      ∧ ((after1 .rfOffTimeout low).ts.state = .idle ∧ (after1 .rfOffTimeout low).ts.lineErr = 5)
      ∧ ((after1 .rfOff high).ts.rfOffTaken = true ∧ (after1 .rfOff high).ts.state = .down
        ∧ (after1 (.rfSenseChange false) (after1 .rfOff high)).ts.state = .idle)
      ∧ (held.quiet = true ∧ (after1 (.rfSenseChange false) held).cm.own = [])
      ∧ (after1 (.rfSenseChange true) run0).ts.strayT = some 400 := by decide +kernel

theorem witness_RestartDelayPicksOrAbandons :
    let s := withSeq (withPlan run0 (plan1 .rampWait) (booking .active)) .tripped
    let s := s.withTs { s.ts with restartT := some 0, p := 180, upSent := true }
    let n := (withSeq run0 .tripped).withTs { run0.ts with state := .tripped, restartT := some 0 }
    let t := after1 .restartDelayEnd s
    (s.currentPlan = some (plan1 .rampWait) ∧ s.pathWhole = true ∧ s.pendingIntent = none
        ∧ s.findTick { plan := 0, desired := 100000, lowest := 100000, limit := 430000, bySeq := true
                       waiting := false } = some 100000
        ∧ t.ts.state = .tuned ∧ t.ts.upSent = true ∧ t.ts.p = 180
        ∧ t.hlc.queue.map QFrame.frame = [.rampIntent 1 100000])
      ∧ (n.currentPlan = none ∧ (after1 .restartDelayEnd n).ts.state = .idle) := by decide +kernel

theorem witness_LockoutHoldsRfOff :
    let s := withSeq run0 .lockout
    let m := s.withSp { s.sp with resp := .busy, taken := some { code := 25, payload := [], answer := none } }
    s.ts.lockedStill = true ∧ exec .tick s = .next (after1 .tick s) ∧ (after1 .tick s).inhibit = true
      ∧ (after1 .commandCompletion m).ts.state = .idle := by
  refine ⟨?_, rfl, ?_, ?_⟩ <;> decide +kernel

/-! ## The schedule port -/

def config : State := station .config

/-- The window of a payload, with one byte too many clocked in. -/
def win (l : List Nat) : List Byte := hostWindow (bs l) (bs [85])

/-- The status of the response READY. -/
def status (s : State) : Option Status := s.sp.response.map Response.status

theorem witness_WindowsAreJudgedInOrder :
    let busy := config.withSp { config.sp with resp := .busy }
    let ready := config.withSp { config.sp with resp := .ready, response := some { status := .ok, payload := [] } }
    windowCommand (bs [7, 0]) = some (.start (bs [0]))
      ∧ after1 (.start (bs [0])) busy
        = (busy.withSp { busy.sp with rx := bs [7, 0], sdo := bs [1, 0] }).withFlags { busy.flags with collision := true }
      ∧ ((after1 (.start (bs [0])) ready).flags.overrun = true
        ∧ (after1 (.start (bs [0])) ready).sp.resp = .busy
        ∧ (after1 (.start (bs [0])) ready).sp.sdo = bs [2, 0])
      ∧ status (served (.start (bs [1])) config) = some .badArg
      ∧ status (served (.start []) config) = some .badArg
      ∧ status (served (.setTime (bs [6, 0, 1, 0, 0, 2])) config) = some .badArg
      ∧ status (served (.start (bs [0])) run0) = some .badPhase
      ∧ status (served (.unknownCommand (byte 28) []) config) = some .unknown := by decide +kernel

theorem witness_FetchShiftsResponseOut :
    let r : AirRecord := bareRecord (.table true 2) 120000 .missed (some .lateLimit)
    let s := run0.withSp { run0.sp with airLog := [r, r] }
    let t := served (.readLog (win [])) s
    (t.sp.resp = .ready ∧ t.sp.hold = true
        ∧ t.sp.response = some { status := .ok, payload := bs ([1, 1, 0, 2, 0, 1, 212, 192, 3]
            ++ List.replicate 12 0 ++ [255, 255, 0, 0, 0, 0, 0, 2]) })
      ∧ ((after1 (.fetch 31) t).sp.resp = .empty ∧ (after1 (.fetch 31) t).sp.airLog = [r])
      ∧ ((after1 (.fetch 30) t).sp.resp = .ready ∧ (after1 (.fetch 30) t).sp.airLog = [r, r])
      ∧ (after1 (.fetch 3) run0).sp.sdo = bs [0, 0, 0] := by decide +kernel

/-- SET-STATION with id 3, profile 9, 5 s, 205 ms, 2, 10 s, 9000 kHz; then with the beacon interval at 31 s. -/
theorem witness_StationAndTimeAreSet :
    let t := served (.setStation (win [3, 9, 5, 0, 205, 2, 10, 35, 40])) config
    let u := served (.setStation (win [3, 9, 31, 0, 205, 2, 10, 35, 40])) config
    let v := served (.setTime (win [1, 2, 0, 0, 4, 210])) config
    config.sp.resp = .empty ∧ config.sp.phase = .config
      ∧ (status t = some .ok ∧ t.cfg.stationId = 3 ∧ t.cfg.tBCN = 500 ∧ t.cfg.tLSN = 21 ∧ t.cfg.tWRMP = 1000
        ∧ t.cfg.refnom = 9000 ∧ t.tb.d = 90000 ∧ t.sp.stationLoaded = true)
      ∧ (status u = some .okClamped ∧ u.cfg.tBCN = 3000)
      ∧ status (served (.setStation (win [16, 9, 5, 0, 205, 2, 10, 35, 40])) config) = some .badArg
      ∧ (status v = some .ok ∧ v.tb.week = 258 ∧ v.tb.sow = 1234 ∧ v.tb.timeSet = true)
      ∧ status (served (.setTime (win [1, 2, 0, 9, 58, 128])) config) = some .badArg := by decide +kernel

theorem witness_TimingIsStoredClamped :
    let l := [0, 100, 0, 50, 1, 244, 3, 232, 0, 0, 19, 136, 0, 200, 0, 100, 3, 232, 0, 0, 2, 30, 0, 24, 0, 60,
      0, 100, 3, 10, 5, 1, 244, 1, 245, 0, 10, 0, 100, 0, 50, 0, 50, 10, 0, 105, 10]
    let t := served (.setTiming (win l)) config
    let low := [0, 100, 0, 50, 1, 244, 3, 232, 0, 0, 19, 136, 0, 200, 0, 100, 3, 232, 0, 0, 2,
      0, 0, 0, 0, 10, 0, 1, 1, 1, 1, 0, 10, 0, 1, 0, 1, 0, 1, 0, 5, 0, 6, 5, 0, 100, 1]
    status (served (.setTiming (win low)) config) = some .ok ∧ (served (.setTiming (win low)) config).cfg.qTrp = 6
      ∧ l.length = 47 ∧ status t = some .okClamped ∧ t.sp.timingLoaded = true ∧ t.cfg.tGRD = 10 ∧ t.cfg.tATN = 500
      ∧ t.cfg.tSLK = 1 ∧ t.cfg.tHZN = 12000 ∧ t.cfg.tEXR = 8640000 ∧ t.cfg.pMax = 500 ∧ t.cfg.pFlr = 500
      ∧ t.cfg.qWrn = 50 ∧ t.cfg.qTrp = 51 ∧ t.cfg.fold = 10 ∧ t.cfg.tFLD = 11 ∧ t.cfg.tRCV = 1000
      ∧ t.cfg.tBCN = config.cfg.tBCN := by decide +kernel

def home2 (i : Nat) : Nat × ElementRec :=
  (i, { home := 2, count := 4, rating := 300, nominal := 100, inService := true })

theorem witness_PlantRecordsAreLoaded :
    let e := served (.loadElement (win [95, 2, 8, 1, 44, 0, 105, 1])) config
    let many := config.withEd { config.ed with elements := (List.range 16).map home2 }
    let a := served (.loadAntenna (win [31, 2, 63, 255, 1, 44, 1, 0, 90, 0, 200, 30, 0, 120])) config
    let r := served (.loadRoute (win [47, 7, 2, 2, 4, 3, 9, 1])) config
    (status e = some .ok ∧ e.element 95 = some { home := 2, count := 8, rating := 300, nominal := 11, inService := true }
        ∧ e.element 4 = config.element 4)
      ∧ status (served (.loadElement (win [96, 2, 8, 1, 44, 0, 105, 1])) config) = some .badArg
      ∧ status (served (.loadElement (win [16, 2, 8, 1, 44, 0, 105, 1])) many) = some .full
      ∧ status (served (.loadElement (win [15, 2, 8, 1, 44, 0, 99, 1])) many) = some .okClamped
      ∧ (status a = some .ok ∧ a.antenna 31 = some { home := 2, bands := 16383, rating := 300
                                                     slew := some { lo := 90, hi := 200, rate := 30, deflt := 120 } })
      ∧ status (served (.loadAntenna (win [31, 2, 64, 0, 1, 44, 0, 0, 0, 0, 0, 0, 0, 0])) config) = some .badArg
      ∧ (status r = some .ok ∧ lookupKey 47 r.ed.routes = some { antenna := 7, pref := 2, steps := [(4, 3), (9, 1)] })
      ∧ status (served (.loadRoute (win [47, 7, 2, 2, 4, 3, 4, 1])) config) = some .badArg
      ∧ status (served (.loadRoute (win [48, 7, 2, 1, 4, 3])) config) = some .badArg := by decide +kernel

theorem witness_ReadsChangeNothing :
    let s := run0.withCm { run0.cm with own := [booking .moving], map := [rec5 .heard 0] }
    s.statusBytes.length = 126 ∧ (s.statusBytes.take 4) = bs [2, 14, 2, 7]
      ∧ served (.readPlan (win [3])) s = s.answered (byte 13) (win [3]) .ok (bytesOf (s.planReply 3))
      ∧ status (served (.readPlan (win [4])) s) = some .badArg
      ∧ (s.planReply 3).length = 96
      ∧ served (.readBooking (win [0])) s = s.answered (byte 14) (win [0]) .ok
        (bs [1, 2, 1, 2, 0, 0, 0, 10, 0, 1, 130, 184, 0, 6, 182, 192, 7, 255, 255, 1, 9, 1, 2, 255, 0])
      ∧ status (served (.readBooking (win [69])) s) = some .badArg
      ∧ status (served (.readPreset (win [63, 1])) s) = some .ok
      ∧ status (served (.readPreset (win [64, 1])) s) = some .badArg
      ∧ s.element 5 = none ∧ status (served (.readElement (win [0, 5])) s) = some .badArg
      ∧ status (served (.readElement (win [1, 7])) s) = some .ok := by
  decide +kernel

/-- An entry of 24 hours from Sunday 23:00 (minute 1380, day 0) runs into Monday. -/
theorem witness_TablesAreLoadedAndSwapped :
    let l := [5, 100, 1, 5, 160, 37, 93, 3, 255, 255, 0, 250, 3, 2]
    let a := served (.loadEntry (win l)) config
    let again := served (.loadEntry (win [0, 10, 2, 0, 10, 37, 93, 7, 255, 255, 0, 250, 3, 2])) (after1 (.fetch 9) a)
    let x := served (.loadAdhoc (win [0, 0, 0, 0, 4, 76, 0, 10, 37, 93, 7, 255, 255, 0, 250, 3, 3])) config
    (entryOf (bs l)).inRange = true ∧ config.pathCheck 9565 3 = none
      ∧ (a.sp.response = some { status := .ok, payload := bs [0] }
        ∧ (lookupKey 0 a.ss.pending.entries).map (fun e => (e.minute, e.dur)) = some (1380, 1440))
      ∧ status again = some .overlap
      ∧ status (served (.loadEntry (win [5, 160, 1, 5, 160, 37, 93, 3, 255, 255, 0, 250, 3, 2])) config) = some .badArg
      ∧ status (served (.loadEntry (win [5, 100, 1, 5, 160, 39, 16, 3, 255, 255, 0, 250, 3, 2])) config)
        = some .freqRange
      ∧ (served (.clearPending (win [])) (after1 (.fetch 9) a)).ss.pending.entries = []
      ∧ (served (.armChangeover (win [0, 13, 0, 0, 3, 232])) config).ss.arm = some (13, 1000)
      ∧ status (served (.armChangeover (win [0, 0, 0, 0, 3, 232])) run0) = some .badArg
      ∧ (served (.swapNow (win [])) (after1 (.fetch 9) a)).ss.active.entries = a.ss.pending.entries
      ∧ (served (.swapNow (win [])) (loaded run0)).ss.active = { entries := [], floor := some 100000 }
      ∧ (x.sp.response = some { status := .ok, payload := bs [0] }
        ∧ (lookupKey 0 x.ss.adhoc).map AdHoc.start = some 110000) := by decide +kernel

theorem witness_EntriesAreCancelled :
    let e := { entry2 with minute := 1400, days := 64 }
    let s := run0.withSs { run0.ss with active := { entries := [(2, e)], floor := none } }
    let x : AdHoc :=
      { start := 6000000, dur := 10, freq := 9565, ant := 7, az := none, power := 250, program := 3, cls := 3
        taken := false }
    let a := run0.withSs { run0.ss with adhoc := [(4, x)] }
    (∀ d ∈ e.dayList, s.tableOpen e d = false)
      ∧ served (.cancelEntry (win [0, 2])) s = (s.answered (byte 21) (win [0, 2]) .ok []).withSs
        { s.ss with active := { entries := [(2, { e with cancelled := true })], floor := none } }
      ∧ status (served (.cancelEntry (win [0, 3])) s) = some .badArg
      ∧ (a.adhocOpen x = false ∧ (served (.cancelEntry (win [1, 4])) a).ss.adhoc = []) := by decide +kernel

theorem witness_ServiceTakesItemsOutAndIn :
    let s := run0.withEd { run0.ed with driveQ := [request4] }
    let o := served (.service (win [0, 4, 0])) s
    let i := served (.service (win [0, 4, 1])) (after1 (.fetch 9) o)
    let a := served (.service (win [1, 3, 0])) s
    (s.isHome .element 4 = true ∧ s.quiet = true ∧ status o = some .ok ∧ (o.elv 4).state = .out ∧ o.ed.driveQ = [])
      ∧ (status i = some .ok ∧ (i.elv 4).state = .set ∧ (i.elv 4).pos = some 0 ∧ (i.elv 4).idle = 86400
        ∧ i.exerciseDue 4 = true)
      ∧ ((a.anv 3).state = .out
        ∧ ((served (.service (win [1, 3, 1])) (after1 (.fetch 9) a)).anv 3).az = some 120)
      ∧ status (served (.service (win [0, 9, 0])) s) = some .badArg := by decide +kernel

theorem witness_HostSetsModesRecordsAndFlags :
    let l := [30, 1, 1, 37, 93, 7, 0, 100, 0, 200, 6, 0, 99, 255]
    let p := withSet30 { PresetSet.reset with pin1 := 1 }
    let f := run0.withFlags { run0.flags with ppsReject := true, directoryError := true }
    let f := f.withPd { f.pd with latch := some (30, 9565, 7), further := true }
    let k := withSeq run0 .lockout
    ((served (.presetMode (win [2])) run0).pd.flush = true ∧ (served (.presetMode (win [2])) run0).pd.freeze = false)
      ∧ ((served (.setWindow (win [3, 1, 37, 28, 8])) run0).pd.windows.getLast?
        = some { enabled := true, base := 9500, k := 8 })
      ∧ status (served (.setWindow (win [3, 1, 37, 28, 15])) run0) = some .badArg
      ∧ ((served (.writePreset (win l)) run0).presetSet 30).way1 = preset9565
      ∧ status (served (.writePreset (win l)) p) = some .busy
      ∧ status (served (.writePreset (win (31 :: l.drop 1))) run0) = some .badArg
      ∧ ((served (.clearFlags (win [1, 0])) f).flags.directoryError = false
        ∧ (served (.clearFlags (win [1, 0])) f).flags.ppsReject = true
        ∧ (served (.clearFlags (win [1, 0])) f).pd.latch = none)
      ∧ ((served (.clearLockout (win [])) k).ts.state = .idle) := by decide +kernel

theorem witness_StartJoins :
    let s := config.withEd { config.ed with everStarted := false }
    let t := served (.start (win [])) s
    status (served (.start (win [])) (s.withSp { s.sp with timingLoaded := false })) = some .notReady
      ∧ (t.sp.phase = .joining ∧ t.hlc.joiningT = some 1000 ∧ (t.elv 4).state = .set ∧ (t.elv 4).idle = 0
        ∧ (t.elv 9).state = .unknown ∧ (t.elv 9).homeAbsent = true
        ∧ t.hlc.queue.map (fun q => framePriority q.frame) = [2, 2, 7]) := by decide +kernel

theorem witness_StopHaltsAndRestartJoins :
    let held := run0.withCm { run0.cm with own := [{ booking .ending with relPending := true }] }
    let held := held.withPins { held.pins with rfs := true }
    (served (.stop (win [])) (station .joining)).sp.phase = .halted
      ∧ (served (.stop (win [])) run0).sp.phase = .halted
      ∧ (served (.restart (win [])) run0).sp.phase = .joining
      ∧ ((served (.stop (win [])) held).sp.phase = .stopping
        ∧ (served (.restart (win [])) held).sp.restartMark = true
        ∧ (after1 (.rfSenseChange false) (served (.restart (win [])) held)).sp.phase = .joining)
      ∧ (served (.restart (win [])) (withSeq (station .halted) .lockout)).ts.state = .lockout := by decide +kernel

/-! ## Further clauses, each at a state that meets its hypotheses -/

/-- A station in a phase with every timer running, at tick `tis` of its second. -/
def timing (ph : Phase) (tis : Nat) : State :=
  let s := (station ph).withTb { run0.tb with tis := tis }
  let s := s.withHlc { s.hlc with
    beaconT := some 7, joiningT := some 0, presence := s.hlc.presence.set 5 (here 900) }
  let s := s.withEd { s.ed with
    motion := some { req := request4, count := 3, timer := 1 }, slew := some { req := request3, timer := 0 }
    idleTicks := 99 }
  let s := (s.withCm { s.cm with own := [{ booking .moving with listen := some 6, confirm := some 4 }] }).withCp
    { s.cp with guardT := some 2 }
  s.withTs { s.ts with
    tuneT := some 11, atpT := some 12, rfoffT := some 13, foldT := some 14, floorT := some 15, recT := some 16
    meterGap := some 17, restartT := some 18, strayT := some 0 }

theorem witness_TicksMakeSeconds_timers :
    let counted := fun s : State =>
      (s.hlc.beaconT = some 6 ∧ s.hlc.joiningT = some 0 ∧ (s.peer 5).absence = some 899
          ∧ s.ed.motion.map (fun m => (m.count, m.timer)) = some (4, 0) ∧ s.ed.slew.map Slew.timer = some 0
          ∧ s.ed.idleTicks = 0 ∧ s.ed.idleDue = 1
          ∧ s.cm.own.map (fun b => (b.listen, b.confirm)) = [(some 5, some 3)] ∧ s.cp.guardT = some 1)
        ∧ [s.ts.tuneT, s.ts.atpT, s.ts.rfoffT, s.ts.foldT, s.ts.floorT, s.ts.recT, s.ts.meterGap, s.ts.restartT,
            s.ts.strayT]
          = [some 10, some 11, some 12, some 13, some 14, some 15, some 18, some 17, some 0]
    counted (after1 .tick (timing .running 50)) ∧ (timing .joining 99).cp.plans = []
      ∧ counted (after1 .tick (timing .joining 99)) ∧ (after1 .tick (timing .joining 99)).tb.tis = 0 := by
  decide +kernel

/-- The exercise of home element 4 from position 0: its booking 1, and the station with it at a stage. -/
def exBooking (st : BkState) : OwnBooking :=
  { booking st with
    desc := { desc1 with cls := 0, antenna := none, steps := [(4, 0)] }, req := .exercise }

def exercising (stage : ExStage) (b : OwnBooking) (v : ViewState) : State :=
  let s := run0.withCm { run0.cm with own := [b] }
  (s.withEd { s.ed with exercise := some { element := 4, booking := 1, origin := 0, stage := stage } }).putElv 4
    { s.elv 4 with state := v }

theorem witness_HoursAndIdleSecondsCount_exercise :
    let ask := fun target : Nat => ({ item := 4, target := target, station := 2, booking := 1 } : Request)
    let due := (run0.withTb { run0.tb with tis := 99 }).putElv 4 { run0.elv 4 with idle := 86400 }
    let t := after1 .tick due
    let c := exercising .claimed { exBooking .tentative with listen := some 0 } .set
    let moving := fun (stage : ExStage) (target : Nat) =>
      let s := exercising stage (exBooking .moving) .moving
      s.withEd { s.ed with motion := some { req := ask target, count := 9, timer := 100 } }
    let o := after1 .targetSensed (moving .outward 1)
    let b := after1 .targetSensed (moving .returning 0)
    (due.scanOpen = true ∧ due.scanOrder.find? due.scanTakes = some 4 ∧ (due.elv 4).pos = some 0
        ∧ due.estimate 4 = 113 ∧ t.ed.exPtr = some 4
        ∧ t.ed.exercise = some { element := 4, booking := 1, origin := 0, stage := .claimed }
        ∧ t.cm.own.map (fun x => (x.state, x.desc.start, x.desc.stop)) = [(.tentative, 100100, 100526)]
        ∧ t.hlc.queue.map QFrame.frame = t.cm.own.map fun x => .claim x.desc)
      ∧ (c.sensedPos 4 = some 0 ∧ (after1 (.listenTimerEnd 1) c).ed.driveQ = [ask 1]
        ∧ (after1 (.listenTimerEnd 1) c).cm.own = [exBooking .moving])
      ∧ (o.ed.driveQ = [ask 0] ∧ o.ed.exercise.map Exercise.stage = some .returning)
      ∧ (b.ed.exercise = none ∧ b.cm.own = [] ∧ (b.elv 4).idle = 0
        ∧ .release 1 ∈ b.hlc.queue.map QFrame.frame) := by decide +kernel

theorem witness_LinkFaultStopsStation_map :
    let i := fun (n : Nat) (o : Option IntentState) =>
      ({ station := 6, num := n, tick := 100500, order := some 1, own := o } : Intent)
    let s := ((run0.withHlc { run0.hlc with txErr := 32 }).withCm
      { run0.cm with map := [{ rec5 .heard 0 with desc := { desc5 with holder := 6 } }], horizon := some 900000 }).withRl
      { run0.rl with intents := [i 1 none, i 2 (some .started)] }
    let t := after1 .linkFaultEntry s
    (s.peer 6).present = false ∧ t.cm.map = [] ∧ t.cm.horizon = none ∧ t.rl.intents = [] := by decide +kernel

theorem witness_FreedPlaceTakesPendingFrame_owed :
    let pending := fun f : Frame => run0.withHlc { run0.hlc with slots := [f] }
    let c := (pending (.air 1)).withCm { run0.cm with owedObj := [(5, 1, 2), (6, 1, 3)], owedRel := [4] }
    let r : RefusedMove := { kind := 0, item := 4, target := 7, station := 5, booking := 3, reason := 1 }
    let pos : Frame := .position
      { kind := 0, item := 9, report := 1, value := none, motion := 0, reqStation := 255, reqBooking := 255
        reason := 0 }
    let e := (pending pos).withEd { run0.ed with refusals := [r] }
    let l := (pending (.rampCancel 3)).withRl { run0.rl with owedCancel := [4, 5] }
    let sent := fun s : State => (after1 .pendingSlotEmptied s).hlc.queue.map QFrame.frame
    (frameBlock (.air 1) = .cm ∧ sent c = [.object 5 1 2, .object 6 1 3, .air 1, .release 4]
        ∧ (after1 .pendingSlotEmptied c).cm.owedObj = [] ∧ (after1 .pendingSlotEmptied c).cm.owedRel = [])
      ∧ (frameBlock pos = .ed ∧ e.owedItems = [] ∧ sent e = [pos, r.frame]
        ∧ (after1 .pendingSlotEmptied e).ed.refusals = [])
      ∧ (frameBlock (.rampCancel 3) = .rl ∧ sent l = [.rampCancel 3, .rampCancel 4, .rampCancel 5]
        ∧ (after1 .pendingSlotEmptied l).rl.owedCancel = []) := by decide +kernel

theorem witness_BadFramesCountGoodFramesNumber_tick :
    let s := run0.withCm { run0.cm with map := [rec5 .heard 0] }
    let late : Head := { sender := 5, tick := 60480000 }
    s.goodFrame late (.release 8) = true
      ∧ after1 (.release late 8) s = s.withHlc { s.hlc with seq := 1 }
      ∧ (after1 (.release { late with tick := 60479999 } 8) s).cm.map = []
      ∧ (after1 (.claim head5 desc5) (station .halted)).hlc.stamp = 20
      ∧ (after1 (.claim head5 desc5) (station .halted)).cm.map = [] := by decide +kernel

theorem witness_BeaconsKeepPeersAndRecords_unread :
    let s := run0.withCm { run0.cm with map := [rec5 .heard 0] }
    let b := fun ph seq : Nat =>
      ({ phase := ph, seq := seq, profile := 8, stampCtr := 90, bookings := [] } : BeaconBody)
    let kept := fun t : State => t.cm = s.cm ∧ t.tb = s.tb ∧ (t.peer 5).present = true
    kept (after1 (.beacon head5 (b 6 0)) s) ∧ kept (after1 (.beacon head5 (b 2 8)) s)
      ∧ kept (after1 (.beacon { head5 with tick := 60480000 } (b 2 0)) s)
      ∧ (after1 (.beacon head5 (b 5 7)) s).cm.map = [] := by decide +kernel

theorem witness_DriveTurnMovesElement_held :
    let s := showing 2 120 (holding.withEd { holding.ed with driveQ := [request4] })
    let s := s.putElv 4 { s.elv 4 with state := .set, pos := some 2, owed := true, motion := 55 }
    ((after1 .driveTurn s).elv 4).motion = 55 ∧ s.sensedPos 4 = some 2
      ∧ ((after1 .driveTurn (s.putElv 4 { s.elv 4 with owed := false })).elv 4).motion = 0 := by decide +kernel

theorem witness_RequestsAndReportsOfItems_codes :
    let p : PosReport :=
      { kind := 0, item := 9, report := 1, value := some 0, motion := 120, reqStation := 255
        reqBooking := 255, reason := 0 }
    (after1 (.position head5 { p with reason := 7 }) run0).ed = run0.ed
      ∧ (after1 (.position head5 { p with report := 5 }) run0).ed = run0.ed
      ∧ (after1 (.position head5 { p with report := 4 }) run0).ed = run0.ed
      ∧ ((after1 (.position head5 { p with reason := 6 }) run0).elv 9).pos = some 0 := by decide +kernel

/-- Element 9 is OUT, so that the plan of route 12 finds no route in service. -/
def out9 (s : State) : State :=
  s.withEd { s.ed with elView := [(4, ElView.fresh), (9, { ElView.fresh with state := .out })] }

theorem witness_ClaimsArePlacedAndDisplace_plan :
    let b := { booking .booked with desc := { desc1 with cls := 1, stamp := 40 } }
    let s := out9 (withPlan run0 (plan1 .ready) b)
    let t := after1 (.claim head5 claim5) s
    s.routesTo 7 = [(12, { antenna := 7, pref := 0, steps := [(9, 1)] })]
      ∧ s.serviceable 7 [(9, 1)] = false ∧ b.desc.conflicts claim5 = true
      ∧ t.cm.own = [] ∧ t.cp.plans = [{ plan1 .blocked with booking := none }]
      ∧ t.hlc.queue.map QFrame.frame = [.release 1] := by decide +kernel

theorem witness_ObjectAndAirAct_plan :
    let s := out9 (withPlan run0 (plan1 .routing) (booking .tentative))
    let t := after1 (.object head5 2 1 8) s
    s.serviceable 7 [(9, 1)] = false ∧ t.cm.own = []
      ∧ t.cp.plans = [{ plan1 .blocked with booking := none }]
      ∧ t.hlc.queue.map QFrame.frame = [.release 1] := by decide +kernel

theorem witness_RecordsAndIntentsLeave_shown :
    let p := { plan1 .onAir with intent := some (4, 99000) }
    let s := (withPlan run0 p (booking .active)).withRl { run0.rl with
      intents := [{ station := 2, num := 4, tick := 99000, order := some 2, own := some .started }] }
    due (addT 99000 s.cfg.tWRMP) s.now = true ∧ (after1 .intentExpiry s).rl.intents = []
      ∧ (after1 .intentExpiry s).cp.plans.map Plan.intent = [none] := by decide +kernel

theorem witness_ListenAndConfirmTimersEnd_pin :
    let p := { plan1 .switching with pin := some (30, 1), preset := .fresh, t := 200 }
    let s := withPlan run0 p { booking .moving with confirm := some 0 }
    let hit := s.setPresetSet 30 { PresetSet.reset with way1 := preset9565, pin1 := 2 }
    let miss := s.setPresetSet 30 { PresetSet.reset with way1 := { preset9565 with ant := 6 }, pin1 := 1 }
    let t := after1 (.confirmTimerEnd 1) hit
    let u := after1 (.confirmTimerEnd 1) miss
    let tuning := { p with state := .tuning, tunedAt := some 100000 }
    (preset9565.holds 9565 7 = true ∧ hit.pd.sets.length = 64 ∧ (hit.predict tuning 100000 0).beyond = false
        ∧ t.ts.sent = [.set 9565 3, .preset 100 200 6, .trim] ∧ (t.presetSet 30).pin1 = 1)
      ∧ ((miss.predict { tuning with t := 3000 } 100000 0).beyond = false
        ∧ u.ts.sent = [.set 9565 3, .autotune] ∧ (u.presetSet 30).pin1 = 0
        ∧ (u.plan 0).map (fun q => (q.preset, q.t, q.pin, q.u)) = some (.miss, 3000, none, some 126800)) := by
  decide +kernel

theorem witness_OwnUntilRemovesOrExtends_plan :
    let s := withPlan run0 (plan1 .ready) { booking .booked with desc := { desc1 with stop := 100000 } }
    let t := after1 .ownBookingUntil s
    s.openOccs = [] ∧ t.cm.own = [] ∧ t.cp.plans = [] ∧ t.hlc.queue.map QFrame.frame = [.release 1]
      ∧ t.sp.airLog = [(plan1 .ready).record .missed (some .lateLimit)] := by decide +kernel

theorem witness_StartCheckCountsRecentIntents_restart :
    let s := checking []
    (after1 .startCheck (s.withTs { s.ts with upSent := true, p := 180 })).ts.sent = [.up 180]
      ∧ (after1 .startCheck (s.withTs { s.ts with p := 180 })).ts.sent = [.up 250] := by decide +kernel

theorem witness_PlanningInstantTakesOccurrence_route :
    let s := loaded run0
    let x := s.planOn (s.newPlan 0 (s.tableOffer 2 entry2 0)) 11 [(4, 1)]
    let d := s.planDesc x.1 [(4, 1)] (x.1.w.getD 0)
    let t := after1 .planningInstant s
    (s.openOccs = [.table 2 0] ∧ s.routesTo 3 = [(11, { antenna := 3, pref := 0, steps := [(4, 1)] })]
        ∧ s.routeFree x.1 [(4, 1)] (x.1.w.getD 0) = true ∧ x.2.beyond = false
        ∧ s.claimRefusal (.plan 0) d = none)
      ∧ (t.cp.plans.map fun p => (p.state, [p.booking, some p.path, p.w, p.u, p.r]))
        = [(.routing, [some 1, some 113, some 116677, some 116800, some 119900])]
      ∧ (t.cm.own.map fun b => (b.state, [b.desc.num, b.desc.stamp, b.desc.start, b.desc.stop]))
        = [(.tentative, [1, 1, 116677, 180100])]
      ∧ t.hlc.queue.map QFrame.frame = t.cm.own.map fun b => .claim b.desc := by decide +kernel

theorem witness_LateLimitsAndEnds_ready :
    let p := { plan1 .ready with late := 100000, cont := true }
    let s := withPlan run0 p (booking .booked)
    let t := after1 (.planLateLimit 0) s
    due p.late s.now = true ∧ s.openOccs = [] ∧ t.cp.plans = [] ∧ t.cm.own = []
      ∧ t.hlc.queue.map QFrame.frame = [.release 1]
      ∧ t.sp.airLog = [p.record .missed (some .lateLimit)]
      ∧ (after1 (.planLateLimit 0) (withSeq (withPlan run0
          { plan1 .rampWait with late := 100000, limitPast := true } (booking .active)) .tuned)).ts.sent = [] := by
  decide +kernel

/-- In RUNNING, with a plan of the active table: kept when it starts before the instant, dropped when not. -/
theorem witness_ChangeoverSwapsTables_plans :
    let s := (withPlan (loaded run0) (plan1 .ready) (booking .booked)).withSs
      { (loaded run0).ss with arm := some (0, 1000) }
    let kept := s.withCp { s.cp with plans := [{ plan1 .onAir with absA := 130000 }] }
    let t := after1 .changeoverInstant s
    (absDue 100000 s.absNow = true ∧ t.cp.plans = [] ∧ t.cm.own = [] ∧ t.sp.airLog = []
        ∧ t.hlc.queue.map QFrame.frame = [.release 1] ∧ t.ss.active = { entries := [], floor := some 100000 })
      ∧ (after1 .changeoverInstant kept).cp.plans
        = [{ plan1 .onAir with absA := 130000, src := .table false 2 }] := by decide +kernel

theorem witness_AirStartsAndEnds_tripped :
    let p := { plan1 .rampWait with a := 100000, firstFull := some 99990 }
    let s := withSeq (withPlan run0 p (booking .active)) .tripped
    s.currentPlan = some p ∧ (after1 .airStart s).ts.psel = 3
      ∧ (after1 .airStart s).cp.plans = [{ p with progDone := true }]
      ∧ (after1 .airStart (s.withCp { s.cp with plans := [{ p with firstFull := none }] })).ts.psel = 0 := by
  decide +kernel

theorem witness_ContinuationTakesOver_equal :
    let q := { plan1 .onAir with a := 90000, z := 100000, firstFull := some 90010, progDone := true }
    let c := { plan1 .ready with id := 1, a := 100000, absA := 100000, booking := some 2, cont := true, program := 4 }
    let bc : OwnBooking :=
      { booking .booked with desc := { desc1 with num := 2, start := 100000 }, req := .plan 1 }
    let s := withSeq ((run0.withCp { run0.cp with plans := [q, c] }).withCm
      { run0.cm with own := [booking .active, bc] }) .onAir
    let s := s.withTs { s.ts with p := 225, ceiling := 250, foldCount := 1 }
    let t := after1 .airEnd s
    c.cmdPower = q.cmdPower ∧ t.ts.psel = 4 ∧ t.ts.p = 225 ∧ t.ts.ceiling = 250 ∧ t.ts.foldCount = 1
      ∧ t.ts.sent = [] := by decide +kernel

/-- Element 4, held by the current plan's booking, leaves its place: from ON-AIR and from TUNED. -/
theorem witness_ProtectionCausesTrip_permit :
    let b := fun st : BkState => ({ booking st with
      desc := { desc1 with antenna := some 3, azimuth := some 120, steps := [(4, 0)] } } : OwnBooking)
    let s := withSeq (withPlan run0 (plan1 .onAir) (b .active)) .onAir
    let u := withSeq (withPlan run0 (plan1 .rampWait) (b .confirmed)) .tuned
    let c := Instr.unbiddenChange .element 0 true 3
    (s.pathWhole = true ∧ s.currentBooking = some (b .active) ∧ (b .active).desc.includes .element 4 = true
        ∧ s.sensedPos 4 = some 0 ∧ (after1 c s).ts.tripLog = [(100000, .permitLoss)]
        ∧ (after1 c s).ts.state = .tripped ∧ (after1 c s).inhibit = true)
      ∧ (u.pathWhole = true ∧ (after1 c u).ts.tripLog = [(100000, .permitLoss)]) := by decide +kernel

theorem witness_MeterFoldsWatchesRecovers_plan :
    let s := withSeq (withPlan run0 (plan1 .onAir) (booking .active)) .onAir
    let s := s.withTs { s.ts with p := 250, ceiling := 250, foldCount := 2 }
    s.currentPlan = some (plan1 .onAir) ∧ (after1 (.meter 200 10) s).ts.sent = [.power 225]
      ∧ (after1 (.meter 200 10) s).cp.plans.map Plan.folds = [3] := by decide +kernel

theorem witness_RfOffReturnsToIdle_plan :
    let p := { plan1 .ending with firstFull := some 130000 }
    let s := withSeq (withPlan run0 p { booking .ending with relPending := true }) .down
    let high := (s.withTs { s.ts with rfOffTaken := true }).withPins { s.pins with rfs := true }
    let ended := fun t : State => t.ts.state = .idle ∧ t.cm.own = [] ∧ t.cp.plans = []
      ∧ t.cp.guardT = some 50 ∧ t.hlc.queue.map QFrame.frame = [.release 1]
      ∧ t.sp.airLog = [p.record .aired none]
    s.openOccs = [] ∧ ended (after1 .rfOff s) ∧ ended (after1 (.rfSenseChange false) high) := by decide +kernel

theorem witness_RestartDelayPicksOrAbandons_switching :
    let s := withSeq (withPlan run0 (plan1 .switching) (booking .moving)) .tripped
    let s := s.withTs { s.ts with restartT := some 0 }
    let t := after1 .restartDelayEnd s
    s.currentPlan = some (plan1 .switching) ∧ s.rl.request = none ∧ t.ts.state = .idle
      ∧ t.ts.restartT = none ∧ t.cp = s.cp := by decide +kernel

/-- Bits at the port's lines: a status read, five bits too few for a third byte, bits while select is released, and a
window that pin reset abandons. -/
theorem witness_WindowsAreJudgedInOrder_bits :
    let part := [true, false, true, true, false]
    spiCommands SpiInput.idle (.select :: (sdoBits (bs [8, 0]) ++ part).map .clock ++ [.release])
        = [.readStatus (bs [0])]
      ∧ sdoBits (bs [130]) = [true, false, false, false, false, false, true, false]
      ∧ spiCommands SpiInput.idle (part.map .clock) = []
      ∧ spiCommands SpiInput.idle (.select :: (part.map .clock) ++ [.release]) = []
      ∧ spiCommands SpiInput.idle (.select :: (sdoBits (bs [7])).map .clock ++ [.pinReset, .release])
        = [.pinReset] := by decide +kernel

theorem witness_FetchShiftsResponseOut_rx :
    (after1 (.fetch 3) run0).sp.rx = bs [0] ∧ (after1 (.readStatus (bs [0])) run0).sp.rx = bs [8, 0] := by
  decide +kernel

/-- A capture count at its limit stays at the limit when REFNOM changes, whatever the cycles run into the tick. -/
theorem witness_StationAndTimeAreSet_capture (n : Nat) :
    (Timebase.reset.newRefnom 10000 12000 n).capCount = 24000000
      ∧ (Timebase.reset.newRefnom 10000 9000 n).d = 90000 := by
  simp [Timebase.newRefnom, Timebase.reset, captureLimit, Config.refnomAtReset]

theorem witness_PlantRecordsAreLoaded_step :
    config.element 4 ≠ none
      ∧ status (served (.loadElement (win [9, 5, 2, 1, 44, 0, 105, 1])) config) = some .ok
      ∧ status (served (.loadElement (win [4, 2, 2, 1, 44, 0, 105, 1])) config) = some .ok
      ∧ status (served (.loadElement (win [4, 2, 2, 1, 44, 0, 105, 1])) (config.withEd { config.ed with
        routes := [(11, { antenna := 3, pref := 0, steps := [(4, 2)] })] })) = some .badArg := by decide +kernel

/-- The refusals of loading, each the first test that fails. -/
theorem witness_TablesAreLoadedAndSwapped_refusals :
    let entry := fun hz ant : Nat =>
      [5, 100, 1, 5, 160, hz / 256, hz % 256, ant, 255, 255, 0, 250, 3, 2]
    let hoc := fun hz ant : Nat =>
      [0, 0, 0, 0, 4, 76, 0, 10, hz / 256, hz % 256, ant, 255, 255, 0, 250, 3, 3]
    let bands := config.withEd { config.ed with
      antennas := [(3, { home := 2, bands := 0, rating := 400, slew := none })] }
    let x := (adhocOf (bs (hoc 9565 7))).2
    let full := config.withSs { config.ss with
      pending := { entries := (List.range 128).map fun i => (i, { entry2 with days := 64 }), floor := none }
      adhoc := (List.range 8).map fun i => (i, { x with start := x.start + 60000 * (i + 1) }) }
    let one := config.withSs { config.ss with adhoc := [(0, x)] }
    let st := fun (l : List Nat) (s : State) => status (served (.loadEntry (win l)) s)
    let sa := fun (l : List Nat) (s : State) => status (served (.loadAdhoc (win l)) s)
    (st (entry 9565 5) config = some .noRoute ∧ st (entry 9565 3) bands = some .antBand
        ∧ st (entry 9565 3) full = some .full)
      ∧ (sa (hoc 10000 7) config = some .freqRange ∧ sa (hoc 9565 5) config = some .noRoute
        ∧ sa (hoc 9565 3) bands = some .antBand ∧ sa (hoc 9565 7) one = some .overlap
        ∧ sa (hoc 9565 7) full = some .full
        ∧ sa [0, 0, 0, 0, 1, 0, 0, 1, 37, 93, 7, 255, 255, 0, 250, 3, 3] run0 = some .badArg
        ∧ status (served (.loadAdhoc (win [0, 0, 0, 0, 1, 0, 0, 1, 37, 93, 7, 255, 255, 0, 250, 3, 3])) config)
          = some .ok) := by decide +kernel

/-- LOAD-ADHOC in RUNNING at tick 100000: an entry of 90 minutes from tick 10000, past its late limit, which overlaps a
plan of a table occurrence from tick 130000. -/
theorem witness_TablesAreLoadedAndSwapped_running :
    let l := [0, 0, 0, 0, 0, 100, 0, 90, 37, 93, 7, 255, 255, 0, 250, 3, 3]
    let x := (adhocOf (bs l)).2
    let s := withPlan run0 (plan1 .ready) (booking .booked)
    let t := served (.loadAdhoc (win l)) s
    let u := served (.loadAdhoc (win l)) run0
    (x.start = 10000 ∧ absDue x.absEnd s.absNow = false ∧ absDue (s.adhocLate x) s.absNow = true
        ∧ s.openOccs = [] ∧ s.adhocOpen x = false
        ∧ absOverlaps x.start (x.dur * 6000) 130000 (fd 130000 430000) = true)
      ∧ (u.ss.lateDue = [.adhoc 0] ∧ (after1 .occurrenceLateLimit u).ss.adhoc = []
        ∧ (after1 .occurrenceLateLimit u).sp.airLog.map AirRecord.outcome = [.missed])
      ∧ (t.ss.lateDue = [.adhoc 0] ∧ t.cp.plans = [] ∧ t.cm.own = []
        ∧ t.hlc.queue.map QFrame.frame = [.release 1]
        ∧ t.sp.airLog = [(plan1 .ready).record .suppressed none]) := by decide +kernel

theorem witness_StopHaltsAndRestartJoins_linkFault :
    let s := (station .linkFault).withHlc { run0.hlc with presence := run0.hlc.presence.set 5 (here 900) }
    let t := served (.restart (win [])) s
    (s.cm.own.map fun b => b.desc.num).Nodup ∧ t.sp.phase = .joining ∧ (t.peer 5).present = false
      ∧ t.hlc.joiningT = some 1000 := by decide +kernel

/-! ## Clauses on link reports, searches and refusals -/

/-- Tick 125950 is the late limit of entry 2 here; the tick that reaches it notes it. -/
theorem witness_TicksMakeSeconds_noted :
    let s := (loaded run0).withTb { run0.tb with sow := 1259, tis := 49 }
    let s := { s with cfg := { s.cfg with tLATE := 5950 } }
    s.tb.tis < 99 ∧ s.now = 125949 ∧ s.ss.lateDue = [] ∧ (after1 .tick s).ss.lateDue = [.table 2 0]
      ∧ (after1 .tick (s.withTb { s.tb with tis := 48 })).ss.lateDue = []
      ∧ (after1 .tick s).tb.capCount = 20000000 ∧ (after1 .tick s).flags = s.flags := by decide +kernel

theorem witness_EdgesDisciplineClock_week :
    let s := run0.withTb { run0.tb with capCount := 10000000, sow := 604799, week := 65535, tis := 98 }
    let t := after1 (.ppsEdge 0) s
    let u := after1 (.ppsEdge 0) (s.withTb { s.tb with freeMark := true })
    (t.tb.sow = 0 ∧ t.tb.week = 0 ∧ t.tb.tis = 0 ∧ t.tb.capCount = 0)
      ∧ u.tb.sow = 604799 ∧ u.tb.week = 65535 ∧ u.tb.tis = 98 ∧ u.tb.freeMark = false := by decide +kernel

/-- Three seconds forward from second 604798, and back from second 1 of week 0. -/
theorem witness_OffsetMajorityStepsTime_week :
    let peers := run0.hlc.presence.set 5 (here 900)
    let s := fun sow : Nat => (run0.withHlc { run0.hlc with presence := peers }).withTb { run0.tb with sow := sow }
    let b : BeaconBody := { phase := 2, seq := 0, profile := 7, stampCtr := 0, bookings := [] }
    let t := fun sow tick : Nat => (after1 (.beacon { sender := 5, tick := tick } b) (s sow)).tb
    ((t 604798 100).sow = 1 ∧ (t 604798 100).week = 1)
      ∧ (t 1 60479800).sow = 604798 ∧ (t 1 60479800).week = 65535 := by decide +kernel

/-- A frame at the head of the queue, in an attempt or waiting for an idle link. -/
def headFrame (f : Frame) (attempts : Nat) (sending : Bool) (s : State) : State :=
  s.withHlc { s.hlc with
    queue := [queued f attempts sending], attempt := if sending then some 99990 else none, txErr := 4 }

def ownIntent : Intent := { station := 2, num := 4, tick := 100500, order := none, own := some .unsent }
def peerIntent (num tick order : Nat) : Intent :=
  { station := 5, num := num, tick := tick, order := some order, own := none }

def heldPick : PickReq :=
  { plan := 0, desired := 100500, lowest := 100400, limit := 110000, bySeq := false, waiting := false }

/-- The own intent 4 unsent, its request held, and peer intents. -/
def ramping (peers : List Intent) : State :=
  (withPlan run0 { plan1 .tuning with intent := some (4, 100500) } (booking .confirmed)).withRl
    { run0.rl with intents := peers ++ [ownIntent], request := some heldPick, numCtr := 4 }

theorem witness_AttemptsRunTheirCourse_sent :
    let sent := fun (f : Frame) (s : State) => after1 .frameSent (headFrame f 0 true s)
    let gone := sent (.claim desc1) (run0.withCm { run0.cm with unsent := [1] })
    let lost := sent (.rampIntent 4 100500) (run0.withRl { run0.rl with unsent := [4] })
    let one := sent (.rampIntent 4 100500) (ramping [peerIntent 1 100500 0, peerIntent 2 100510 7])
    let two := sent (.rampIntent 4 100500) (ramping [peerIntent 1 100500 0, peerIntent 2 100510 0])
    (gone.hlc.queue.map QFrame.frame = [.release 1] ∧ gone.cm.unsent = [])
      ∧ (lost.hlc.queue.map QFrame.frame = [.rampCancel 4] ∧ lost.rl.unsent = [])
      ∧ (one.hlc.queue = [] ∧ one.rl.intents.filterMap Intent.own = [.announced])
      ∧ windowRule 2 1000 [100500, 100510] 100500 = false
      ∧ (searchTick (windowRule 2 1000 [100500, 100510]) 100500 100400 100 110000 = some 101500
        ∧ two.hlc.queue.map QFrame.frame = [.rampCancel 4, .rampIntent 5 101500]
        ∧ two.rl.request = some heldPick ∧ two.cp.plans.map Plan.intent = [some (5, 101500)]) := by decide +kernel

theorem witness_AttemptsRunTheirCourse_dropped :
    let drop := fun (f : Frame) (s : State) => after1 .attemptAbort (headFrame f 7 true s)
    let full := run0.withCm { run0.cm with owedRel := [1, 2, 3, 4, 5, 6, 7, 8] }
    let unsent := fun b : OwnBooking => { b with sent := false }
    let c := drop (.claim desc1) (run0.withCm { run0.cm with own := [unsent (booking .tentative)] })
    let q := drop (.claim desc1) (out9 (withPlan run0 (plan1 .routing) (unsent (booking .tentative))))
    let p : PosReport :=
      { kind := 0, item := 4, report := 0, value := some 1, motion := 0, reqStation := 255, reqBooking := 255
        reason := 0 }
    let m := (withPlan run0 (plan1 .switching) (booking .moving)).putElv 9 { run0.elv 9 with pos := some 0 }
    let i := drop (.rampIntent 4 100500) (ramping [])
    let charged := after1 .busyTimeout (headFrame (.air 1) 6 false run0)
    (drop (.release 9) full).cm.owedRel = [2, 3, 4, 5, 6, 7, 8, 9]
      ∧ (drop (.air 1) (run0.withCm { run0.cm with own := [booking .active] })).cm.own
        = [{ booking .active with owedAir := true }]
      ∧ (c.cm.own = [] ∧ c.hlc.queue = [] ∧ c.hlc.txErr = 5)
      ∧ (q.cm.own = [] ∧ q.cp.plans = [{ plan1 .blocked with booking := none }] ∧ q.hlc.queue = [])
      ∧ (drop (.claim desc1) (run0.withCm { run0.cm with unsent := [1, 3] })).cm.unsent = [3]
      ∧ (run0.isHome .element 4 = true ∧ (drop (.position p) run0).hlc.queue.map QFrame.frame
        = [run0.positionFrame .element 4] ∧ (drop (.position { p with report := 4 }) run0).hlc.queue = [])
      ∧ (m.planItemStands (plan1 .switching) .element 9 = false
        ∧ (drop (.move 0 9 1 1) m).hlc.queue.map QFrame.frame = [.move 0 9 1 1]
        ∧ (drop (.move 0 9 1 1) run0).hlc.queue = [])
      ∧ (i.hlc.queue.map QFrame.frame = [.rampIntent 5 100500] ∧ i.rl.request = some heldPick
        ∧ (drop (.rampIntent 4 100500) (run0.withRl { run0.rl with unsent := [4] })).rl.unsent = [])
      ∧ (drop (.rampCancel 4) run0).hlc.queue = []
      ∧ (charged.hlc.queue = [queued (.air 1) 7 false] ∧ charged.hlc.txErr = 4) := by decide +kernel

/-- A MOVE for element 4 or antenna 3, each of the six refusals at a state where no earlier test fails. -/
theorem witness_RequestsAndReportsOfItems_refused :
    let answer := fun (k target : Nat) (s : State) =>
      (after1 (.move head5 k (if k = 0 then 4 else 3) 3 target) s).hlc.queue.filterMap fun x => match x.frame with
        | .position p => some (p.kind, p.reason)
        | _ => none
    let out := fun s : State => (s.putElv 4 { s.elv 4 with state := .out }).putAnv 3 { s.anv 3 with state := .out }
    let own := { booking .active with desc := { desc1 with steps := [(4, 1)], antenna := some 3, stamp := 90 } }
    let r := fun (item : Nat) (n : Nat) => ({ item := item, target := 1, station := 6, booking := n } : Request)
    let busy := holding.withEd { holding.ed with driveQ := [r 4 1], slewQ := [r 3 1] }
    let full := holding.withEd { holding.ed with
      driveQ := (List.range 8).map (r 5), slewQ := (List.range 4).map (r 2) }
    let held := { held4 with desc := { held4.desc with cls := 3 } }
    let active := (holding.withCm { holding.cm with map := [held], own := [{ own with
      desc := { own.desc with start := 400000, stop := 410000 } }] })
    (answer 0 4 holding = [(0, 1)] ∧ answer 1 201 holding = [(1, 1)] ∧ answer 1 89 holding = [(1, 1)])
      ∧ (answer 0 3 (out holding) = [(0, 2)] ∧ answer 1 200 (out holding) = [(1, 2)])
      ∧ (answer 0 3 holding = [(0, 3)] ∧ answer 1 90 holding = [(1, 3)])
      ∧ (answer 0 2 active = [(0, 4)] ∧ answer 1 150 active = [(1, 4)])
      ∧ (answer 0 2 busy = [(0, 5)] ∧ answer 1 150 busy = [(1, 5)])
      ∧ (answer 0 2 full = [(0, 6)] ∧ answer 1 150 full = [(1, 6)])
      ∧ (answer 0 2 holding = [] ∧ answer 1 150 holding = []) := by decide +kernel

theorem witness_RequestsAndReportsOfItems_routeFault :
    let s := withPlan run0 (plan1 .switching) (booking .moving)
    let p : PosReport :=
      { kind := 0, item := 9, report := 4, value := some 1, motion := 0, reqStation := 2, reqBooking := 1, reason := 6 }
    let t := after1 (.position head5 p) s
    s.routesTo 7 = [(12, { antenna := 7, pref := 0, steps := [(9, 1)] })]
      ∧ s.planIncludes (plan1 .switching) .element 9 = true
      ∧ (t.cm.own = [] ∧ t.hlc.queue.map QFrame.frame = [.release 1]
        ∧ t.cp.plans = [{ plan1 .blocked with switchedAt := none, booking := none }])
      ∧ after1 (.position head5 { p with reqStation := 3 }) s = s.withHlc { s.hlc with seq := 1 } := by
  decide +kernel

theorem witness_WindowRuleCoversEveryWindow_search :
    let s := fun ticks : List Nat => run0.withRl { run0.rl with intents := ticks.map fun t => peerIntent 1 t 0 }
    (s [100450, 100460]).findTick heldPick = some 101450
      ∧ (s [100450, 100460]).findTick { heldPick with limit := 101450 } = none
      ∧ (s [101420, 101430]).findTick heldPick = some 100430
      ∧ (s [101420, 101430]).findTick { heldPick with lowest := 100431 } = some 102420
      ∧ (s []).findTick { heldPick with limit := 100500 } = none := by decide +kernel

/-- With no start allowed the rule holds nowhere, and no tick is found. -/
theorem witness_WindowRuleCoversEveryWindow_none :
    (∀ j, windowRule 0 1000 [] (addT 100500 j) = false)
      ∧ ({ run0 with cfg := { settings with nRMP := 0 } }).findTick { heldPick with limit := 100600 } = none := by
  refine ⟨fun j => ?_, ?_⟩
  · simp [windowRule]
  · decide +kernel

/-- A log of 32: 31 peer intents, an own one, the latest peer record at tick 100031 under number 31. -/
theorem witness_PeerIntentsEnterAndLeave_full :
    let own := { ownIntent with own := some .started, order := some 9, tick := 100900 }
    let s := run0.withRl { run0.rl with
      intents := (List.range 31).map (fun n => peerIntent (n + 1) (100001 + n) 0) ++ [own] }
    let t := after1 (.rampIntent head5 77 100020) s
    let o := run0.withRl { run0.rl with intents := List.replicate 32 own }
    s.rl.intents.length = 32
      ∧ (after1 (.rampIntent head5 77 100032) s).rl = s.rl
      ∧ (t.rl.intents.length = 32 ∧ peerIntent 77 100020 1 ∈ t.rl.intents ∧ peerIntent 31 100031 0 ∉ t.rl.intents
        ∧ own ∈ t.rl.intents)
      ∧ (after1 (.rampIntent head5 77 100020) o).rl = o.rl := by decide +kernel

/-- The held bounds of a request stay those of its requester through a failed start check. -/
theorem witness_StartCheckCountsRecentIntents_picks :
    let two := checking [99001, 99500]
    let held := { heldPick with desired := 101000, lowest := 100900 }
    let s := two.withRl { two.rl with request := some held }
    let t := after1 .startCheck s
    (s.checkReady.isSome = true
        ∧ searchTick (windowRule 2 1000 [99001, 99500]) 100000 100000 100 110000 = some 100001)
      ∧ t.hlc.queue.map QFrame.frame = [.rampCancel 4, .rampIntent 1 100001]
      ∧ t.rl.request = some held ∧ t.ts.sent = [] ∧ t.cp.plans.map Plan.intent = [some (1, 100001)]
      ∧ (after1 .startCheck (checking [99001])).rl.request = none := by decide +kernel

/-- A TUNED that misses: the invalid way, the LRU way, the other when that is pinned, and none. -/
theorem witness_TuneEndsEitherWay_fill :
    let s := withSeq (withPlan run0 { plan1 .tuning with tunedAt := some 99000 } (booking .confirmed)) .tuning
    let s := s.withRl { s.rl with intents := [{ ownIntent with own := some .announced, order := some 2 }] }
    let other := { preset9565 with ant := 1 }
    let both := { PresetSet.reset with way0 := other, way1 := other, lru := 1 }
    let filled := { preset9565 with tune := 101, load := 201, band := 7, age := 0, hits := 0 }
    let t := fun x : PresetSet => after1 (.tuned 101 201 7) (s.setPresetSet 30 x)
    let frozen := (s.setPresetSet 30 both).withPd { (s.setPresetSet 30 both).pd with freeze := true }
    s.pathWhole = true ∧ s.isDual 9565 7 = false
      ∧ ((t PresetSet.reset).presetSet 30 = { PresetSet.reset with way0 := filled, lru := 1 })
      ∧ ((t { both with way1 := PresetSet.reset.way1, lru := 0 }).presetSet 30
        = { both with way1 := filled, lru := 0 })
      ∧ ((t both).presetSet 30 = { both with way1 := filled, lru := 0 })
      ∧ ((t { both with pin1 := 1 }).presetSet 30 = { both with way0 := filled, pin1 := 1, lru := 1 })
      ∧ ((t { both with pin0 := 1, pin1 := 1 }).presetSet 30 = { both with pin0 := 1, pin1 := 1 })
      ∧ (after1 (.tuned 101 201 7) frozen).pd = frozen.pd := by decide +kernel

theorem witness_ProtectionCausesTrip_plan :
    let s := withSeq (withPlan run0 { plan1 .onAir with a := 99000 } (booking .active)) .onAir
    let s := s.withTs { s.ts with p := 200, ceiling := 250, meterGap := some 5, foldT := some 6, recT := some 7 }
    let t := after1 (.fault .arc) s
    let tune := withSeq (withPlan run0 (plan1 .tuning) (booking .confirmed)) .tuning
    let tune := (tune.withTs { tune.ts with tuneT := some 40 }).withPins { tune.pins with rfs := true }
    let u := after1 (.fault .arc) tune
    (t.ts.restartT = some 500 ∧ t.ts.p = 200 ∧ t.ts.ceiling = 250 ∧ t.ts.meterGap = none ∧ t.ts.foldT = none
        ∧ t.ts.recT = none ∧ t.ts.sent = [] ∧ t.ts.lastFault = some (.arc, 100000)
        ∧ t.cp.plans.map (fun q => (q.state, q.lostOpen)) = [(.rampWait, some 100000)])
      ∧ (u.cp.plans.map (fun q => (q.state, q.pendOut, q.cause)) = [(.ending, some .aborted, some .trip)]
        ∧ u.ts.tuneT = none)
      ∧ after1 (.fault .arc) (withSeq run0 .down)
        = (withSeq run0 .down).withTs { (withSeq run0 .down).ts with lastFault := some (.arc, 100000) } := by
  decide +kernel

theorem witness_MeterFoldsWatchesRecovers_low :
    let s := withSeq run0 .onAir
    let s := s.withTs { s.ts with p := 50, ceiling := 250, meterGap := some 30, floorT := some 3, recT := some 4 }
    let low := after1 (.meter 9 99) s
    let tune := withSeq s .tuning
    let t := after1 (.meter 200 10) (tune.withPins { tune.pins with rfs := true })
    (low.ts.floorT = none ∧ low.ts.recT = none ∧ low.ts.meterGap = some 0)
      ∧ (t.ts.meterGap = some 0 ∧ t.ts.floorT = some 3 ∧ t.ts.recT = some 4
        ∧ (after1 (.meter 200 10) tune).ts.meterGap = none)
      ∧ (after1 (.meter 200 10) (withSeq s .tuned)).ts = (withSeq s .tuned).ts := by decide +kernel

/-- What was noted of a slot's former entry goes when the slot is filled: no MISSED record of the new entry. -/
theorem witness_TablesAreLoadedAndSwapped_refilled :
    let l := [0, 0, 0, 0, 4, 76, 0, 10, 37, 93, 7, 255, 255, 0, 250, 3, 3]
    let s := run0.withSs { run0.ss with lateDue := [.adhoc 0, .adhoc 1], endDue := [0, 1] }
    let t := served (.loadAdhoc (win l)) s
    (lookupKey 0 t.ss.adhoc).map AdHoc.start = some 110000
      ∧ t.ss.lateDue = [.adhoc 1] ∧ t.ss.endDue = [1]
      ∧ (after1 .occurrenceLateLimit t).sp.airLog = []
      ∧ (lookupKey 0 (after1 .occurrenceLateLimit t).ss.adhoc).isSome = true := by decide +kernel

theorem witness_ServiceTakesItemsOutAndIn_refused :
    status (served (.service (win [1, 7, 0])) run0) = some .badArg
      ∧ status (served (.service (win [2, 4, 0])) run0) = some .badArg
      ∧ status (served (.service (win [0, 4, 2])) run0) = some .badArg := by decide +kernel

theorem witness_HostSetsModesRecordsAndFlags_refused :
    let p := withSet30 { PresetSet.reset with way1 := preset9565, pin1 := 1 }
    let l := [30, 1, 0, 0, 0, 0, 0, 0, 0, 0, 0, 0, 0, 0]
    status (served (.presetMode (win [4])) run0) = some .badArg
      ∧ (0 < (p.presetSet 30).pins 1 ∧ status (served (.writePreset (win l)) p) = some .busy)
      ∧ ((served (.writePreset (win l)) run0).presetSet 30).way1.valid = false := by decide +kernel

/-- Antenna 3 slews and is sensed at 120, or nowhere at 360; antenna 8 does not slew. -/
theorem witness_StartJoins_antennas :
    let s := config.withEd { config.ed with
      everStarted := false
      antennas := config.ed.antennas ++ [(8, { home := 2, bands := 16383, rating := 400, slew := none })] }
    let t := served (.start (win [])) s
    let u := served (.start (win [])) (s.withPins { s.pins with anLines := s.pins.anLines.set 0 360 })
    ((t.anv 3).state = .set ∧ (t.anv 3).az = some 120 ∧ (t.anv 3).homeAbsent = false)
      ∧ ((u.anv 3).state = .fault ∧ (u.anv 3).az = none)
      ∧ ((t.anv 8).state = .set ∧ (t.anv 8).az = none)
      ∧ (t.anv 7).state = .unknown ∧ (t.anv 7).homeAbsent = true := by decide +kernel

theorem witness_StopHaltsAndRestartJoins_assembly :
    let s := (station .halted).withHlc { run0.hlc with rxBits := [true, false], attempt := some 99000 }
    let t := served (.restart (win [])) s
    t.hlc.rxBits = [] ∧ t.hlc.attempt = none ∧ (after1 .pinReset s).hlc.rxBits = [] := by decide +kernel

/-- Bits at the link's line (R16, R25, R33): a frame is taken at its last bit, one that breaks off is bad, and the two
resets discard one being assembled. -/
theorem test_link_bits :
    let f := frameBits head5 (.air 8)
    let whole := f.map LinkEvent.bit
    let part := (f.take 40).map LinkEvent.bit
    linkCommands .ready whole = [.air head5 8]
      ∧ linkCommands .waiting (whole ++ .idle :: whole) = [.air head5 8]
      ∧ linkCommands .ready (part ++ .idle :: whole) = [.badFrame, .air head5 8]
      ∧ linkCommands .ready (part ++ .pinReset :: .idle :: whole) = [.pinReset, .air head5 8]
      ∧ linkCommands .ready (part ++ .restart :: .idle :: whole) = [.air head5 8]
      ∧ linkCommands .ready (.restart :: whole) = []
      ∧ linkCommands .ready (.restart :: .idle :: whole) = [.air head5 8] := by decide +kernel

/-- A turn that is refused: element 4 OUT, a peer's request and one of this station's. -/
theorem witness_DriveTurnMovesElement_refused :
    let s := holding.withEd { holding.ed with driveQ := [request4] }
    let s := s.putElv 4 { s.elv 4 with state := .out }
    let o := s.withEd { s.ed with driveQ := [{ request4 with station := 2 }, request4] }
    ((s.withEd { s.ed with driveQ := [] }).turnRefusal .element request4 = some 2
        ∧ (after1 .driveTurn s).ed.driveQ = []
        ∧ (after1 .driveTurn s).hlc.queue.map QFrame.frame = [.position
          { kind := 0, item := 4, report := 4, value := some 2, motion := 0, reqStation := 5
            reqBooking := 3, reason := 2 }])
      ∧ o.cp.plans = [] ∧ after1 .driveTurn o = o.withEd { o.ed with driveQ := [request4] } := by decide +kernel

/-- A slew turn answered at target, and one refused with no booking held. -/
theorem witness_SlewStartsAndEnds_refused :
    let s := holding.withEd { holding.ed with slewQ := [request3] }
    let t := after1 .slewTurn (showing 0 150 s)
    let none_ := s.withCm { s.cm with map := [] }
    let o := none_.withEd { s.ed with slewQ := [{ request3 with station := 2 }] }
    (t.ed.slew = none ∧ t.ed.slewQ = [] ∧ (t.anv 3).state = .set ∧ (t.anv 3).az = some 150)
      ∧ ((none_.withEd { none_.ed with slewQ := [] }).turnRefusal .antenna request3 = some 3
        ∧ (after1 .slewTurn none_).hlc.queue.map QFrame.frame = [.position
          { kind := 1, item := 3, report := 4, value := some 150, motion := 0, reqStation := 5
            reqBooking := 3, reason := 3 }])
      ∧ (after1 .slewTurn o).ed.slewQ = [] ∧ (after1 .slewTurn o).hlc.queue = [] := by decide +kernel

/-- The rows of R45 for a MOVE that passes every test: the item stands elsewhere or at target, the request is queued or
not, the item's own motion goes elsewhere or there. -/
theorem witness_RequestsAndReportsOfItems_rows :
    let one := after1 (.move head5 0 4 3 2)
    let late := { request4 with target := 1 }
    let q := holding.withEd { holding.ed with driveQ := [late] }
    let moving := fun r : Request => holding.withEd { holding.ed with motion := some { req := r, count := 3, timer := 5 } }
    (one q).ed.driveQ = [request4]
      ∧ ((one (showing 2 120 q)).ed.driveQ = [] ∧ ((one (showing 2 120 q)).elv 4).pos = some 2
        ∧ (one (showing 2 120 q)).ed.motion = none)
      ∧ ((one (showing 2 120 holding)).ed.driveQ = [] ∧ ((one (showing 2 120 holding)).elv 4).pos = some 2)
      ∧ ((one (moving request4)).ed = (moving request4).ed ∧ (one (moving late)).ed.driveQ = [request4])
      ∧ (one ((moving late).withEd { (moving late).ed with driveQ := [late] })).ed.driveQ = [request4]
      ∧ (after1 (.move head5 1 3 3 150) (showing 0 150 holding)).anv 3
        = { holding.anv 3 with state := .set, az := some 150 } := by decide +kernel

/-- No tick up to the request's limit: the pick is refused. -/
theorem witness_StartCheckCountsRecentIntents_noTick :
    let two := checking [99001, 99500]
    let s := two.withRl { two.rl with request := some { heldPick with limit := 100000 } }
    let t := after1 .startCheck s
    (s.checkReady.isSome = true
        ∧ (s.withRl { s.rl with intents := s.rl.intents.filter fun z => !z.isPending }).findTick
          { heldPick with limit := 100000, desired := 100000, lowest := 100000 } = none)
      ∧ t.ts.state = .down ∧ t.ts.sent = [.down] ∧ t.rl.request = none
      ∧ t.hlc.queue.map QFrame.frame = [.rampCancel 4]
      ∧ t.cp.plans.map (fun q => (q.state, q.pendOut, q.cause)) = [(.ending, some .missed, some .lateLimit)]
      ∧ t.cm.own.map OwnBooking.state = [.ending] := by decide +kernel

/-- Now is week tick 0: the occurrence of day 3, 11:55, is before its late limit although its start lies less than half a
week ahead and the limit more (R104, R107). -/
theorem witness_LateLimitsAndEnds_absolute :
    let e := { entry2 with minute := 715, days := 8 }
    let s := ((station .running).withSs { run0.ss with
      active := { run0.ss.active with entries := [(2, e)] }, lateDue := [.table 2 3] }).withTb { run0.tb with sow := 0 }
    let noon := s.withTb { s.tb with sow := 302400 }
    s.now = 0 ∧ e.airStart 3 = 30210000 ∧ s.cfg.tLATE = 6000 ∧ s.pastLate = []
      ∧ (after1 .occurrenceLateLimit s).sp.airLog = [] ∧ (after1 .occurrenceLateLimit s).ss.active = s.ss.active
      ∧ noon.pastLate = [.table 2 3]
      ∧ (after1 .occurrenceLateLimit noon).sp.airLog.map (fun r => (r.a, r.outcome)) = [(30210000, .missed)] := by
  decide +kernel

/-- The route to antenna 3, home, with an element at home and one at a peer. -/
theorem witness_SwitchingAndGuardTimer_home :
    let steps := [(4, 1), (9, 0)]
    let p := { plan1 .ready with ant := 3, az := some 150, route := some 13 }
    let b := { booking .booked with desc := { desc1 with steps := steps, antenna := some 3, azimuth := some 150 } }
    let s := (withPlan run0 p b).withEd { run0.ed with routes := [(13, { antenna := 3, pref := 0, steps := steps })] }
    let t := after1 .switchingStart s
    let ask := fun item target : Nat => ({ item := item, target := target, station := 2, booking := 1 } : Request)
    (s.planMoves p = [(.element, 4, 1), (.element, 9, 0), (.antenna, 3, 150)]
        ∧ containsTick b.desc.start b.desc.stop s.now = true ∧ s.routeSteps p = steps
        ∧ (s.predict { p with switchedAt := some s.now } (p.w.getD s.now) (s.pathTime 3 (some 150) steps)).beyond = false
        ∧ s.sensed .element 4 = some 0 ∧ s.sensed .antenna 3 = some 120)
      ∧ t.ed = { s.ed with driveQ := [ask 4 1], slewQ := [ask 3 150] }
      ∧ t.hlc.queue.map QFrame.frame = [.move 0 9 1 0]
      ∧ t.cp.plans.map Plan.state = [.switching] ∧ t.cm.own.map OwnBooking.state = [.moving] := by decide +kernel

/-- A POSITION that changes only the motion history is a change of the view (R37): a BLOCKED plan chooses again (R141). -/
theorem test_history_retries_blocked :
    let s := run0.withCp { run0.cp with plans := [{ plan1 .blocked with booking := none, route := none }] }
    let p : PosReport :=
      { kind := 0, item := 9, report := 1, value := some 1, motion := 120, reqStation := 255
        reqBooking := 255, reason := 0 }
    (s.elv 9).state = .set ∧ (s.elv 9).pos = some 1
      ∧ (after1 (.position head5 p) s).cp.plans.map Plan.state = [.routing]
      ∧ (after1 (.position head5 { p with motion := 0 }) s).cp.plans.map Plan.state = [.blocked] := by decide +kernel

/-- A tick and an edge at a second's end in STOPPING, the one plan ENDING. -/
theorem witness_TicksMakeSeconds_stopping :
    let s := (withPlan (station .stopping) (plan1 .ending) (booking .ending)).withTb { run0.tb with tis := 99 }
    let s := withSeq (s.withSp { s.sp with restartMark := true }) .down
    let e := s.withTb { s.tb with capCount := 10000000 }
    s.stopEnds = true ∧ (after1 .tick s).tb.sow = 1001 ∧ (after1 .tick s).tb.tis = 0
      ∧ (after1 (.ppsEdge 0) e).tb.sow = 1001 ∧ (after1 (.ppsEdge 0) e).tb.d = 100000 := by decide +kernel

/-- A presence byte holds presence in bit 7 and a phase code of up to 7 in bits 2-0 (R194, R202). -/
theorem test_presence_byte :
    let s := fun present ph => run0.withHlc { run0.hlc with
      presence := run0.hlc.presence.set 5 { present := present, absence := none, heard := some (ph, 3) } }
    (s true 2).peerBytes 5 = [130#8, 3#8] ∧ (s false 7).peerBytes 5 = [7#8, 3#8] := by decide +kernel

/-- A peer's REFUSED of an antenna with the number of the exercised element, naming the exercise's booking, goes to the
planner and leaves the exercise (R38). -/
theorem test_refused_leaves_exercise :
    let s := exercising .outward (exBooking .moving) .moving
    let s := s.withEd { s.ed with
      antennas := [(4, { home := 5, bands := 16383, rating := 500, slew := none })] }
    let p : PosReport :=
      { kind := 1, item := 4, report := 4, value := some 1, motion := 0, reqStation := 2
        reqBooking := 1, reason := 3 }
    s.ed.exercise.isSome = true ∧ after1 (.position head5 p) s = s.withHlc { s.hlc with seq := 1 } := by decide +kernel

/-- A void-pin notice that names plan 0's pin computes READY plan 1 again too, which is beyond its limit by now (R143). -/
theorem test_voidPin_recomputes_ready :
    let p := { plan1 .ready with pin := some (30, 1), preset := .fresh, late := 400000 }
    let q := { plan1 .ready with id := 1, a := 100500, z := 101000, late := 100800, booking := some 2 }
    let b := fun (n id : Nat) => { booking .booked with desc := { desc1 with num := n }, req := .plan id }
    let s := (run0.withCp { run0.cp with plans := [p, q] }).withCm { run0.cm with own := [b 1 0, b 2 1] }
    let t := s.voidPin 30 1
    t.cp.plans.map (fun x => (x.id, x.pin, x.preset)) = [(0, none, .miss)]
      ∧ t.sp.airLog.map (fun x => (x.a, x.outcome)) = [(100500, .missed)] := by decide +kernel

/-- The same with a READY continuation behind the plan, which releases its booking and stands BLOCKED with no route in
service (R134). -/
theorem witness_StartCheckCountsRecentIntents_continuation :
    let two := out9 (checking [99001, 99500])
    let c := { plan1 .ready with id := 1, a := 430000, z := 490000, cont := true, booking := some 2 }
    let b := { booking .booked with desc := { desc1 with num := 2, start := 430000, stop := 490000 }, req := .plan 1 }
    let s := (two.withCp { two.cp with plans := two.cp.plans ++ [c] }).withCm { two.cm with own := two.cm.own ++ [b] }
    let s := s.withRl { s.rl with request := some { heldPick with limit := 100000 } }
    let t := after1 .startCheck s
    (s.checkReady.isSome = true ∧ (s.cp.plans.map Plan.id).Nodup)
      ∧ t.ts.state = .down ∧ t.hlc.queue.map QFrame.frame = [.release 2, .rampCancel 4]
      ∧ t.cp.plans.map (fun q => (q.id, q.state, q.pendOut)) = [(0, .ending, some .missed), (1, .blocked, none)]
      ∧ t.cm.own.map (fun x => (x.desc.num, x.state)) = [(1, .ending)] := by decide +kernel

/-! ## Invariants -/

theorem witness_PinResetReturnsEveryBlock :
    after1 .pinReset run0 = { State.reset with pins := run0.pins } := by decide +kernel

theorem witness_TimebaseStaysInRange :
    let s := run0.withPending [.tick]
    let tb := fun x : Timebase => (run0.withTb x).timeInRange
    s.timeInRange = true ∧ (nextOf (step s)).timeInRange = true
      ∧ tb { run0.tb with tis := 100 } = false ∧ tb { run0.tb with divCount := run0.tb.d } = false
      ∧ tb { run0.tb with capCount := 20000001 } = false ∧ tb { run0.tb with capCount := 20000000 } = true
      ∧ tb { run0.tb with offsets := run0.tb.offsets.set 6 (some 302400) } = false
      ∧ tb { run0.tb with offsets := run0.tb.offsets.set 6 (some (-302400)) } = true := by decide +kernel

theorem witness_FormsAreKept :
    let s := run0.withPending [.claim head5 claim5]
    let on := after1 (.stop (win [])) (withSeq (withPlan run0 (plan1 .onAir) (booking .active)) .onAir)
    let t := nextOf (step (on.withPending [.commandCompletion]))
    s.formsKept = true ∧ (nextOf (step s)).formsKept = true
      ∧ (on.stopEnds = true ∧ t.sp.phase = .stopping ∧ t.stopEnds = true ∧ t.cp.plans.map Plan.state = [.ending])
      ∧ (on.setPhase .stopping).stopEnds = false
      ∧ ({ ClaimMap.reset with map := [rec5 .heard 0, rec5 .heard 0] } : ClaimMap).mapForm = false := by decide +kernel

/-! ## Clauses of a tune that begins (R147) -/

/-- Station 2 with a plan SWITCHING for A 130000, whose booking is about to be CONFIRMED. -/
def confirming (a : Nat) (p : Plan) : State :=
  withPlan run0 { p with a := a, r := some (subT a 100) } { booking .moving with confirm := some 0 }

/-- The pick of a plan of `confirming` whose tune takes `tune` ticks. -/
def tunePick (a tune limit : Nat) : PickReq :=
  { plan := 0, desired := later (subT a 100) (100000 + tune), lowest := 100000 + tune, limit := limit, bySeq := false
    waiting := false }

theorem witness_ListenAndConfirmTimersEnd_tune :
    let p := { plan1 .switching with a := 130000, r := some 129900 }
    let s := confirming 130000 (plan1 .switching)
    let t := after1 (.confirmTimerEnd 1) s
    (s.pendingIntent = none ∧ s.currentPlan = some p ∧ s.stands desc1 = true
        ∧ s.findTick (tunePick 130000 3000 135901) = some 129900)
      ∧ t.cm.own = [booking .confirmed] ∧ (t.ts.state, t.ts.tuneT) = (.tuning, some 3300)
      ∧ (t.plan 0).map (fun q => (q.state, q.tunedAt, q.intent))
        = some (.tuning, some 100000, some (1, 129900))
      ∧ (t.plan 0).map (fun q => (q.predTune, q.predFull, q.u)) = some (some 103000, some 130000, some 126800)
      ∧ t.rl.request = some (tunePick 130000 3000 135901)
      ∧ t.hlc.queue.map QFrame.frame = [.rampIntent 1 129900] := by decide +kernel

theorem witness_ListenAndConfirmTimersEnd_waits :
    let s := confirming 130000 (plan1 .switching)
    let s := s.withHlc { s.hlc with
      queue := (List.range 16).map fun k => queued (.rampCancel k) 0 false, slots := [.rampCancel 99] }
    let t := after1 (.confirmTimerEnd 1) s
    s.hlc.queue.length + s.hlc.slots.length = 17
      ∧ t.rl.request = some { tunePick 130000 3000 135901 with waiting := true } ∧ t.rl.intents = []
      ∧ (t.plan 0).map (fun q => (q.state, q.intent)) = some (.tuning, none) := by decide +kernel

/-- Two intents at the only tick that the limit leaves, so that none is found. -/
theorem witness_ListenAndConfirmTimersEnd_noTick :
    let s := confirming 103000 { plan1 .switching with z := 103101 }
    let s := s.withRl { s.rl with intents := [peerIntent 1 103000 1, peerIntent 2 103001 2] }
    let t := after1 (.confirmTimerEnd 1) s
    s.findTick (tunePick 103000 3000 103001) = none
      ∧ t.cm.own = [{ booking .ending with relPending := true }] ∧ t.ts.state = .down
      ∧ t.ts.sent = [.set 9565 3, .autotune, .down]
      ∧ (t.plan 0).map (fun q => (q.state, q.pendOut, q.cause))
        = some (.ending, some .missed, some .lateLimit) := by decide +kernel

theorem witness_ListenAndConfirmTimersEnd_beyond :
    let s := confirming 96899 (plan1 .switching)
    let on := s.withPins { s.pins with rfs := true }
    let t := after1 (.confirmTimerEnd 1) s
    let u := after1 (.confirmTimerEnd 1) on
    let last := after1 (.confirmTimerEnd 1) (confirming 97100 (plan1 .switching))
    (s.openOccs = [] ∧ t.ts.sent = [] ∧ t.cm.own = [] ∧ t.cp.plans = [] ∧ t.cp.guardT = some 50
        ∧ t.sp.airLog.map AirRecord.outcome = [.missed] ∧ t.hlc.queue.map QFrame.frame = [.release 1])
      ∧ (u.ts.sent = [] ∧ u.cm.own = [{ booking .ending with relPending := true }]
        ∧ (u.plan 0).map Plan.state = some .ending)
      ∧ last.ts.state = .tuning := by decide +kernel

theorem witness_ListenAndConfirmTimersEnd_window :
    let s := confirming 130000 { plan1 .switching with pin := some (30, 0), preset := .stale, t := 400 }
    let s := (s.setPresetSet 30 { PresetSet.reset with way0 := preset9565, pin0 := 1 }).withPd
      { (s.setPresetSet 30 { PresetSet.reset with way0 := preset9565, pin0 := 1 }).pd with
        windows := [{ enabled := true, base := 9565, k := 4 }] }
    let t := after1 (.confirmTimerEnd 1) s
    s.inWindow 9565 = true ∧ t.ts.sent = [.set 9565 3, .autotune] ∧ (t.presetSet 30).pin0 = 0
      ∧ (t.plan 0).map (fun q => (q.preset, q.t, q.pin)) = some (.nopreset, 3000, none) := by decide +kernel

/-! ## Clauses of a CLAIM (R70, R71) -/

/-- Two own bookings MOVING that conflict with `claim5` rank alike but for their class; the better is named. A record that
stood OBJECTED is not objected to again; an OBJECT that finds CM's pending slot taken is owed. -/
theorem witness_ClaimsArePlacedAndDisplace_object :
    let c := Instr.claim head5 claim5
    let better := { booking .moving with desc := { desc1 with num := 3, cls := 3 } }
    let s := run0.withCm { run0.cm with own := [booking .moving, better] }
    let again := s.withCm { s.cm with map := [{ desc := claim5, announced := 0, mark := .objected }] }
    let full := s.withHlc { s.hlc with
      queue := (List.range 16).map fun k => queued (.rampCancel k) 0 false, slots := [.release 9] }
    better.standing.ahead (booking .moving).standing = true
      ∧ (after1 c s).hlc.queue.map QFrame.frame = [.object 5 20 3]
      ∧ ((after1 c again).hlc.queue = [] ∧ ((after1 c again).peerRec 5 20).map PeerRec.mark = some .objected)
      ∧ (after1 c full).cm.owedObj = [(5, 20, 3)] := by decide +kernel

/-- Of the records of others the conflicting held one is YIELDED and the other stays; of two own bookings displaced the
unsent one owes its RELEASE to its SENT report. -/
theorem witness_ClaimsArePlacedAndDisplace_yielded :
    let far := { rec5 .heard 0 with desc := { desc5 with holder := 7, start := 400000, stop := 410000 } }
    let low := { rec5 .heard 2 with desc := { desc5 with holder := 6, cls := 0, stamp := 40 } }
    let late := { rec5 .heard 0 with desc := { desc5 with holder := 6, num := 9, cls := 0, stamp := 40 } }
    let b := fun (n : Nat) (sent : Bool) =>
      ({ booking .tentative with sent := sent, desc := { desc1 with num := n, cls := 0, stamp := 40 } } : OwnBooking)
    let s := run0.withCm { run0.cm with own := [b 1 true, b 2 false], map := [late, far] }
    let t := after1 (.claim head5 claim5) s
    (s.quiet = true ∧ low.standing.ahead late.standing = true)
      ∧ (t.peerRec 6 9 = some { late with mark := .yielded } ∧ t.peerRec 7 8 = some far)
      ∧ t.cm.own = [] ∧ t.cm.unsent = [2] ∧ t.hlc.queue.map QFrame.frame = [.release 1] := by decide +kernel

/-! ## Clauses of a passed start check (R149, R162) -/

theorem witness_StartCheckCountsRecentIntents_ramping :
    let s := checking [99001]
    let t := after1 .startCheck s
    (s.pathWhole = true ∧ s.checkReady.map (fun c => c.1.id) = some 0)
      ∧ t.cm.own = [booking .active] ∧ (t.plan 0).map Plan.state = some .ramping
      ∧ (t.ts.state, t.ts.p, t.ts.ceiling) = (.ramping, 250, 250)
      ∧ (t.ts.atpT, t.ts.meterGap, t.ts.upSent) = (some 400, some 0, true) := by decide +kernel

/-- The AIR that finds CM's slot taken is owed; a restart keeps P and fold state, and its ACTIVE booking stays. -/
theorem witness_StartCheckCountsRecentIntents_owed :
    let s := checking []
    let full := s.withHlc { s.hlc with
      queue := (List.range 16).map fun k => queued (.rampCancel k) 0 false, slots := [.release 9] }
    let again := (s.withTs { s.ts with upSent := true, p := 180, ceiling := 240, foldCount := 3 }).withCm
      { s.cm with own := [booking .active] }
    let t := after1 .startCheck again
    (full.pathWhole = true ∧ (after1 .startCheck full).cm.own = [{ booking .active with owedAir := true }])
      ∧ (again.pathWhole = true ∧ t.cm = again.cm ∧ t.hlc = again.hlc ∧ t.ts.sent = [.up 180]
        ∧ (t.ts.p, t.ts.ceiling, t.ts.foldCount) = (180, 240, 3)) := by decide +kernel

/-! ## Clauses of an until that falls due (R69) -/

/-- The booking of a plan ON-AIR is extended; of the records of others that conflict with the longer interval the one not yet
OBJECTED is objected to, and the one that holds another element stays. -/
theorem witness_OwnUntilRemovesOrExtends_current :
    let b := { booking .active with desc := { desc1 with stop := 100000 } }
    let rec6 := { rec5 .objected 0 with desc := { desc5 with holder := 6, start := 100500 } }
    let rec7 := { rec5 .heard 0 with desc := { desc5 with holder := 7, antenna := none, steps := [(4, 0)] } }
    let s := (withSeq (withPlan run0 (plan1 .onAir) b) .onAir).withCm
      { run0.cm with own := [b], map := [{ rec5 .heard 0 with desc := { desc5 with start := 101499 } }, rec6, rec7] }
    let t := after1 .ownBookingUntil s
    recsRise s.cm.map = true
      ∧ t.cm.own = [{ b with desc := { desc1 with stop := 101500 } }]
      ∧ t.cm.map.map PeerRec.mark = [.objected, .objected, .heard]
      ∧ t.hlc.queue.map QFrame.frame = [.object 5 8 1] ∧ t.cp = s.cp ∧ t.ts = s.ts := by decide +kernel

theorem witness_OwnUntilRemovesOrExtends_kept :
    let b := { booking .active with desc := { desc1 with start := 51581499, stop := 100000 } }
    let s := withSeq (withPlan run0 (plan1 .onAir) b) .onAir
    due b.desc.stop s.now = true ∧ fd b.desc.start (addT s.now (3 * s.cfg.tBCN)) = 9000001
      ∧ exec .ownBookingUntil s = .next (s.withReports []) := by
  refine ⟨?_, ?_, ?_⟩ <;> first | decide +kernel | rfl

/-! ## Clauses of a freed place (R81, R42, R145, R88) -/

/-- Station 2 with one frame pending and a queue of `n` frames. -/
def onePending (n : Nat) (f : Frame) (s : State) : State :=
  s.withHlc { s.hlc with queue := (List.range n).map fun k => queued (.rampCancel (100 + k)) 0 false, slots := [f] }

/-- The last `k` frames in the queue, and the pending ones, after the place is given away. -/
def freed (k : Nat) (s : State) : List Frame × List Frame :=
  let t := after1 .pendingSlotEmptied s
  ((t.hlc.queue.map QFrame.frame).take k, t.hlc.slots)

theorem witness_FreedPlaceTakesPendingFrame_airs :
    let b := fun (n : Nat) (st : BkState) =>
      ({ booking st with owedAir := true, desc := { desc1 with num := n } } : OwnBooking)
    let c := (onePending 0 (.release 9) run0).withCm
      { run0.cm with own := [b 1 .active, b 2 .moving], owedRel := [4] }
    (c.cm.own.map fun b => b.desc.num).Nodup
      ∧ freed 3 c = ([.air 1, .release 9, .release 4], [])
      ∧ (after1 .pendingSlotEmptied c).cm.own.map OwnBooking.owedAir = [false, false] := by decide +kernel

theorem witness_FreedPlaceTakesPendingFrame_positions :
    let s := (onePending 0 (.release 9) run0).withEd { run0.ed with
      elView := [(4, { ElView.fresh with state := .set, pos := some 2, motion := 90, owed := true }), (9, ElView.fresh)] }
    let pos : Frame := .position
      { kind := 1, item := 3, report := 1, value := none, motion := 0, reqStation := 255, reqBooking := 255
        reason := 0 }
    let s := s.withHlc { s.hlc with slots := [pos] }
    let t := after1 .pendingSlotEmptied s
    s.owedItems = [(.element, 4)] ∧ keysRise s.ed.elView = true
      ∧ t.hlc.queue.map QFrame.frame = [pos, s.positionFrame .element 4]
      ∧ t.ed.elView.map (fun v => v.2.owed) = [false, false] := by decide +kernel

theorem witness_FreedPlaceTakesPendingFrame_moves :
    let s := withPlan run0 (plan1 .switching) (booking .moving)
    let s := (onePending 0 (.move 0 9 1 5) s).withCp { s.cp with owedMoves := [(.element, 9)] }
    s.planMoves (plan1 .switching) = [(.element, 9, 1)]
      ∧ freed 2 s = ([.move 0 9 1 5, .move 0 9 1 1], [])
      ∧ (after1 .pendingSlotEmptied s).cp.owedMoves = [] := by decide +kernel

theorem witness_FreedPlaceTakesPendingFrame_pick :
    let s := withSeq (withPlan run0 (plan1 .tuning) (booking .confirmed)) .tuning
    let q := { tunePick 130000 3000 135901 with waiting := true }
    let s := (onePending 0 (.rampCancel 9) s).withRl { s.rl with request := some q, owedCancel := [8] }
    let t := after1 .pendingSlotEmptied s
    s.findTick (q.raise s.now) = some 129900
      ∧ freed 3 s = ([.rampCancel 9, .rampCancel 8, .rampIntent 1 129900], [])
      ∧ t.rl.request = some { q with waiting := false } ∧ (t.plan 0).map Plan.intent = some (some (1, 129900)) := by
  decide +kernel

theorem witness_FreedPlaceTakesPendingFrame_held :
    let c := onePending 15 (.release 9) (run0.withCm { run0.cm with owedObj := [(5, 1, 2), (6, 1, 3)] })
    let r : RefusedMove := { kind := 0, item := 4, target := 7, station := 5, booking := 3, reason := 1 }
    let e := onePending 15 r.frame (run0.withEd { run0.ed with refusals := [r, { r with item := 5 }] })
    let l := onePending 15 (.rampCancel 3) (run0.withRl { run0.rl with owedCancel := [4, 5] })
    (frameBlock (.release 9) = .cm ∧ (freed 0 c).2 = [.object 5 1 2]
        ∧ (after1 .pendingSlotEmptied c).cm.owedObj = [(6, 1, 3)])
      ∧ (frameBlock r.frame = .ed ∧ e.owedItems = [] ∧ (freed 0 e).2 = [r.frame]
        ∧ (after1 .pendingSlotEmptied e).ed.refusals = [{ r with item := 5 }])
      ∧ (frameBlock (.rampCancel 3) = .rl ∧ (freed 0 l).2 = [.rampCancel 4]
        ∧ (after1 .pendingSlotEmptied l).rl.owedCancel = [5]) := by decide +kernel

/-! ## The tests at a turn (R44) -/

/-- Of a booking whose interval contains now, the item OUT, another booking ACTIVE on it, its interval past, another position
booked; and an exercise's booking, which passes with any position. -/
theorem witness_DriveTurnMovesElement_tests :
    let s := holding
    let own := (exBooking .booked).desc
    let rival := { booking .active with desc := { desc1 with num := 3, cls := 0, stop := 100000, steps := [(4, 1)] } }
    let ended := s.withCm { s.cm with map := [{ held4 with desc := { held4.desc with stop := 100000 } }] }
    let x : Request := { item := 4, target := 3, station := 2, booking := own.num }
    let ex := run0.withCm { run0.cm with own := [exBooking .booked] }
    let asked := (run0.withCm { run0.cm with own := [{ exBooking .booked with req := .plan 0 }] })
    (s.turnRefusal .element request4 = none
        ∧ (s.putElv 4 { s.elv 4 with state := .out }).turnRefusal .element request4 = some 2)
      ∧ ((s.withCm { s.cm with own := [rival] }).turnRefusal .element request4 = some 4
        ∧ ended.turnRefusal .element request4 = some 3
        ∧ s.turnRefusal .element { request4 with target := 3 } = some 3)
      ∧ (own.steps.any (fun st => st.1 == 4) = true ∧ own.steps.contains (4, 3) = false
        ∧ ex.turnRefusal .element x = none ∧ asked.turnRefusal .element x = some 3) := by decide +kernel

/-! ## Estimates, path time, prediction, bands and overlap (R41, R136, R139, R99, R101, R103) -/

/-- The guard timer's end puts switching off past W; an estimate takes the longest motion of the history; standing items leave
a path time of 0; a slew from an absent azimuth takes the farther limit. -/
theorem witness_PlanningInstantTakesOccurrence_prediction :
    let s := (loaded run0).withCp { run0.cp with guardT := some 17000 }
    let s := s.putElv 4 { s.elv 4 with history := [231, 248, 236] }
    let x := (s.planOn (s.newPlan 0 (s.tableOffer 2 entry2 0)) 11 [(4, 1)]).1
    let stood := (withPlan run0 (plan1 .tuning) (booking .confirmed)).pathTime 7 none [(9, 1)]
    let lost := run0.withEd { run0.ed with anView := [(3, AnView.fresh)] }
    s.estimate 4 = 248 + 31 ∧ x.path = 279
      ∧ (x.w = some 116511 ∧ x.swTick = some 117000 ∧ x.predTune = some 120289 ∧ x.predFull = some 120389
        ∧ x.lateness = 389)
      ∧ stood = 0 ∧ run0.pathTime 3 (some 150) [] = 1000 ∧ lost.pathTime 3 (some 120) [] = 2667 := by decide +kernel

theorem witness_TablesAreLoadedAndSwapped_bands :
    let at' := fun (day minute dur : Nat) => ({ entry2 with days := 2 ^ day, minute := minute, dur := dur } : Entry)
    let adhoc := fun (start dur : Nat) => ({ (adhocOf (bs (List.replicate 17 0))).2 with start := start, dur := dur } : AdHoc)
    ((bandOf 2299, bandOf 2300, bandOf 2495, bandOf 2496) = (none, some 0, some 0, none)
        ∧ (bandOf 9400, bandOf 25670, bandOf 26100, bandOf 26101) = (some 6, some 13, some 13, none))
      ∧ ((at' 6 1439 2).overlapsWith (at' 0 0 1) = true ∧ (at' 6 1439 1).overlapsWith (at' 0 0 1) = false
        ∧ (at' 0 0 1).overlapsWith (at' 6 1439 2) = true)
      ∧ ((adhoc 100000 1).overlapsWith (adhoc 105999 1) = true
        ∧ (adhoc 100000 1).overlapsWith (adhoc 106000 1) = false) := by decide +kernel

theorem witness_WindowsAreJudgedInOrder_table :
    let route := fun n : Nat => payloadLength 5 (bs [11, 3, 0, n])
    (route 0, route 1, route 6, route 7) = (none, some 6, some 16, none) ∧ payloadLength 5 (bs [11, 3, 0]) = none
      ∧ (payloadLength 1 [], payloadLength 2 [], payloadLength 27 []) = (some 9, some 47, some 0)
      ∧ (takenIn 7 .config, takenIn 7 .running, takenIn 15 .linkFault, takenIn 21 .config) = (true, false, true, false)
      ∧ (takenIn 26 .joining, takenIn 27 .joining, takenIn 27 .linkFault, takenIn 28 .running)
        = (true, false, true, false)
      ∧ windowCommand (bs [27, 0]) = some (.restart (bs [0]))
      ∧ windowCommand (bs [28]) = some (.unknownCommand (byte 28) []) := by decide +kernel

/-! ## Cancelling an entry that has a plan (R112, R154) -/

/-- Table place 2 loaded for a day long past, so that none of its occurrences is open. -/
def loaded2 (s : State) : State :=
  s.withSs { s.ss with active := { entries := [(2, { entry2 with minute := 1400, days := 64 })], floor := none } }

theorem witness_EntriesAreCancelled_waiting :
    let p := { plan1 .ready with pin := some (30, 0) }
    let s := loaded2 ((withPlan run0 p (booking .booked)).setPresetSet 30 { PresetSet.reset with pin0 := 2 })
    let t := served (.cancelEntry (win [0, 2])) s
    (s.openOccs = [] ∧ s.pendingIntent = none ∧ s.ownBooking 1 = some (booking .booked))
      ∧ t.cp.plans = [] ∧ t.cm.own = [] ∧ (t.presetSet 30).pin0 = 1
      ∧ t.ss.active.entries.map (fun q => q.2.cancelled) = [true]
      ∧ t.sp.airLog = [p.record .missed (some .cancelled)] ∧ t.hlc.queue.map QFrame.frame = [.release 1] := by
  decide +kernel

theorem witness_EntriesAreCancelled_current :
    let p := { plan1 .onAir with firstFull := some 99000 }
    let s := loaded2 (withSeq (withPlan run0 p (booking .active)) .onAir)
    let t := served (.cancelEntry (win [0, 2])) s
    let again := loaded2 (withPlan run0 { p with state := .ending, pendOut := some .missed } (booking .ending))
    (s.currentPlan = some p ∧ s.openOccs = [])
      ∧ (t.cp.plans = [{ p with state := .ending, pendOut := some .cut, cause := some .cancelled }]
        ∧ t.cm.own = [{ booking .ending with relPending := true }]
        ∧ (t.ts.state, t.ts.rfoffT) = (.down, some 400) ∧ t.ts.sent = [.down])
      ∧ (served (.cancelEntry (win [0, 2])) again).cp = again.cp := by decide +kernel

theorem witness_EntriesAreCancelled_adhoc :
    let x : AdHoc :=
      { start := 101000, dur := 50, freq := 9565, ant := 7, az := none, power := 250, program := 3, cls := 3, taken := true }
    let on := fun (s : State) (b : Bool) => s.withSs { s.ss with adhoc := [(4, { x with taken := b })] }
    let s := on (withPlan run0 { plan1 .switching with src := .adhoc 4 } (booking .moving)) true
    let t := served (.cancelEntry (win [1, 4])) s
    let trip := served (.cancelEntry (win [1, 4]))
      (on (withSeq (withPlan run0 { plan1 .rampWait with src := .adhoc 4 } (booking .active)) .tripped) true)
    let free := served (.cancelEntry (win [1, 4])) (on run0 false)
    (s.openOccs = [] ∧ t.ss.adhoc = [] ∧ t.cp.plans = [] ∧ t.cp.guardT = some 50
        ∧ t.sp.airLog.map AirRecord.outcome = [.cut] ∧ t.hlc.queue.map QFrame.frame = [.release 1])
      ∧ (trip.ts.state = .idle ∧ trip.ss.adhoc = [] ∧ trip.sp.airLog.map AirRecord.cause = [some .cancelled])
      ∧ ((on run0 false).openOccs = [.adhoc 4] ∧ free.ss.adhoc = []
        ∧ free.sp.airLog = [bareRecord (.adhoc 4) 101000 .missed (some .cancelled)]) := by decide +kernel

theorem witness_EntriesAreCancelled_open :
    let s := loaded run0
    let t := served (.cancelEntry (win [0, 2])) s
    s.openOccs = [.table 2 0] ∧ t.sp.airLog = [bareRecord (.table true 2) 120000 .missed (some .cancelled)]
      ∧ t.ss.active.entries = [(2, { entry2 with cancelled := true, mark := some 120000 })] := by decide +kernel

theorem witness_StopHaltsAndRestartJoins_waiting :
    let s := withPlan run0 (plan1 .ready) (booking .booked)
    let t := served (.stop (win [])) s
    let u := served (.restart (win [])) s
    (s.pendingIntent = none ∧ s.sp.resp = .empty)
      ∧ (t.sp.phase = .halted ∧ t.cp.plans = [] ∧ t.cm.own = [] ∧ t.hlc.queue.map QFrame.frame = [.release 1]
        ∧ t.sp.airLog = [(plan1 .ready).record .aborted (some .stop)])
      ∧ (u.sp.phase = .joining ∧ u.cp.plans = [] ∧ u.sp.airLog = [(plan1 .ready).record .aborted (some .restart)]
        ∧ u.hlc.joiningT = some 1000) := by decide +kernel

theorem witness_StopHaltsAndRestartJoins_current :
    let on := withSeq (withPlan run0 (plan1 .ramping) (booking .active)) .ramping
    let off := withPlan run0 (plan1 .switching) (booking .moving)
    let t := served (.stop (win [])) on
    let u := served (.restart (win [])) on
    let v := served (.stop (win [])) off
    (t.sp.phase = .stopping ∧ t.cm.own = [{ booking .ending with relPending := true }] ∧ t.ts.sent = [.down]
        ∧ t.cp.plans = [{ plan1 .ending with pendOut := some .aborted, cause := some .stop }])
      ∧ (u.sp.phase = .stopping ∧ u.sp.restartMark = true ∧ u.ts.state = .down
        ∧ u.cp.plans.map Plan.cause = [some .restart])
      ∧ (v.sp.phase = .halted ∧ v.ts.sent = [] ∧ v.sp.airLog.map AirRecord.outcome = [.aborted]) := by decide +kernel

theorem witness_FormsAreKept_bounds :
    let s := (withSeq (withPlan run0 (plan1 .ramping) (booking .active)) .ramping).withPending [.atPower]
    let s := s.withTs { s.ts with p := 60, ceiling := 250, upSent := true }
    let fold := (withSeq s .onAir).withPending [.meter 200 14]
    let t := nextOf (step s)
    (s.planBound = true ∧ s.cm.ownBound = true ∧ s.rl.intentBound = true ∧ s.ts.powerBound = true
        ∧ s.powerFloor = true)
      ∧ (t.planBound = true ∧ t.ts.state = .onAir ∧ t.cp.plans.map Plan.state = [.onAir] ∧ t.cfg = s.cfg
        ∧ t.ed.antennas = s.ed.antennas ∧ t.powerFloor = true)
      ∧ (nextOf (step fold)).ts.p = 54
      ∧ ((withSeq s .onAir).withTs { s.ts with state := .onAir, p := 49 }).powerFloor = false
      ∧ ({ s.ts with p := 251 } : Sequencer).powerBound = false
      ∧ (s.withCp { s.cp with plans := [plan1 .onAir, { plan1 .switching with id := 1 }] }).planBound = false
      ∧ (s.withCp { s.cp with plans := [plan1 .onAir, plan1 .ready] }).planBound = false
      ∧ (s.withCp { s.cp with plans := [{ plan1 .ready with cmdPower := none }] }).powerFloor = false := by
  decide +kernel

theorem witness_FormsAreKept_counts :
    let rec5 := fun k : Nat => ({ station := 5, num := k, tick := 100000, order := some k, own := none } : Intent)
    let mine := fun k : Nat => { rec5 k with station := 2, own := some .started }
    let ex := { booking .booked with req := .exercise }
    let log := fun l : List Intent => ({ RampLog.reset with intents := l } : RampLog).intentBound
    let own := fun l : List OwnBooking => ({ ClaimMap.reset with own := l } : ClaimMap).ownBound
    (log ((List.range 32).map rec5) = true ∧ log ((List.range 33).map rec5) = false
        ∧ log ((List.range 33).map mine) = true)
      ∧ (own (ex :: List.replicate 4 (booking .booked)) = true ∧ own (List.replicate 5 (booking .booked)) = false
        ∧ own [ex, ex] = false) := by decide +kernel

end Sys2Proof.Tests
end

section
/-! SUPPORT. The clock of the part: timebase, settings, phase, and the flags and directory modes that go with them.
Most of what the part does leaves it as it was; here that is said once of every operation that does, in the order of the
model's files. -/

namespace Sys2Proof.Machine

open Sys2Proof

/-- What the passing of time, the loads of settings, the changes of phase and the modes of the directory move, and
nothing else does. -/
structure Clock where
  tb      : Timebase
  cfg     : Settings
  phase   : Phase
  missing : Bool
  reject  : Bool
  stepped : Bool
  poor    : Bool
  freeze  : Bool
  flush   : Bool
  windows : List FreqWindow

/-- The clock of a state. -/
def State.clock (s : State) : Clock :=
  { tb := s.tb, cfg := s.cfg, phase := s.sp.phase
    missing := s.flags.ppsMissing, reject := s.flags.ppsReject, stepped := s.flags.timeStepped
    poor := s.flags.poorTime, freeze := s.pd.freeze, flush := s.pd.flush, windows := s.pd.windows }

/-! ## Setters -/

@[simp] theorem State.withHlc_clock (s : State) (v : Link) : (s.withHlc v).clock = s.clock := rfl
@[simp] theorem State.withEd_clock (s : State) (v : Drive) : (s.withEd v).clock = s.clock := rfl
@[simp] theorem State.withCm_clock (s : State) (v : ClaimMap) : (s.withCm v).clock = s.clock := rfl
@[simp] theorem State.withRl_clock (s : State) (v : RampLog) : (s.withRl v).clock = s.clock := rfl
@[simp] theorem State.withSs_clock (s : State) (v : Schedule) : (s.withSs v).clock = s.clock := rfl
@[simp] theorem State.withCp_clock (s : State) (v : Planner) : (s.withCp v).clock = s.clock := rfl
@[simp] theorem State.withTs_clock (s : State) (v : Sequencer) : (s.withTs v).clock = s.clock := rfl
@[simp] theorem State.withPins_clock (s : State) (v : Pins) : (s.withPins v).clock = s.clock := rfl
@[simp] theorem State.withFreeCtr_clock (s : State) (v : Nat) : (s.withFreeCtr v).clock = s.clock := rfl
@[simp] theorem State.withReports_clock (s : State) (v : List Report) : (s.withReports v).clock = s.clock := rfl
@[simp] theorem State.withPending_clock (s : State) (v : List Instr) : (s.withPending v).clock = s.clock := rfl
@[simp] theorem State.report_clock (s : State) (rs : List Report) : (s.report rs).clock = s.clock := rfl

@[simp] theorem State.withSp_clock (s : State) (v : Port) (h : v.phase = s.sp.phase) :
    (s.withSp v).clock = s.clock := by
  simp [State.clock, h]

@[simp] theorem State.withPd_clock (s : State) (v : Directory) (h1 : v.freeze = s.pd.freeze)
    (h2 : v.flush = s.pd.flush) (h3 : v.windows = s.pd.windows) : (s.withPd v).clock = s.clock := by
  simp [State.clock, h1, h2, h3]

@[simp] theorem State.withFlags_clock (s : State) (v : Flags) (h1 : v.ppsMissing = s.flags.ppsMissing)
    (h2 : v.ppsReject = s.flags.ppsReject) (h3 : v.timeStepped = s.flags.timeStepped)
    (h4 : v.poorTime = s.flags.poorTime) : (s.withFlags v).clock = s.clock := by
  simp [State.clock, h1, h2, h3, h4]

/-- A fold of operations that leave the clock leaves it. -/
@[simp] theorem foldl_clock {α : Type} (f : State → α → State) (hf : ∀ s x, (f s x).clock = s.clock)
    (l : List α) : ∀ s : State, (l.foldl f s).clock = s.clock := by
  induction l with
  | nil => intro s; rfl
  | cons x rest ih => intro s; exact (ih _).trans (hf s x)

theorem State.clock_of_bookingFrame {s t : State} (h : s.bookingFrame t) : t.clock = s.clock := by
  rw [h]; rfl

/-! ## Occurrences -/

@[simp] theorem State.noteInstants_clock (s : State) (abs0 : Nat) : (s.noteInstants abs0).clock = s.clock := by
  unfold State.noteInstants
  split <;> simp

/-! ## The preset directory (chapter 7) -/

@[simp] theorem State.setPresetSet_clock (s : State) (i : Nat) (x : PresetSet) :
    (s.setPresetSet i x).clock = s.clock := rfl

@[simp] theorem State.dualMatch_clock (s : State) (f a : Nat) : (s.dualMatch f a).clock = s.clock := by
  simp only [State.dualMatch]
  split <;> rfl

@[simp] theorem State.lookup_clock (s : State) (f a : Nat) : (s.lookup f a).1.clock = s.clock := by
  simp only [State.lookup]
  (repeat' split) <;> simp

@[simp] theorem State.releasePin_clock (s : State) (i w : Nat) : (s.releasePin i w).clock = s.clock := rfl

@[simp] theorem State.tuneStartRead_clock (s : State) (i w f a : Nat) :
    (s.tuneStartRead i w f a).1.clock = s.clock := rfl

@[simp] theorem State.fillPreset_clock (s : State) (f a tune load band : Nat) :
    (s.fillPreset f a tune load band).clock = s.clock := by
  simp only [State.fillPreset]
  (repeat' split) <;> simp

@[simp] theorem State.storeTune_clock (s : State) (f a tune load band : Nat) :
    (s.storeTune f a tune load band).clock = s.clock := by
  simp only [State.storeTune]
  (repeat' split) <;> simp

/-! ## The timebase (chapter 1) -/

@[simp] theorem State.afterGate_clock (s : State) (s0 : State) : (s.afterGate s0).clock = s.clock := by
  unfold State.afterGate
  split <;> simp

/-! ## The hall link (chapter 2) -/

@[simp] theorem State.offer_clock (s : State) (f : Frame) :
    (s.offer f).1.clock = s.clock := State.clock_of_bookingFrame (s.bookingFrame_offer f)

@[simp] theorem State.setPeer_clock (s : State) (station : Nat) (e : PeerEntry) :
    (s.setPeer station e).clock = s.clock := rfl

@[simp] theorem State.hearPeer_clock (s : State) (station phase seq : Nat) :
    (s.hearPeer station phase seq).clock = s.clock := rfl

@[simp] theorem State.beaconNow_clock (s : State) : s.beaconNow.clock = s.clock := by simp [State.beaconNow]

/-! ## The claim map (chapter 4) -/

@[simp] theorem State.updOwn_clock (s : State) (num : Nat) (f : OwnBooking → OwnBooking) :
    (s.updOwn num f).clock = s.clock := rfl

@[simp] theorem State.putRec_clock (s : State) (r : PeerRec) : (s.putRec r).clock = s.clock := rfl

@[simp] theorem State.offerRelease_clock (s : State) (num : Nat) :
    (s.offerRelease num).clock = s.clock := State.clock_of_bookingFrame (s.bookingFrame_offerRelease num)

@[simp] theorem State.offerObject_clock (s : State) (claimant claimNum objNum : Nat) :
    (s.offerObject claimant claimNum objNum).clock = s.clock :=
  State.clock_of_bookingFrame (s.bookingFrame_offerObject claimant claimNum objNum)

@[simp] theorem State.offerAir_clock (s : State) (num : Nat) :
    (s.offerAir num).clock = s.clock := State.clock_of_bookingFrame (s.bookingFrame_offerAir num)

@[simp] theorem State.offerOwedObjects_clock (n : Nat) : ∀ s : State, (s.offerOwedObjects n).1.clock = s.clock := by
  induction n with
  | zero => intro s; rfl
  | succ n ih =>
    intro s
    simp only [State.offerOwedObjects]
    (repeat' split) <;> simp [ih]

@[simp] theorem State.offerOwedAirs_clock (l : List Nat) : ∀ s : State, (s.offerOwedAirs l).1.clock = s.clock := by
  induction l with
  | nil => intro s; rfl
  | cons n l ih =>
    intro s
    simp only [State.offerOwedAirs]
    (repeat' split) <;> simp [ih]

@[simp] theorem State.offerOwedReleases_clock (n : Nat) : ∀ s : State, (s.offerOwedReleases n).1.clock = s.clock := by
  induction n with
  | zero => intro s; rfl
  | succ n ih =>
    intro s
    simp only [State.offerOwedReleases]
    (repeat' split) <;> simp [ih]

@[simp] theorem State.cmSlotEmptied_clock (s : State) : s.cmSlotEmptied.clock = s.clock := by
  simp only [State.cmSlotEmptied]
  (repeat' split) <;> simp

@[simp] theorem State.tell_clock (s : State) (req : Requester) (num : Nat) (what : Told) :
    (s.tell req num what).clock = s.clock := rfl

@[simp] theorem State.removeOwn_clock (s : State) (b : OwnBooking) (release : Bool) :
    (s.removeOwn b release).clock = s.clock := State.clock_of_bookingFrame (s.bookingFrame_removeOwn b release)

@[simp] theorem State.endOwn_clock (s : State) (b : OwnBooking) (what : Told) :
    (s.endOwn b what).clock = s.clock := State.clock_of_bookingFrame (s.bookingFrame_endOwn b what)

@[simp] theorem State.releaseTest_clock (s : State) :
    s.releaseTest.clock = s.clock := State.clock_of_bookingFrame (s.bookingFrame_releaseTest)

@[simp] theorem State.releaseBooking_clock (s : State) (num : Nat) :
    (s.releaseBooking num).clock = s.clock := State.clock_of_bookingFrame (s.bookingFrame_releaseBooking num)

@[simp] theorem State.requestBooking_clock (s : State) (req : Requester) (d : Desc) :
    (s.requestBooking req d).1.clock = s.clock := State.clock_of_bookingFrame (s.bookingFrame_requestBooking req d)

@[simp] theorem State.claimSent_clock (s : State) (num : Nat) : (s.claimSent num).clock = s.clock := by
  unfold State.claimSent
  split <;> simp

@[simp] theorem State.claimDropped_clock (s : State) (num : Nat) : (s.claimDropped num).clock = s.clock := by
  simp only [State.claimDropped]
  (repeat' split) <;> simp

@[simp] theorem State.listenEnds_clock (s : State) (num : Nat) : (s.listenEnds num).clock = s.clock := by
  simp only [State.listenEnds]
  (repeat' split) <;> simp

@[simp] theorem State.judgeOne_clock (s : State) (b : OwnBooking) : (s.judgeOne b).clock = s.clock := by
  simp only [State.judgeOne]
  (repeat' split) <;> simp

@[simp] theorem State.judgeItem_clock (s : State) (kind : ItemKind) (item : Nat) :
    (s.judgeItem kind item).clock = s.clock := by simp [State.judgeItem]

@[simp] theorem State.beginMoving_clock (s : State) (num : Nat) : (s.beginMoving num).1.clock = s.clock := by
  simp only [State.beginMoving]
  (repeat' split) <;> simp

@[simp] theorem State.confirmEnds_clock (s : State) (num : Nat) : (s.confirmEnds num).clock = s.clock := by
  simp only [State.confirmEnds]
  (repeat' split) <;> simp

@[simp] theorem State.beginAir_clock (s : State) (num : Nat) : (s.beginAir num).clock = s.clock := by
  simp only [State.beginAir]
  (repeat' split) <;> simp

@[simp] theorem State.handOver_clock (s : State) (pred cont : Nat) : (s.handOver pred cont).1.clock = s.clock := by
  simp only [State.handOver]
  (repeat' split) <;> simp

@[simp] theorem State.displace_clock (s : State) (b : OwnBooking) :
    (s.displace b).clock = s.clock := by simp [State.displace]

@[simp] theorem State.place_clock (s : State) (r : PeerRec) (wasObjected : Bool) :
    (s.place r wasObjected).clock = s.clock := State.clock_of_bookingFrame (s.bookingFrame_place r wasObjected)

@[simp] theorem State.afterMap_clock (s s0 : State) :
    (s.afterMap s0).clock = s.clock := State.clock_of_bookingFrame (s.bookingFrame_afterMap s0)

@[simp] theorem State.keepRecs_clock (s : State) (keep : PeerRec → Bool) : (s.keepRecs keep).clock = s.clock := rfl

@[simp] theorem State.addRec_clock (s : State) (r : PeerRec) :
    (s.addRec r).clock = s.clock := State.clock_of_bookingFrame (s.bookingFrame_addRec r)

@[simp] theorem State.hearClaim_clock (s : State) (d : Desc) : (s.hearClaim d).clock = s.clock := by
  simp only [State.hearClaim]
  (repeat' split) <;> simp

@[simp] theorem State.hearObject_clock (s : State) (claimant num : Nat) :
    (s.hearObject claimant num).clock = s.clock := by
  simp only [State.hearObject]
  (repeat' split) <;> simp

@[simp] theorem State.hearRelease_clock (s : State) (sender num : Nat) :
    (s.hearRelease sender num).clock = s.clock := by simp [State.hearRelease]

@[simp] theorem State.hearAir_clock (s : State) (sender num : Nat) : (s.hearAir sender num).clock = s.clock := by
  unfold State.hearAir
  split <;> simp

@[simp] theorem State.hearEntry_clock (s : State) (e : Desc × Nat) : (s.hearEntry e).clock = s.clock := by
  simp only [State.hearEntry]
  (repeat' split) <;> simp

@[simp] theorem State.hearList_clock (s : State) (sender ctr : Nat) (l : List (Desc × Nat)) :
    (s.hearList sender ctr l).clock = s.clock := by simp [State.hearList]

@[simp] theorem State.expireRecs_clock (s : State) : s.expireRecs.clock = s.clock := by simp [State.expireRecs]

@[simp] theorem State.dropPeerRecs_clock (s : State) (station : Nat) :
    (s.dropPeerRecs station).clock = s.clock := by simp [State.dropPeerRecs]

@[simp] theorem State.emptyMap_clock (s : State) : s.emptyMap.clock = s.clock := by simp [State.emptyMap]

@[simp] theorem State.untilOne_clock (s : State) (b : OwnBooking) : (s.untilOne b).clock = s.clock := by
  unfold State.untilOne
  split <;> simp

@[simp] theorem State.ownUntils_clock (s : State) : s.ownUntils.clock = s.clock := by simp [State.ownUntils]

@[simp] theorem State.cmStop_clock (s : State) : s.cmStop.clock = s.clock := by simp [State.cmStop]

@[simp] theorem State.cmLinkFault_clock (s : State) : s.cmLinkFault.clock = s.clock := by simp [State.cmLinkFault]

/-! ## The element drive (chapter 3) -/

@[simp] theorem State.putElv_clock (s : State) (id : Nat) (v : ElView) : (s.putElv id v).clock = s.clock := rfl

@[simp] theorem State.putAnv_clock (s : State) (id : Nat) (v : AnView) : (s.putAnv id v).clock = s.clock := rfl

@[simp] theorem State.driveElLines_clock (s : State) (el : Nat) (valid : Bool) (code : Nat) :
    (s.driveElLines el valid code).clock = s.clock := by
  unfold State.driveElLines
  split <;> simp

@[simp] theorem State.driveAnLines_clock (s : State) (an code : Nat) : (s.driveAnLines an code).clock = s.clock := by
  unfold State.driveAnLines
  split <;> simp

@[simp] theorem State.setOwed_clock (s : State) (kind : ItemKind) (item : Nat) (b : Bool) :
    (s.setOwed kind item b).clock = s.clock := by
  unfold State.setOwed
  split <;> simp

@[simp] theorem State.owePosition_clock (s : State) (kind : ItemKind) (item : Nat) :
    (s.owePosition kind item).clock = s.clock := by
  unfold State.owePosition
  split <;> simp

@[simp] theorem State.offerPositions_clock (l : List (ItemKind × Nat)) :
    ∀ s : State, (s.offerPositions l).1.clock = s.clock := by
  induction l with
  | nil => intro s; rfl
  | cons n l ih =>
    intro s
    obtain ⟨k, i⟩ := n
    simp only [State.offerPositions]
    (repeat' split) <;> simp [ih]

@[simp] theorem State.offerRefusals_clock (n : Nat) : ∀ s : State, (s.offerRefusals n).clock = s.clock := by
  induction n with
  | zero => intro s; rfl
  | succ n ih =>
    intro s
    simp only [State.offerRefusals]
    (repeat' split) <;> simp [ih]

@[simp] theorem State.edSlotEmptied_clock (s : State) : s.edSlotEmptied.clock = s.clock := by
  simp only [State.edSlotEmptied]
  split <;> simp

@[simp] theorem State.positionDropped_clock (s : State) (p : PosReport) : (s.positionDropped p).clock = s.clock := by
  simp only [State.positionDropped]
  (repeat' split) <;> simp

@[simp] theorem State.viewChange_clock (s : State) (kind : ItemKind) (item : Nat) :
    (s.viewChange kind item).clock = s.clock := by simp [State.viewChange]

@[simp] theorem State.changeElv_clock (s : State) (id : Nat) (v : ElView) : (s.changeElv id v).clock = s.clock := by
  simp only [State.changeElv]
  (repeat' split) <;> simp

@[simp] theorem State.changeAnv_clock (s : State) (id : Nat) (v : AnView) : (s.changeAnv id v).clock = s.clock := by
  simp only [State.changeAnv]
  split <;> simp

@[simp] theorem State.homeElv_clock (s : State) (id : Nat) (state : ViewState) (pos : Option Nat) (motion : Nat) :
    (s.homeElv id state pos motion).clock = s.clock := by simp [State.homeElv]

@[simp] theorem State.homeAnv_clock (s : State) (id : Nat) (state : ViewState) (az : Option Nat) :
    (s.homeAnv id state az).clock = s.clock := by simp [State.homeAnv]

@[simp] theorem State.hearPosition_clock (s : State) (sender : Nat) (p : PosReport) :
    (s.hearPosition sender p).clock = s.clock := by
  simp only [State.hearPosition]
  (repeat' split) <;> simp

@[simp] theorem State.markAbsent_clock (s : State) (b : Bool) (i : ItemKind × Nat) :
    (s.markAbsent b i).clock = s.clock := by
  simp only [State.markAbsent]
  (repeat' split) <;> simp

@[simp] theorem State.markStation_clock (s : State) (station : Nat) (b : Bool) :
    (s.markStation station b).clock = s.clock := by
  unfold State.markStation
  split <;> simp

@[simp] theorem State.withQueue_clock (s : State) (kind : ItemKind) (q : List Request) :
    (s.withQueue kind q).clock = s.clock := by
  unfold State.withQueue
  split <;> simp

@[simp] theorem State.refuse_clock (s : State) (kind : ItemKind) (r : Request) (reason : Nat) :
    (s.refuse kind r reason).clock = s.clock := by
  simp only [State.refuse]
  (repeat' split) <;> simp

@[simp] theorem State.answerAt_clock (s : State) (kind : ItemKind) (item target : Nat) :
    (s.answerAt kind item target).clock = s.clock := by
  unfold State.answerAt
  split <;> simp

@[simp] theorem State.accept_clock (s : State) (kind : ItemKind) (r : Request) :
    (s.accept kind r).clock = s.clock := by
  unfold State.accept
  split <;> simp

@[simp] theorem State.request_clock (s : State) (kind : ItemKind) (r : Request) :
    (s.request kind r).clock = s.clock := by
  simp only [State.request]
  (repeat' split) <;> simp

@[simp] theorem State.startMotion_clock (s : State) (r : Request) :
    (s.startMotion r).clock = s.clock := by simp [State.startMotion]

@[simp] theorem State.driveTurn_clock (s : State) : s.driveTurn.clock = s.clock := by
  simp only [State.driveTurn]
  (repeat' split) <;> simp

@[simp] theorem State.targetSensed_clock (s : State) : s.targetSensed.clock = s.clock := by
  unfold State.targetSensed
  split <;> simp

@[simp] theorem State.motionTimeout_clock (s : State) (valid : Bool) (code : Nat) :
    (s.motionTimeout valid code).clock = s.clock := by
  simp only [State.motionTimeout]
  (repeat' split) <;> simp

@[simp] theorem State.startSlew_clock (s : State) (r : Request) :
    (s.startSlew r).clock = s.clock := by simp [State.startSlew]

@[simp] theorem State.slewTurn_clock (s : State) : s.slewTurn.clock = s.clock := by
  simp only [State.slewTurn]
  (repeat' split) <;> simp

@[simp] theorem State.slewSensed_clock (s : State) : s.slewSensed.clock = s.clock := by
  unfold State.slewSensed
  split <;> simp

@[simp] theorem State.slewTimeout_clock (s : State) (code : Nat) : (s.slewTimeout code).clock = s.clock := by
  simp only [State.slewTimeout]
  (repeat' split) <;> simp

@[simp] theorem State.unbiddenElement_clock (s : State) (chan : Nat) (valid : Bool) (code : Nat) :
    (s.unbiddenElement chan valid code).clock = s.clock := by
  simp only [State.unbiddenElement]
  (repeat' split) <;> simp

@[simp] theorem State.unbiddenAntenna_clock (s : State) (chan code : Nat) :
    (s.unbiddenAntenna chan code).clock = s.clock := by
  simp only [State.unbiddenAntenna]
  (repeat' split) <;> simp

@[simp] theorem State.idleOne_clock (s : State) (el : Nat) : (s.idleOne el).clock = s.clock := by
  simp only [State.idleOne]
  split <;> simp

@[simp] theorem State.idleSecond_clock (s : State) : s.idleSecond.clock = s.clock := by simp [State.idleSecond]

@[simp] theorem State.exerciseScan_clock (s : State) : s.exerciseScan.clock = s.clock := by
  simp only [State.exerciseScan]
  (repeat' split) <;> simp

@[simp] theorem State.abandonExercise_clock (s : State) : s.abandonExercise.clock = s.clock := by
  unfold State.abandonExercise
  split <;> simp

@[simp] theorem State.exerciseRequest_clock (s : State) (x : Exercise) (target : Nat) :
    (s.exerciseRequest x target).clock = s.clock := by simp [State.exerciseRequest]

@[simp] theorem State.exerciseTold_clock (s : State) (num : Nat) (what : Told) :
    (s.exerciseTold num what).clock = s.clock := by
  simp only [State.exerciseTold]
  (repeat' split) <;> simp

@[simp] theorem State.exerciseSet_clock (s : State) (el : Nat) : (s.exerciseSet el).clock = s.clock := by
  simp only [State.exerciseSet]
  (repeat' split) <;> simp

@[simp] theorem State.exerciseStops_clock (s : State) (el : Nat) : (s.exerciseStops el).clock = s.clock := by
  simp only [State.exerciseStops]
  (repeat' split) <;> simp

@[simp] theorem State.refuseQueued_clock (s : State) (kind : ItemKind) (item : Nat) :
    (s.refuseQueued kind item).clock = s.clock := by simp [State.refuseQueued]

@[simp] theorem State.serviceOut_clock (s : State) (kind : ItemKind) (item : Nat) :
    (s.serviceOut kind item).clock = s.clock := by
  simp only [State.serviceOut]
  (repeat' split) <;> simp

@[simp] theorem State.serviceIn_clock (s : State) (kind : ItemKind) (item : Nat) :
    (s.serviceIn kind item).clock = s.clock := by
  simp only [State.serviceIn]
  (repeat' split) <;> simp

@[simp] theorem State.edJoin_clock (s : State) : s.edJoin.clock = s.clock := by simp [State.edJoin]

@[simp] theorem State.edStop_clock (s : State) : s.edStop.clock = s.clock := by simp [State.edStop]

/-! ## The ramp log (chapter 5) -/

@[simp] theorem State.updPlan_clock (s : State) (id : Nat) (f : Plan → Plan) : (s.updPlan id f).clock = s.clock := rfl

@[simp] theorem State.showIntent_clock (s : State) (id : Nat) (i : Option (Nat × Nat)) :
    (s.showIntent id i).clock = s.clock := rfl

@[simp] theorem State.hideIntent_clock (s : State) (num : Nat) : (s.hideIntent num).clock = s.clock := rfl

@[simp] theorem State.insertIntent_clock (s : State) (x : Intent) : (s.insertIntent x).clock = s.clock := rfl

@[simp] theorem State.filterIntents_clock (s : State) (keep : Intent → Bool) :
    (s.filterIntents keep).clock = s.clock := rfl

@[simp] theorem State.offerCancel_clock (s : State) (num : Nat) : (s.offerCancel num).clock = s.clock := by
  simp only [State.offerCancel]
  split <;> simp

@[simp] theorem State.withdrawIntent_clock (s : State) : s.withdrawIntent.clock = s.clock := by
  simp only [State.withdrawIntent]
  (repeat' split) <;> simp

@[simp] theorem State.cancelPick_clock (s : State) : s.cancelPick.clock = s.clock := by simp [State.cancelPick]

@[simp] theorem State.roomForOwn_clock (s : State) : s.roomForOwn.clock = s.clock := by
  simp only [State.roomForOwn]
  (repeat' split) <;> simp

@[simp] theorem State.offerIntent_clock (s : State) (q : PickReq) (t : Nat) :
    (s.offerIntent q t).clock = s.clock := by
  simp only [State.offerIntent]
  split <;> simp

/-- A pick whose search finds a tick (R87, R88). The match of `State.pickWithin` is reached through its value as a
function: the kernel does not compare the two sides with a search on both. -/
theorem State.pickWithin_some (s : State) (q search : PickReq) (t : Nat)
    (h : s.findTick (search.raise s.now) = some t) : s.pickWithin q search = s.offerIntent q t := by
  have body : ∀ f, f = State.pickWithin → f s q search = s.offerIntent q t := by
    delta State.pickWithin
    rintro f rfl
    beta_reduce
    rw [h]
  exact body _ rfl

theorem State.pickWithin_none (s : State) (q search : PickReq) (h : s.findTick (search.raise s.now) = none) :
    s.pickWithin q search = (s.withRl { s.rl with request := none }).report [.pickRefused q.plan q.bySeq] := by
  have body : ∀ f, f = State.pickWithin →
      f s q search = (s.withRl { s.rl with request := none }).report [.pickRefused q.plan q.bySeq] := by
    delta State.pickWithin
    rintro f rfl
    beta_reduce
    rw [h]
  exact body _ rfl

@[simp] theorem State.pickWithin_clock (s : State) (q search : PickReq) :
    (s.pickWithin q search).clock = s.clock := by
  cases h : s.findTick (search.raise s.now) with
  | some t => rw [s.pickWithin_some q search t h]; exact s.offerIntent_clock q t
  | none => rw [s.pickWithin_none q search h]; rfl

@[simp] theorem State.pickFrom_clock (s : State) (q : PickReq) :
    (s.pickFrom q).clock = s.clock := by simp [State.pickFrom]

@[simp] theorem State.requestPick_clock (s : State) (q : PickReq) : (s.requestPick q).clock = s.clock := by
  unfold State.requestPick
  split <;> simp

@[simp] theorem State.pickAgain_clock (s : State) : s.pickAgain.clock = s.clock := by
  unfold State.pickAgain
  split <;> simp

@[simp] theorem State.intentSent_clock (s : State) (num order : Nat) : (s.intentSent num order).clock = s.clock := by
  simp only [State.intentSent]
  (repeat' split) <;> simp

@[simp] theorem State.intentDropped_clock (s : State) (num : Nat) : (s.intentDropped num).clock = s.clock := by
  simp only [State.intentDropped]
  (repeat' split) <;> simp

@[simp] theorem State.offerOwedCancels_clock (n : Nat) : ∀ s : State, (s.offerOwedCancels n).clock = s.clock := by
  induction n with
  | zero => intro s; rfl
  | succ n ih =>
    intro s
    simp only [State.offerOwedCancels]
    (repeat' split) <;> simp [ih]

@[simp] theorem State.rampSlotEmptied_clock (s : State) : s.rampSlotEmptied.clock = s.clock := by
  simp only [State.rampSlotEmptied]
  (repeat' split) <;> simp

@[simp] theorem State.tuneEnded_clock (s : State) (q : PickReq) : (s.tuneEnded q).clock = s.clock := by
  simp only [State.tuneEnded]
  (repeat' split) <;> simp

@[simp] theorem State.startIntent_clock (s : State) (num : Nat) : (s.startIntent num).clock = s.clock := rfl

@[simp] theorem State.failStartCheck_clock (s : State) : s.failStartCheck.clock = s.clock := by
  simp only [State.failStartCheck]
  split <;> simp

@[simp] theorem State.hearIntent_clock (s : State) (sender num t order : Nat) :
    (s.hearIntent sender num t order).clock = s.clock := by
  simp only [State.hearIntent]
  (repeat' split) <;> simp

@[simp] theorem State.hearCancel_clock (s : State) (sender num : Nat) :
    (s.hearCancel sender num).clock = s.clock := rfl

@[simp] theorem State.expireIntents_clock (s : State) : s.expireIntents.clock = s.clock := by
  have h : ∀ (l : List Intent) (u : State), (l.foldl (fun s x => s.hideIntent x.num) u).clock = u.clock :=
    foldl_clock _ fun s x => s.hideIntent_clock x.num
  simp only [State.expireIntents]
  split
  · exact (h _ _).trans (s.filterIntents_clock _)
  · exact (h _ _).trans (s.filterIntents_clock _)

@[simp] theorem State.dropPeerIntents_clock (s : State) (station : Nat) :
    (s.dropPeerIntents station).clock = s.clock := rfl

@[simp] theorem State.rampLinkFault_clock (s : State) : s.rampLinkFault.clock = s.clock := rfl

/-! ## The transmitter sequencer (chapter 9) -/

@[simp] theorem State.retime_clock (s : State) : s.retime.clock = s.clock := rfl

@[simp] theorem State.setSeq_clock (s : State) (st : SeqState) :
    (s.setSeq st).clock = s.clock := by simp [State.setSeq]

@[simp] theorem State.send_clock (s : State) (m : TxMsg) : (s.send m).clock = s.clock := rfl

@[simp] theorem State.dropTrips_clock (s : State) : s.dropTrips.clock = s.clock := rfl

@[simp] theorem State.enterLockout_clock (s : State) : s.enterLockout.clock = s.clock := by simp [State.enterLockout]

@[simp] theorem State.enterTripped_clock (s : State) : s.enterTripped.clock = s.clock := by simp [State.enterTripped]

@[simp] theorem State.trip_clock (s : State) (c : TripCause) : (s.trip c).clock = s.clock := by
  simp only [State.trip]
  split <;> simp

@[simp] theorem State.tripHold_clock (s : State) : s.tripHold.clock = s.clock := by
  simp only [State.tripHold]
  split <;> simp

@[simp] theorem State.permitTest_clock (s : State) : s.permitTest.clock = s.clock := by
  simp only [State.permitTest]
  (repeat' split) <;> simp

@[simp] theorem State.commandTune_clock (s : State) (freq program t : Nat) (pos : Option (Nat × Nat × Nat)) :
    (s.commandTune freq program t pos).clock = s.clock := by
  simp only [State.commandTune]
  (repeat' split) <;> simp

@[simp] theorem State.takeTuned_clock (s : State) (tune load band : Nat) :
    (s.takeTuned tune load band).clock = s.clock := by
  simp only [State.takeTuned]
  (repeat' split) <;> simp

@[simp] theorem State.takeTuneFail_clock (s : State) (code : Nat) : (s.takeTuneFail code).clock = s.clock := by
  unfold State.takeTuneFail
  split <;> simp

@[simp] theorem State.tuneTimeout_clock (s : State) : s.tuneTimeout.clock = s.clock := by
  unfold State.tuneTimeout
  split <;> simp

@[simp] theorem State.rampUp_clock (s : State) (power : Nat) : (s.rampUp power).clock = s.clock := by
  simp only [State.rampUp]
  (repeat' split) <;> simp

@[simp] theorem State.rampDown_clock (s : State) : s.rampDown.clock = s.clock := by
  unfold State.rampDown
  split <;> simp

@[simp] theorem State.downTest_clock (s : State) : s.downTest.clock = s.clock := by
  unfold State.downTest
  split <;> simp

@[simp] theorem State.takeRfOff_clock (s : State) : s.takeRfOff.clock = s.clock := by
  unfold State.takeRfOff
  split <;> simp

@[simp] theorem State.lineError_clock (s : State) : s.lineError.clock = s.clock := rfl

@[simp] theorem State.rfOffTimeout_clock (s : State) : s.rfOffTimeout.clock = s.clock := by
  simp only [State.rfOffTimeout]
  (repeat' split) <;> simp

@[simp] theorem State.fold_clock (s : State) : s.fold.clock = s.clock := by
  simp only [State.fold]
  split <;> simp

@[simp] theorem State.foldRules_clock (s : State) (q : Nat) : (s.foldRules q).clock = s.clock := by
  simp only [State.foldRules]
  (repeat' split) <;> simp

@[simp] theorem State.takeMeter_clock (s : State) (pf pr : Nat) : (s.takeMeter pf pr).clock = s.clock := by
  simp only [State.takeMeter]
  (repeat' split) <;> simp

@[simp] theorem State.meterLoss_clock (s : State) : s.meterLoss.clock = s.clock := by
  simp only [State.meterLoss]
  (repeat' split) <;> simp

@[simp] theorem State.meterTimeout_clock (s : State) : s.meterTimeout.clock = s.clock := by
  simp only [State.meterTimeout]
  (repeat' split) <;> simp

@[simp] theorem State.recover_clock (s : State) : s.recover.clock = s.clock := by
  unfold State.recover
  split <;> simp

@[simp] theorem State.takeFault_clock (s : State) (c : FaultCause) : (s.takeFault c).clock = s.clock := by
  simp only [State.takeFault]
  split <;> simp

@[simp] theorem State.strayTimeout_clock (s : State) : s.strayTimeout.clock = s.clock := by
  simp only [State.strayTimeout]
  (repeat' split) <;> simp

@[simp] theorem State.abandonRestart_clock (s : State) : s.abandonRestart.clock = s.clock := rfl

@[simp] theorem State.restartTest_clock (s : State) : s.restartTest.clock = s.clock := by
  simp only [State.restartTest]
  (repeat' split) <;> simp

@[simp] theorem State.restartDelayEnds_clock (s : State) : s.restartDelayEnds.clock = s.clock := by
  unfold State.restartDelayEnds
  split <;> simp

@[simp] theorem State.restartPicked_clock (s : State) (plan : Nat) : (s.restartPicked plan).clock = s.clock := by
  simp only [State.restartPicked]
  (repeat' split) <;> simp

@[simp] theorem State.leaveTripped_clock (s : State) : s.leaveTripped.clock = s.clock := by
  simp only [State.leaveTripped]
  (repeat' split) <;> simp

@[simp] theorem State.rfSense_clock (s : State) (high : Bool) : (s.rfSense high).clock = s.clock := by
  unfold State.rfSense
  split <;> simp

@[simp] theorem State.selectProgram_clock (s : State) (program : Nat) :
    (s.selectProgram program).clock = s.clock := rfl

@[simp] theorem State.handPower_clock (s : State) (power : Nat) : (s.handPower power).clock = s.clock := by
  simp only [State.handPower]
  split <;> simp

@[simp] theorem State.clearLockout_clock (s : State) : s.clearLockout.clock = s.clock := by
  unfold State.clearLockout
  split <;> simp

@[simp] theorem State.tsRestart_clock (s : State) : s.tsRestart.clock = s.clock := rfl

/-! ## The changeover planner (chapter 8) -/

@[simp] theorem State.logRecord_clock (s : State) (r : AirRecord) : (s.logRecord r).clock = s.clock := by
  unfold State.logRecord
  split <;> rfl

@[simp] theorem State.planLeaves_clock (s : State) (p : Plan) : (s.planLeaves p).clock = s.clock := by
  unfold State.planLeaves
  split <;> simp

@[simp] theorem State.dropPin_clock (s : State) (p : Plan) : (s.dropPin p).clock = s.clock := by
  unfold State.dropPin
  split <;> simp

@[simp] theorem State.dropBooking_clock (s : State) (p : Plan) : (s.dropBooking p).clock = s.clock := by
  unfold State.dropBooking
  split <;> simp

@[simp] theorem State.dropPlan_clock (s : State) (p : Plan) (out : Option (AirOutcome × Option AirCause)) :
    (s.dropPlan p out).clock = s.clock := by
  unfold State.dropPlan
  split <;> simp

@[simp] theorem State.putPlan_clock (s : State) (p : Plan) : (s.putPlan p).clock = s.clock := rfl

@[simp] theorem State.blockPlan_clock (s : State) (p : Plan) : (s.blockPlan p).clock = s.clock := rfl

@[simp] theorem State.claimFor_clock (s : State) (p : Plan) (d : Desc) : (s.claimFor p d).clock = s.clock := by
  simp only [State.claimFor]
  split <;> simp

@[simp] theorem State.chooseRoute_clock (s : State) (p : Plan) : (s.chooseRoute p).clock = s.clock := by
  simp only [State.chooseRoute]
  (repeat' split) <;> simp

@[simp] theorem State.chooseFor_clock (s : State) (id : Nat) : (s.chooseFor id).clock = s.clock := by
  simp only [State.chooseFor]
  (repeat' split) <;> simp

@[simp] theorem State.retryBlocked_clock (s : State) : s.retryBlocked.clock = s.clock := by simp [State.retryBlocked]

@[simp] theorem State.recompute_clock (s : State) (id : Nat) : (s.recompute id).clock = s.clock := by
  simp only [State.recompute]
  (repeat' split) <;> simp

@[simp] theorem State.recomputeAll_clock (s : State) : s.recomputeAll.clock = s.clock := by simp [State.recomputeAll]

@[simp] theorem State.voidPin_clock (s : State) (set way : Nat) : (s.voidPin set way).clock = s.clock := by
  simp only [State.voidPin]
  rw [foldl_clock _ State.recompute_clock, foldl_clock _ fun s id => s.updPlan_clock id _]

@[simp] theorem State.lookupFor_clock (s : State) (p : Plan) :
    (s.lookupFor p).1.clock = s.clock := by simp [State.lookupFor]

@[simp] theorem State.planFresh_clock (s : State) (p : Plan) :
    (s.planFresh p).clock = s.clock := by simp [State.planFresh]

@[simp] theorem State.stopContinuation_clock (s : State) (p : Plan) :
    (s.stopContinuation p).clock = s.clock := by simp [State.stopContinuation]

@[simp] theorem State.planContinuation_clock (s : State) (p q : Plan) : (s.planContinuation p q).clock = s.clock := by
  simp only [State.planContinuation]
  split <;> simp

@[simp] theorem State.takeOffer_clock (s : State) (o : Offer) : (s.takeOffer o).1.clock = s.clock := by
  simp only [State.takeOffer]
  (repeat' split) <;> simp

@[simp] theorem State.contCheck_clock (s : State) : s.contCheck.clock = s.clock := by
  refine foldl_clock _ (fun s id => ?_) _ s
  (repeat' split) <;> simp

@[simp] theorem State.finishPlan_clock (s : State) (p : Plan) :
    (s.finishPlan p).clock = s.clock := by simp [State.finishPlan]

@[simp] theorem State.planReleased_clock (s : State) (p : Plan) :
    (s.planReleased p).clock = s.clock := by simp [State.planReleased]

@[simp] theorem State.enterEnding_clock (s : State) (p : Plan) (out : Option (AirOutcome × AirCause)) :
    (s.enterEnding p out).clock = s.clock := by
  simp only [State.enterEnding]
  (repeat' split) <;> simp

@[simp] theorem State.readAtTune_clock (s : State) (p : Plan) : (s.readAtTune p).1.clock = s.clock := by
  simp only [State.readAtTune]
  (repeat' split) <;> simp

@[simp] theorem State.startTune_clock (s : State) (p : Plan) : (s.startTune p).clock = s.clock := by
  simp only [State.startTune]
  split <;> simp

@[simp] theorem State.planTold_clock (s : State) (id num : Nat) (what : Told) :
    (s.planTold id num what).clock = s.clock := by
  simp only [State.planTold]
  (repeat' split) <;> simp

@[simp] theorem State.moveItem_clock (s : State) (num : Nat) (m : ItemKind × Nat × Nat) :
    (s.moveItem num m).clock = s.clock := by
  simp only [State.moveItem]
  (repeat' split) <;> simp

@[simp] theorem State.startSwitching_clock (s : State) (p : Plan) : (s.startSwitching p).clock = s.clock := by
  simp only [State.startSwitching]
  (repeat' split) <;> simp

@[simp] theorem State.offerMoves_clock (num : Nat) (l : List (ItemKind × Nat × Nat)) :
    ∀ s : State, (s.offerMoves num l).clock = s.clock := by
  induction l with
  | nil => intro s; rfl
  | cons n l ih =>
    intro s
    simp only [State.offerMoves]
    (repeat' split) <;> simp [ih]

@[simp] theorem State.cpSlotEmptied_clock (s : State) : s.cpSlotEmptied.clock = s.clock := by
  simp only [State.cpSlotEmptied]
  (repeat' split) <;> simp

@[simp] theorem State.moveDropped_clock (s : State) (kind item num target : Nat) :
    (s.moveDropped kind item num target).clock = s.clock := by
  simp only [State.moveDropped]
  (repeat' split) <;> simp

@[simp] theorem State.routeFault_clock (s : State) (p : Plan) :
    (s.routeFault p).clock = s.clock := by simp [State.routeFault]

@[simp] theorem State.planMoveRefused_clock (s : State) (num : Nat) (kind : ItemKind) (item _reason : Nat) :
    (s.planMoveRefused num kind item _reason).clock = s.clock := by
  simp only [State.planMoveRefused]
  (repeat' split) <;> simp

@[simp] theorem State.planViewChanged_clock (s : State) (kind : ItemKind) (item : Nat) :
    (s.planViewChanged kind item).clock = s.clock := by
  simp only [State.planViewChanged]
  (repeat' split) <;> simp

@[simp] theorem State.planHomeGone_clock (s : State) (kind : ItemKind) (item : Nat) :
    (s.planHomeGone kind item).clock = s.clock := by
  simp only [State.planHomeGone]
  (repeat' split) <;> simp

@[simp] theorem State.planTuned_clock (s : State) : s.planTuned.clock = s.clock := by
  simp only [State.planTuned]
  (repeat' split) <;> simp

@[simp] theorem State.planTuneFailed_clock (s : State) : s.planTuneFailed.clock = s.clock := by
  simp only [State.planTuneFailed]
  (repeat' split) <;> simp

@[simp] theorem State.planPickRefused_clock (s : State) (id : Nat) : (s.planPickRefused id).clock = s.clock := by
  simp only [State.planPickRefused]
  (repeat' split) <;> simp

@[simp] theorem State.startCheck_clock (s : State) (p : Plan) (x : Intent) : (s.startCheck p x).clock = s.clock := by
  simp only [State.startCheck]
  (repeat' split) <;> simp

@[simp] theorem State.handProgram_clock (s : State) (p : Plan) : (s.handProgram p).clock = s.clock := rfl

@[simp] theorem State.atPower_clock (s : State) : s.atPower.clock = s.clock := by
  simp only [State.atPower]
  (repeat' split) <;> simp

@[simp] theorem State.airEnd_clock (s : State) (p : Plan) : (s.airEnd p).clock = s.clock := by
  simp only [State.airEnd]
  (repeat' split) <;> simp

@[simp] theorem State.planTripped_clock (s : State) : s.planTripped.clock = s.clock := by
  simp only [State.planTripped]
  (repeat' split) <;> simp

@[simp] theorem State.planLockedOut_clock (s : State) : s.planLockedOut.clock = s.clock := by
  unfold State.planLockedOut
  split <;> simp

@[simp] theorem State.planNoRestart_clock (s : State) : s.planNoRestart.clock = s.clock := by
  simp only [State.planNoRestart]
  (repeat' split) <;> simp

@[simp] theorem State.planStop_clock (s : State) (c : AirCause) :
    (s.planStop c).clock = s.clock := by simp [State.planStop]

@[simp] theorem State.planRestart_clock (s : State) : s.planRestart.clock = s.clock := by simp [State.planRestart]

/-! ## The schedule store (chapter 6) -/

@[simp] theorem State.loadEntry_clock (s : State) (e : Entry) : (s.loadEntry e).1.clock = s.clock := by
  simp only [State.loadEntry]
  (repeat' split) <;> simp

@[simp] theorem State.clearPending_clock (s : State) : s.clearPending.clock = s.clock := rfl

@[simp] theorem State.markEntry_clock (s : State) (idx abs : Nat) : (s.markEntry idx abs).clock = s.clock := rfl

@[simp] theorem State.markAdhoc_clock (s : State) (slot : Nat) : (s.markAdhoc slot).clock = s.clock := rfl

@[simp] theorem State.offerOcc_clock (s : State) (o : OccRef) : (s.offerOcc o).clock = s.clock := by
  simp only [State.offerOcc]
  (repeat' split) <;> simp

@[simp] theorem State.openTest_clock (s : State) : s.openTest.clock = s.clock := by
  unfold State.openTest
  split <;> simp

@[simp] theorem State.missOcc_clock (s : State) (o : OccRef) : (s.missOcc o).clock = s.clock := by
  simp only [State.missOcc]
  (repeat' split) <;> simp

@[simp] theorem State.lateLimits_clock (s : State) : s.lateLimits.clock = s.clock := by
  simp only [State.lateLimits]
  split <;> simp

@[simp] theorem State.adhocEnds_clock (s : State) : s.adhocEnds.clock = s.clock := rfl

@[simp] theorem State.placeAdhoc_clock (s : State) (slot : Nat) (x : AdHoc) :
    (s.placeAdhoc slot x).clock = s.clock := by
  simp only [State.placeAdhoc]
  (repeat' split) <;> simp

@[simp] theorem State.swapAt_clock (s : State) (instant : Nat) : (s.swapAt instant).clock = s.clock := by
  simp only [State.swapAt]
  (repeat' split) <;> simp

@[simp] theorem State.armTest_clock (s : State) : s.armTest.clock = s.clock := by
  simp only [State.armTest]
  (repeat' split) <;> simp

@[simp] theorem State.cancelPlan_clock (s : State) (p : Plan) : (s.cancelPlan p).clock = s.clock := by
  simp only [State.cancelPlan]
  (repeat' split) <;> simp

@[simp] theorem State.cancelTable_clock (s : State) (idx : Nat) (e : Entry) :
    (s.cancelTable idx e).clock = s.clock := by
  unfold State.cancelTable
  split
  · rfl
  · simp only
    rw [foldl_clock]
    · simp
    · intro s o
      split <;> simp

@[simp] theorem State.cancelAdhoc_clock (s : State) (slot : Nat) (x : AdHoc) :
    (s.cancelAdhoc slot x).clock = s.clock := by
  simp only [State.cancelAdhoc]
  (repeat' split) <;> simp

/-! ## Beacons at the presence table -/

@[simp] theorem State.beaconPresence_clock (s : State) (sender : Nat) (b : BeaconBody) :
    (s.beaconPresence sender b).clock = s.clock := by
  simp only [State.beaconPresence]
  (repeat' split) <;> simp

/-! ## Reports -/

@[simp] theorem State.told_clock (s : State) (req : Requester) (num : Nat) (what : Told) :
    (s.told req num what).clock = s.clock := by
  unfold State.told
  split <;> simp

@[simp] theorem State.moveRefused_clock (s : State) (num : Nat) (kind : ItemKind) (item reason : Nat) :
    (s.moveRefused num kind item reason).clock = s.clock := by
  simp only [State.moveRefused]
  (repeat' split) <;> simp

@[simp] theorem State.pickMade_clock (s : State) (plan : Nat) (bySeq : Bool) :
    (s.pickMade plan bySeq).clock = s.clock := by
  unfold State.pickMade
  split <;> simp

@[simp] theorem State.pickRefused_clock (s : State) (plan : Nat) (bySeq : Bool) :
    (s.pickRefused plan bySeq).clock = s.clock := by
  unfold State.pickRefused
  split <;> simp

/-! ## Commands -/

@[simp] theorem State.startChecked_clock (s : State) : s.startChecked.clock = s.clock := by
  unfold State.startChecked
  split <;> simp

@[simp] theorem State.unbidden_clock (s : State) (kind : ItemKind) (chan : Nat) (valid : Bool) (code : Nat) :
    (s.unbidden kind chan valid code).clock = s.clock := by
  unfold State.unbidden
  split <;> simp

@[simp] theorem State.frameReported_clock (s : State) (f : Frame) (seq : Nat) :
    (s.frameReported f seq).clock = s.clock := by
  unfold State.frameReported
  split <;> simp

@[simp] theorem State.frameDropped_clock (s : State) (f : Frame) : (s.frameDropped f).clock = s.clock := by
  unfold State.frameDropped
  split <;> simp

@[simp] theorem State.chargeFrame_clock (s : State) (hit : QFrame → Bool) : (s.chargeFrame hit).clock = s.clock := by
  simp only [State.chargeFrame]
  split <;> simp

@[simp] theorem State.attemptStart_clock (s : State) : s.attemptStart.clock = s.clock := by
  unfold State.attemptStart
  split <;> simp

@[simp] theorem State.lostArbitration_clock (s : State) : s.lostArbitration.clock = s.clock := by
  unfold State.lostArbitration
  split <;> simp

@[simp] theorem State.attemptAbort_clock (s : State) : s.attemptAbort.clock = s.clock := by
  simp only [State.attemptAbort]
  (repeat' split) <;> simp

@[simp] theorem State.busyTimeout_clock (s : State) : s.busyTimeout.clock = s.clock := by
  unfold State.busyTimeout
  split <;> simp

@[simp] theorem State.frameSent_clock (s : State) : s.frameSent.clock = s.clock := by
  unfold State.frameSent
  split <;> simp

@[simp] theorem State.slotEmptied_clock (s : State) (b : Block) : (s.slotEmptied b).clock = s.clock := by
  unfold State.slotEmptied
  split <;> simp

@[simp] theorem State.slotEnters_clock (s : State) : s.slotEnters.clock = s.clock := by
  simp only [State.slotEnters]
  (repeat' split) <;> simp

@[simp] theorem State.badFrame_clock (s : State) : s.badFrame.clock = s.clock := rfl

@[simp] theorem State.beaconTimer_clock (s : State) : s.beaconTimer.clock = s.clock := by
  unfold State.beaconTimer
  split <;> simp

@[simp] theorem State.hearMove_clock (s : State) (sender kind item num target : Nat) :
    (s.hearMove sender kind item num target).clock = s.clock := by
  unfold State.hearMove
  split <;> simp

@[simp] theorem State.switchingStart_clock (s : State) : s.switchingStart.clock = s.clock := by
  unfold State.switchingStart
  split <;> simp

@[simp] theorem State.guardEnds_clock (s : State) : s.guardEnds.clock = s.clock := by
  unfold State.guardEnds
  split <;> simp

@[simp] theorem State.planLate_clock (s : State) (id : Nat) : (s.planLate id).clock = s.clock := by
  simp only [State.planLate]
  (repeat' split) <;> simp

@[simp] theorem State.airStart_clock (s : State) : s.airStart.clock = s.clock := by
  simp only [State.airStart]
  (repeat' split) <;> simp

@[simp] theorem State.airEnds_clock (s : State) : s.airEnds.clock = s.clock := by
  simp only [State.airEnds]
  (repeat' split) <;> simp

/-! ## The schedule port (chapter 10) -/

@[simp] theorem State.commandWindow_clock (s : State) (code : Nat) (win : List Byte) :
    (s.commandWindow code win).clock = s.clock := by
  simp only [State.commandWindow]
  split
  · rfl
  · split <;> rfl

@[simp] theorem State.fetchWindow_clock (s : State) (count : Nat) : (s.fetchWindow count).clock = s.clock := by
  simp only [State.fetchWindow]
  (repeat' split) <;> simp

/-! ## Sequencer timers -/

@[simp] theorem State.atPowerTimeout_clock (s : State) : s.atPowerTimeout.clock = s.clock := by
  unfold State.atPowerTimeout
  split <;> simp

@[simp] theorem State.foldIntervalEnds_clock (s : State) : s.foldIntervalEnds.clock = s.clock := by
  unfold State.foldIntervalEnds
  split <;> simp

@[simp] theorem State.floorEnds_clock (s : State) : s.floorEnds.clock = s.clock := by
  unfold State.floorEnds
  split <;> simp

end Sys2Proof.Machine
end

section
/-! SUPPORT. Which commands can move the clock -/
namespace Sys2Proof.Machine
open Sys2Proof

@[simp] theorem State.withTb_clock (s : State) (t : Timebase) :
    (s.withTb t).clock = { s.clock with tb := t } := rfl

@[simp] theorem State.countTimers_clock (s : State) : s.countTimers.clock = s.clock := rfl

@[simp] theorem State.secondWork_clock (s : State) : s.secondWork.clock = s.clock := by
  simp [State.secondWork]

/-! ## Delivery -/

/-- Delivery keeps what every report keeps: the induction over the reports, once. -/
theorem drain_induct {P : State → Prop} (hrest : ∀ s l, P s → P (s.withReports l))
    (hdeliver : ∀ r s, P s → P (deliver r s)) (n : Nat) : ∀ s, P s → P (drain n s) := by
  induction n with
  | zero => exact fun _ h => h
  | succ n ih =>
    intro s h
    unfold drain
    split
    · exact h
    · exact ih _ (hdeliver _ _ (hrest _ _ h))

/-- Of the reports only the test for the end of STOPPING can move the clock. -/
theorem deliver_clock (r : Report) (s : State) (h : r = .stopTest → s.sp.phase ≠ .stopping) :
    (deliver r s).clock = s.clock := by
  cases r with
  | stopTest => simp [deliver, State.stopTest, State.phase, h rfl]
  | _ => simp [deliver]

theorem drain_clock (n : Nat) (s : State) (h : s.sp.phase ≠ .stopping) : (drain n s).clock = s.clock := by
  refine drain_induct (P := fun u => u.clock = s.clock) (fun u l hu => hu) (fun r u hu => ?_) n s rfl
  have hphase : u.sp.phase = s.sp.phase := congrArg Clock.phase hu
  exact (deliver_clock r u fun _ => hphase ▸ h).trans hu

/-! ## The phases' changes -/

theorem State.enterJoining_clock (s : State) :
    s.enterJoining.clock = { s.clock with phase := .joining } := by
  simp [State.enterJoining]
  rfl

theorem State.enterHalted_clock (s : State) : s.enterHalted.clock = { s.clock with phase := .halted } := by
  simp [State.enterHalted]
  rfl

theorem State.enterStopping_clock (s : State) (restart : Bool) :
    (s.enterStopping restart).clock = { s.clock with phase := .stopping } := by
  simp [State.enterStopping]
  rfl

theorem State.enterRunning_clock (s : State) :
    s.enterRunning.clock = { s.clock with phase := .running } := rfl

/-- RESTART clears the offsets and SKEW, and nothing else of the clock (R14). -/
theorem State.blocksRestart_clock (s : State) :
    s.blocksRestart.clock = { s.clock with tb := s.tb.restart } := by
  simp only [State.blocksRestart, State.tsRestart_clock, State.withHlc_clock]
  exact congrArg (fun c : Clock => { c with tb := c.tb.restart }) s.planRestart_clock

theorem State.restartJoining_clock (s : State) :
    s.restartJoining.clock = { s.clock with tb := s.tb.restart, phase := .joining } := by
  rw [State.restartJoining, State.enterJoining_clock, State.blocksRestart_clock]


/-! ## Host commands -/

@[simp] theorem State.answer_state (s : State) (st : Status) : (s.answer st).state = s := rfl
@[simp] theorem State.okIf_state (s : State) (b : Bool) : (s.okIf b).state = s := rfl
@[simp] theorem State.reply_state (s : State) (l : List Byte) : (s.reply l).state = s := rfl

@[simp] theorem State.doLoadElement_clock (s : State) (l : List Byte) : (s.doLoadElement l).state.clock = s.clock := by
  simp only [State.doLoadElement]
  (repeat' split) <;> simp

@[simp] theorem State.doLoadAntenna_clock (s : State) (l : List Byte) : (s.doLoadAntenna l).state.clock = s.clock := by
  simp only [State.doLoadAntenna]
  (repeat' split) <;> simp

@[simp] theorem State.doLoadRoute_clock (s : State) (l : List Byte) : (s.doLoadRoute l).state.clock = s.clock := by
  simp only [State.doLoadRoute]
  (repeat' split) <;> simp

@[simp] theorem State.doReadPreset_clock (s : State) (l : List Byte) : (s.doReadPreset l).state.clock = s.clock := by
  simp only [State.doReadPreset]
  (repeat' split) <;> simp

@[simp] theorem State.doWritePreset_clock (s : State) (l : List Byte) : (s.doWritePreset l).state.clock = s.clock := by
  simp only [State.doWritePreset]
  (repeat' split) <;> simp

@[simp] theorem State.doReadPlan_clock (s : State) (l : List Byte) : (s.doReadPlan l).state.clock = s.clock := by
  simp only [State.doReadPlan]
  (repeat' split) <;> simp

@[simp] theorem State.doReadBooking_clock (s : State) (l : List Byte) : (s.doReadBooking l).state.clock = s.clock := by
  simp only [State.doReadBooking]
  (repeat' split) <;> simp

@[simp] theorem State.doReadElement_clock (s : State) (l : List Byte) : (s.doReadElement l).state.clock = s.clock := by
  simp only [State.doReadElement]
  (repeat' split) <;> simp

@[simp] theorem State.doLoadEntry_clock (s : State) (l : List Byte) : (s.doLoadEntry l).state.clock = s.clock := by
  simp only [State.doLoadEntry]
  (repeat' split) <;> simp

@[simp] theorem State.doArm_clock (s : State) (l : List Byte) : (s.doArm l).state.clock = s.clock := by
  simp only [State.doArm]
  (repeat' split) <;> simp

@[simp] theorem State.doLoadAdhoc_clock (s : State) (l : List Byte) : (s.doLoadAdhoc l).state.clock = s.clock := by
  simp only [State.doLoadAdhoc]
  (repeat' split) <;> simp

@[simp] theorem State.doCancel_clock (s : State) (l : List Byte) : (s.doCancel l).state.clock = s.clock := by
  simp only [State.doCancel]
  (repeat' split) <;> simp

@[simp] theorem State.doService_clock (s : State) (l : List Byte) : (s.doService l).state.clock = s.clock := by
  simp only [State.doService]
  (repeat' split) <;> simp

@[simp] theorem State.doReadLog_clock (s : State) : s.doReadLog.state.clock = s.clock := rfl

/-! ## Commands -/

/-- The commands whose effect may move the clock: pin reset, the passing of time, what is heard or no longer heard of
other stations, the changes of phase, and the completion of a host command. -/
def movesClock : Instr → Bool
  | .pinReset | .tick | .ppsEdge _ | .hourEvent | .linkFaultEntry | .beacon _ _ | .peerAbsent _
  | .joiningTimerEnd | .commandCompletion => true
  | _ => false

@[simp] theorem State.receive_clock (s : State) (h : Head) (f : Frame) (act : Nat → State → State)
    (hact : ∀ n u, (act n u).clock = u.clock) : (s.receive h f act).clock = s.clock := by
  simp only [State.receive]
  (repeat' split) <;> simp [hact]

@[simp] theorem State.changeover_clock (s : State) : s.changeover.clock = s.clock := by
  unfold State.changeover
  split <;> simp

@[simp] theorem State.idleEvent_clock (s : State) : s.idleEvent.clock = s.clock := by
  unfold State.idleEvent
  split <;> simp

/-- Every other command's effect leaves the clock as it was; then its reports are delivered. -/
theorem exec_effect_clock (c : Instr) (s : State) (h : movesClock c = false) :
    ∃ u, exec c s = .next (drain reportFuel u) ∧ u.clock = s.clock := by
  cases c with
  | pinReset | tick | ppsEdge | hourEvent | linkFaultEntry | beacon | peerAbsent | joiningTimerEnd
  | commandCompletion => cases h
  | unknownCommand code win =>
    refine ⟨_, rfl, ?_⟩
    simp only
    split <;> simp
  | rampCancel h num => exact ⟨_, rfl, State.receive_clock _ _ _ _ fun _ u => u.hearCancel_clock _ _⟩
  | _ => exact ⟨_, rfl, by simp⟩

end Sys2Proof.Machine
end

section
/-! SUPPORT. The timebase in range. -/
namespace Sys2Proof.Machine
open Sys2Proof

/-- `State.timeInRange` as a statement about the timebase and REFNOM, range by range. -/
structure Timebase.InRange (t : Timebase) (refnom : Nat) : Prop where
  refnom_ge : 8000 ≤ refnom
  refnom_le : refnom ≤ 12000
  div_lt    : t.divCount < t.d
  cap_le    : t.capCount ≤ captureLimit refnom
  tis_le    : t.tis ≤ 99
  sow_lt    : t.sow < 604800
  week_lt   : t.week < 65536
  free_le   : t.freeCount ≤ 600
  hour_lt   : t.hourCtr < 3600
  places    : t.offsets.length = 16
  offsets   : ∀ o ∈ t.offsets, (o.map offsetInRange).getD true = true

theorem State.timeInRange_iff (s : State) : s.timeInRange = true ↔ s.tb.InRange s.cfg.refnom := by
  simp only [State.timeInRange, Bool.and_eq_true, decide_eq_true_eq, List.all_eq_true]
  constructor
  · rintro ⟨⟨⟨⟨⟨⟨⟨⟨⟨⟨h1, h2⟩, h3⟩, h4⟩, h5⟩, h6⟩, h7⟩, h8⟩, h9⟩, h10⟩, h11⟩
    exact ⟨h1, h2, h3, h4, h5, h6, h7, h8, h9, h10, h11⟩
  · rintro ⟨h1, h2, h3, h4, h5, h6, h7, h8, h9, h10, h11⟩
    exact ⟨⟨⟨⟨⟨⟨⟨⟨⟨⟨h1, h2⟩, h3⟩, h4⟩, h5⟩, h6⟩, h7⟩, h8⟩, h9⟩, h10⟩, h11⟩

/-- The range is a matter of the clock alone. -/
theorem State.timeInRange_of_clock {s t : State} (h : t.clock = s.clock) (hs : s.timeInRange = true) :
    t.timeInRange = true := by
  have htb : t.tb = s.tb := congrArg Clock.tb h
  have hcfg : t.cfg = s.cfg := congrArg Clock.cfg h
  rw [State.timeInRange_iff, htb, hcfg]
  exact s.timeInRange_iff.1 hs

namespace Timebase.InRange

variable {t : Timebase} {refnom : Nat}

theorem reset : Timebase.reset.InRange Config.refnomAtReset :=
  (State.timeInRange_iff State.reset).1 (by decide)

theorem advanceSecond (h : t.InRange refnom) : t.advanceSecond.InRange refnom := by
  have hw : (t.week + 1) % Config.weekCount < 65536 := Nat.mod_lt _ (by decide)
  obtain ⟨h1, h2, h3, h4, h5, h6, h7, h8, h9, h10, h11⟩ := h
  simp only [Timebase.advanceSecond]
  (repeat' split) <;> constructor <;> simp_all [Config.weekSeconds, Config.hourSeconds]

theorem confirmFreeRun (h : t.InRange refnom) : t.confirmFreeRun.InRange refnom :=
  { h with free_le := Nat.min_le_left _ _ }

theorem nextTick (h : t.InRange refnom) :
    (if t.tis < 99 then { t with tis := t.tis + 1 }
      else { t.advanceSecond with tis := 0, freeMark := true }).InRange refnom := by
  split
  · exact { h with tis_le := by simp only; omega }
  · exact { h.advanceSecond with tis_le := Nat.zero_le _ }

theorem countTick (h : t.InRange refnom) : (t.countTick refnom).InRange refnom := by
  have hcap : { t.capture refnom (t.d - t.divCount) with divCount := 0 }.InRange refnom :=
    { h with div_lt := Nat.zero_lt_of_lt h.div_lt, cap_le := Nat.min_le_left _ _ }
  unfold Timebase.countTick
  refine nextTick ?_
  split
  · exact hcap.confirmFreeRun
  · exact hcap

theorem runTo (h : t.InRange refnom) (cycles : Nat) : (t.runTo refnom cycles).InRange refnom :=
  { h with
    div_lt := by
      have := h.div_lt
      simp only [Timebase.runTo, Timebase.capture]
      omega
    cap_le := Nat.min_le_left _ _ }

theorem clearCapture (h : t.InRange refnom) : { t with capCount := 0 }.InRange refnom :=
  { h with cap_le := Nat.zero_le _ }

/-- A capture in the accept range gives a D above 0 (R4). -/
theorem acceptEdge (h : t.InRange refnom) {c : Nat} (hc : edgeClass refnom c = .accepted) :
    (t.acceptEdge c).InRange refnom := by
  have hlow : refnom * 980 ≤ c := by
    unfold edgeClass at hc
    split at hc
    · cases hc
    · split at hc
      · next hr => exact hr.1
      · cases hc
  have hd : { t with d := (c + 50) / 100, divCount := 0, freeCount := 0, good := true }.InRange refnom :=
    { h with
      div_lt := by have := h.refnom_ge; simp only; omega
      free_le := Nat.zero_le _ }
  simp only [Timebase.acceptEdge]
  split
  · exact { hd with }
  · exact { hd.advanceSecond with tis_le := Nat.zero_le _ }

/-- REFNOM within its limits gives a D above 0 (R1). -/
theorem newRefnom (h : t.InRange refnom) (new n : Nat) (hlow : 8000 ≤ new) (hhigh : new ≤ 12000) :
    (t.newRefnom refnom new n).InRange new :=
  { h with
    refnom_ge := hlow
    refnom_le := hhigh
    div_lt := by simp only [Timebase.newRefnom]; omega
    cap_le := by
      simp only [Timebase.newRefnom]
      split
      · exact Nat.le_refl _
      · exact Nat.min_le_left _ _ }

theorem setTime (h : t.InRange refnom) {week sec : Nat} (hweek : week < 65536) (hsec : sec < 604800) :
    { t with week := week, sow := sec, timeSet := true }.InRange refnom :=
  { h with week_lt := hweek, sow_lt := hsec }

theorem setOffsets (h : t.InRange refnom) {l : List (Option Int)} (hlen : l.length = 16)
    (hl : ∀ o ∈ l, (o.map offsetInRange).getD true = true) : { t with offsets := l }.InRange refnom :=
  { h with places := hlen, offsets := hl }

/-- A place of the table takes an offset in range, or none. -/
theorem setPlace (h : t.InRange refnom) (i : Nat) {o : Option Int}
    (ho : (o.map offsetInRange).getD true = true) :
    { t with offsets := setAt i o t.offsets }.InRange refnom :=
  h.setOffsets (by simp [setAt, h.places]) fun x hx =>
    (List.mem_or_eq_of_mem_set hx).elim (h.offsets x) fun e => e ▸ ho

theorem setSkew (h : t.InRange refnom) (b : Bool) : { t with skew := b }.InRange refnom := { h with }

theorem emptyOffsets (h : t.InRange refnom) :
    { t with offsets := List.replicate 16 none, skew := false }.InRange refnom :=
  (h.setOffsets (List.length_replicate ..) fun o ho => by simp [List.eq_of_mem_replicate ho]).setSkew false

theorem stepBy (h : t.InRange refnom) (k : Int) : (t.stepBy k).InRange refnom :=
  { h.emptyOffsets with
    sow_lt := by simp only [Timebase.stepBy]; omega
    week_lt := by
      have := h.week_lt
      simp only [Timebase.stepBy, Config.weekCount]
      (repeat' split) <;> omega }

end Timebase.InRange


/-! ## The offset table (R7, R8, R9) -/

theorem State.timeStep_clock (s : State) (k : Int) :
    (s.timeStep k).clock = { s.clock with tb := s.tb.stepBy k, stepped := true } := by
  simp only [State.timeStep, State.afterGate_clock, State.noteInstants_clock]
  rfl

theorem State.setSkew_clock (s : State) (b : Bool) :
    (s.setSkew b).clock = { s.clock with tb := { s.tb with skew := b } } := by
  simp only [State.setSkew, State.afterGate_clock]
  rfl

theorem offsetInRange_offsetOf (sender own : Nat) : offsetInRange (offsetOf sender own) = true := by
  rw [offsetInRange, offsetOf, Bool.and_eq_true]
  exact ⟨decide_eq_true (by omega), decide_eq_true (by omega)⟩

/-- What an evaluation of the offset table can come to: nothing, a step of hall time, or SKEW (R8, R9). -/
theorem State.evaluateOffsets_cases (s : State) :
    s.evaluateOffsets = s ∨ (∃ k, s.evaluateOffsets = s.timeStep k)
      ∨ ∃ b, s.evaluateOffsets = s.setSkew b := by
  simp only [State.evaluateOffsets]
  split
  · exact .inl rfl
  · split
    · exact .inr (.inl ⟨_, rfl⟩)
    · exact .inr (.inr ⟨_, rfl⟩)

/-! ## The range is kept, step by step -/

section
variable {s : State}

/-- An effect that leaves the settings keeps the range where its timebase does. -/
theorem State.inRange_of_clock_tb {t : State} {tb : Timebase} {c : Clock} (hs : s.timeInRange = true)
    (h : t.clock = { c with tb := tb }) (hcfg : c.cfg = s.cfg)
    (htb : s.tb.InRange s.cfg.refnom → tb.InRange s.cfg.refnom) : t.timeInRange = true := by
  have h1 : t.tb = tb := congrArg Clock.tb h
  have h2 : t.cfg = s.cfg := (congrArg Clock.cfg h).trans hcfg
  rw [State.timeInRange_iff, h1, h2]
  exact htb (s.timeInRange_iff.1 hs)

theorem State.inRange_withTb {tb : Timebase} (hs : s.timeInRange = true)
    (htb : s.tb.InRange s.cfg.refnom → tb.InRange s.cfg.refnom) : (s.withTb tb).timeInRange = true :=
  State.inRange_of_clock_tb hs (s.withTb_clock tb) rfl htb

theorem State.timeStep_inRange (hs : s.timeInRange = true) (k : Int) : (s.timeStep k).timeInRange = true :=
  State.inRange_of_clock_tb (c := { s.clock with stepped := true }) hs (s.timeStep_clock k) rfl
    fun h => h.stepBy k

theorem State.setSkew_inRange (hs : s.timeInRange = true) (b : Bool) : (s.setSkew b).timeInRange = true :=
  State.inRange_of_clock_tb hs (s.setSkew_clock b) rfl fun h => h.setSkew b

theorem State.evaluateOffsets_inRange (hs : s.timeInRange = true) : s.evaluateOffsets.timeInRange = true := by
  rcases s.evaluateOffsets_cases with h | ⟨k, h⟩ | ⟨b, h⟩ <;> rw [h]
  · exact hs
  · exact State.timeStep_inRange hs k
  · exact State.setSkew_inRange hs b

theorem State.recordOffset_inRange (hs : s.timeInRange = true) (h : Head) :
    (s.recordOffset h).timeInRange = true := by
  unfold State.recordOffset
  split
  · exact State.evaluateOffsets_inRange (State.inRange_withTb hs fun ht =>
      ht.setPlace h.sender (offsetInRange_offsetOf _ _))
  · exact hs

theorem State.absenceEffects_inRange (hs : s.timeInRange = true) (station : Nat) :
    (s.absenceEffects station).timeInRange = true := by
  have hbefore : (((s.dropPeerRecs station).dropPeerIntents station).markStation station true).timeInRange
      = true := State.timeInRange_of_clock (s := s) (by simp) hs
  exact State.evaluateOffsets_inRange (State.inRange_withTb hbefore fun ht => ht.setPlace station rfl)

theorem State.absenceEnds_inRange (hs : s.timeInRange = true) (station : Nat) :
    (s.absenceEnds station).timeInRange = true := by
  unfold State.absenceEnds
  split
  · exact State.absenceEffects_inRange (s := s.setPeer station _) hs station
  · exact hs

theorem State.hearBeacon_inRange (hs : s.timeInRange = true) (h : Head) (b : BeaconBody) :
    (s.hearBeacon h b).timeInRange = true := by
  simp only [State.hearBeacon]
  split
  · split
    · exact State.recordOffset_inRange (State.timeInRange_of_clock (s := s) (by simp) hs) h
    · split <;> exact State.timeInRange_of_clock (s := s) (by simp) hs
  · exact State.timeInRange_of_clock (s := s) (by simp) hs

/-! ## The station phases -/

theorem State.enterJoining_inRange (hs : s.timeInRange = true) : s.enterJoining.timeInRange = true :=
  State.inRange_of_clock_tb (c := { s.clock with phase := .joining }) hs s.enterJoining_clock rfl id

theorem State.enterHalted_inRange (hs : s.timeInRange = true) : s.enterHalted.timeInRange = true :=
  State.inRange_of_clock_tb (c := { s.clock with phase := .halted }) hs s.enterHalted_clock rfl id

theorem State.enterStopping_inRange (hs : s.timeInRange = true) (restart : Bool) :
    (s.enterStopping restart).timeInRange = true :=
  State.inRange_of_clock_tb (c := { s.clock with phase := .stopping }) hs (s.enterStopping_clock restart)
    rfl id

theorem State.restartJoining_inRange (hs : s.timeInRange = true) : s.restartJoining.timeInRange = true :=
  State.inRange_of_clock_tb (c := { s.clock with phase := .joining }) hs s.restartJoining_clock rfl
    fun h => h.emptyOffsets

theorem State.joiningEnds_inRange (hs : s.timeInRange = true) : s.joiningEnds.timeInRange = true := by
  unfold State.joiningEnds
  split
  · exact hs
  · exact hs

theorem State.stopTest_inRange (hs : s.timeInRange = true) : s.stopTest.timeInRange = true := by
  simp only [State.stopTest]
  (repeat' split)
  · exact State.restartJoining_inRange hs
  · exact State.enterHalted_inRange hs
  · exact hs
  · exact hs

theorem State.allAbsent_inRange (hs : s.timeInRange = true) : s.allAbsent.timeInRange = true := by
  have hfold : ∀ (l : List Nat) (u : State), u.timeInRange = true →
      (l.foldl State.absenceEffects u).timeInRange = true := fun l => by
    induction l with
    | nil => exact fun _ hu => hu
    | cons n rest ih => exact fun u hu => ih _ (State.absenceEffects_inRange hu n)
  have hpeers : (((List.range 16).filter fun n => n != s.cfg.stationId).foldl State.absenceEffects
      (s.withHlc { s.hlc with
        presence := s.hlc.presence.map fun e => { e with present := false, absence := none } })).timeInRange
        = true := hfold _ _ hs
  exact State.timeInRange_of_clock (by simp [State.allAbsent]) hpeers

theorem State.linkFaultEntry_inRange (hs : s.timeInRange = true) : s.linkFaultEntry.timeInRange = true := by
  unfold State.linkFaultEntry
  split
  · refine State.allAbsent_inRange ?_
    have hphase : (s.withSp { s.sp with
        phase := .linkFault, restartMark := false, cpStopped := false, cmStopped := false }).timeInRange = true := hs
    exact State.timeInRange_of_clock (by simp) hphase
  · exact hs

/-! ## Delivery -/

theorem deliver_inRange (r : Report) (s : State) (hs : s.timeInRange = true) :
    (deliver r s).timeInRange = true := by
  by_cases hr : r = .stopTest
  · subst hr
    exact State.stopTest_inRange hs
  · exact State.timeInRange_of_clock (deliver_clock r s (fun h => absurd h hr)) hs

theorem drain_inRange (n : Nat) (s : State) (hs : s.timeInRange = true) :
    (drain n s).timeInRange = true :=
  drain_induct (P := fun u => u.timeInRange = true) (fun _ _ hu => hu) deliver_inRange n s hs

/-! ## Time passing -/

theorem State.tick_inRange (hs : s.timeInRange = true) : s.tick.timeInRange = true := by
  have hcounted := State.inRange_withTb hs fun h => h.countTick
  simp only [State.tick]
  split
  · refine State.timeInRange_of_clock (State.secondWork_clock _) ?_
    exact State.timeInRange_of_clock (State.noteInstants_clock _ _) hcounted
  · exact State.timeInRange_of_clock (State.noteInstants_clock _ _) hcounted

theorem State.ppsEdge_inRange (hs : s.timeInRange = true) (cycles : Nat) :
    (s.ppsEdge cycles).timeInRange = true := by
  have hrun := State.inRange_withTb hs fun h => (h.runTo cycles).clearCapture
  simp only [State.ppsEdge]
  split
  · exact hrun
  · exact hrun
  · next hclass =>
    have hedge := State.inRange_withTb hs fun h => (h.runTo cycles).clearCapture.acceptEdge hclass
    split <;> exact State.timeInRange_of_clock (by simp) hedge

theorem State.hourEvent_inRange (hs : s.timeInRange = true) : s.hourEvent.timeInRange = true := by
  unfold State.hourEvent
  split
  · exact State.inRange_withTb hs fun h => { h with }
  · exact hs

/-! ## Host commands -/

theorem bytesNat_lt (l : List Nat) (h : ∀ b ∈ l, b < 256) : bytesNat l < 256 ^ l.length := by
  induction l using List.reverseRecOn with
  | nil => decide
  | append_singleton l b ih =>
    have hl : bytesNat l < 256 ^ l.length := ih fun x hx => h x (List.mem_append_left _ hx)
    have hb : b < 256 := h b (by simp)
    have happ : bytesNat (l ++ [b]) = 256 * bytesNat l + b := by simp [bytesNat]
    rw [happ, List.length_append, List.length_singleton, Nat.pow_succ]
    omega

/-- A field of `k` bytes. -/
theorem field_lt (l : List Byte) (off k : Nat) : field l off k < 256 ^ k := by
  refine Nat.lt_of_lt_of_le (bytesNat_lt _ fun b hb => ?_) (Nat.pow_le_pow_right (by decide) (by simp))
  obtain ⟨x, -, rfl⟩ := List.mem_map.1 hb
  exact x.isLt

theorem clampTo_ge (lo hi v : Nat) : lo ≤ (clampTo lo hi v).1 := Nat.le_max_left _ _

theorem clampTo_le {lo hi : Nat} (h : lo ≤ hi) (v : Nat) : (clampTo lo hi v).1 ≤ hi :=
  Nat.max_le.2 ⟨h, Nat.min_le_left _ _⟩

theorem State.doSetStation_inRange (hs : s.timeInRange = true) (l : List Byte) :
    (s.doSetStation l).state.timeInRange = true := by
  have hr := s.timeInRange_iff.1 hs
  simp only [State.doSetStation]
  split
  · exact hs
  · rw [State.timeInRange_iff]
    split
    · next hsame => exact hsame ▸ hr
    · exact hr.newRefnom _ _ (clampTo_ge _ _ _) (clampTo_le (by decide) _)

theorem State.doSetTime_inRange (hs : s.timeInRange = true) (l : List Byte) :
    (s.doSetTime l).state.timeInRange = true := by
  simp only [State.doSetTime]
  split
  · exact hs
  · next hsec =>
    exact State.timeInRange_of_clock (State.noteInstants_clock _ _) (State.inRange_withTb hs fun h =>
      h.setTime (field_lt l 0 2) (Nat.lt_of_not_le hsec))

theorem State.doStart_inRange (hs : s.timeInRange = true) : s.doStart.state.timeInRange = true := by
  unfold State.doStart
  split
  · exact State.enterJoining_inRange hs
  · exact hs

theorem State.doStop_inRange (hs : s.timeInRange = true) : s.doStop.state.timeInRange = true := by
  simp only [State.doStop]
  split
  · exact State.enterHalted_inRange hs
  · exact State.enterStopping_inRange hs false
  · exact hs

theorem State.doRestart_inRange (hs : s.timeInRange = true) : s.doRestart.state.timeInRange = true := by
  simp only [State.doRestart]
  split
  · exact State.enterStopping_inRange hs true
  · exact State.restartJoining_inRange hs
  · exact State.restartJoining_inRange hs
  · exact hs

/-- The host commands that change settings, time or phase keep the range by their rules, CLEAR-FLAGS, PRESET-MODE and
SET-WINDOW as they leave timebase and settings, and the rest as they leave the clock. -/
theorem State.effect_inRange (hs : s.timeInRange = true) (code : Nat) (l : List Byte) :
    (s.effect code l).state.timeInRange = true := by
  unfold State.effect
  split
  case h_1 => exact State.doSetStation_inRange hs l
  case h_2 => exact hs
  case h_6 => exact State.doSetTime_inRange hs l
  case h_7 => exact State.doStart_inRange hs
  case h_9 =>
    simp only [State.clearFlags]
    split <;> exact hs
  case h_23 =>
    simp only [State.doPresetMode]
    split <;> exact hs
  case h_24 =>
    simp only [State.doSetWindow]
    split <;> exact hs
  case h_26 => exact State.doStop_inRange hs
  case h_27 => exact State.doRestart_inRange hs
  all_goals exact State.timeInRange_of_clock (by simp) hs

theorem State.complete_inRange (hs : s.timeInRange = true) : s.complete.timeInRange = true := by
  unfold State.complete
  split
  · next t _ _ =>
    have hjudge : (s.judge t).state.timeInRange = true := by
      unfold State.judge
      split
      · exact hs
      · exact State.effect_inRange hs _ _
    exact hjudge
  · exact hs

/-! ## Every command -/

/-- A command keeps the range: most leave the clock to the delivery of reports, and the others keep it each by its
rule. -/
theorem exec_inRange {c : Instr} {t : State} (h : exec c s = .next t) (hs : s.timeInRange = true) :
    t.timeInRange = true := by
  have ofRun : ∀ f : State → State, (∀ u : State, u.timeInRange = true → (f u).timeInRange = true) →
      run f s = .next t → t.timeInRange = true := by
    intro f hf hrun
    cases hrun
    exact drain_inRange _ _ (hf (s.withReports []) hs)
  by_cases hc : movesClock c = false
  · obtain ⟨u, hu, hclock⟩ := exec_effect_clock c s hc
    cases hu.symm.trans h
    exact drain_inRange _ _ (State.timeInRange_of_clock hclock hs)
  · cases c with
    | pinReset =>
      exact ofRun _ (fun u _ => (State.timeInRange_iff u.pinReset).2 Timebase.InRange.reset) h
    | tick => exact ofRun _ (fun u => State.tick_inRange) h
    | ppsEdge cycles => exact ofRun _ (fun u hu => State.ppsEdge_inRange hu cycles) h
    | hourEvent => exact ofRun _ (fun u => State.hourEvent_inRange) h
    | linkFaultEntry => exact ofRun _ (fun u => State.linkFaultEntry_inRange) h
    | beacon head b => exact ofRun _ (fun u hu => State.hearBeacon_inRange hu head b) h
    | peerAbsent n => exact ofRun _ (fun u hu => State.absenceEnds_inRange hu n) h
    | joiningTimerEnd => exact ofRun _ (fun u => State.joiningEnds_inRange) h
    | commandCompletion => exact ofRun _ (fun u => State.complete_inRange) h
    | _ => exact absurd rfl hc

end
end Sys2Proof.Machine
end

section
open Sys2Proof Sys2Proof.Machine

/-- Settles O59, command by command: an empty queue changes nothing, and every command keeps the range. -/
theorem timebaseStaysInRange : Obligations.TimebaseStaysInRange := by
  intro s t h hs
  unfold step at h
  split at h
  · cases h
    exact hs
  · exact exec_inRange h hs
end

section
namespace Sys2Proof.Machine
open Sys2Proof

/-- Every preset set of the reset directory is the reset one. -/
theorem State.pinReset_presetSet (s : State) (i : Nat) : s.pinReset.presetSet i = PresetSet.reset := by
  show ((List.replicate Config.presetSets PresetSet.reset)[i]?).getD PresetSet.reset = PresetSet.reset
  rw [List.getElem?_replicate]
  split <;> rfl

theorem PresetSet.reset_way (w : Nat) : PresetSet.reset.way w = Preset.reset := by
  unfold PresetSet.way
  split <;> rfl

theorem PresetSet.reset_pins (w : Nat) : PresetSet.reset.pins w = 0 := by
  unfold PresetSet.pins
  split <;> rfl

theorem exec_pinReset (s : State) : exec .pinReset s = .next s.pinReset := run_rest State.pinReset s rfl

theorem State.pinReset_flagBits (s : State) : s.pinReset.flagBits = List.replicate 14 false := rfl

theorem State.pinReset_flagWord (s : State) : s.pinReset.flagWord = 0 := by
  rw [State.flagWord, s.pinReset_flagBits]
  rfl

theorem State.pinReset_attn (s : State) : s.pinReset.attn = false := by
  rw [State.attn, s.pinReset_flagBits]
  rfl

/-- The reset state meets every invariant of the statements. -/
theorem State.reset_invariants :
    State.reset.timeInRange = true ∧ State.reset.formsKept = true ∧ State.reset.stopEnds = true
      ∧ State.reset.ts.lockedStill = true ∧ State.reset.planBound = true ∧ State.reset.cm.ownBound = true
      ∧ State.reset.rl.intentBound = true ∧ State.reset.ts.powerBound = true
      ∧ State.reset.powerFloor = true := by decide

end Sys2Proof.Machine
end
section
open Sys2Proof Sys2Proof.Machine
/-- Settles O3: pin reset gives the reset state but for the inputs, the queue and the count of free values, which no
invariant reads. -/
theorem pinResetReturnsEveryBlock : Obligations.PinResetReturnsEveryBlock := by
  refine ⟨fun s => ⟨s.pinReset, exec_pinReset s, rfl, rfl, rfl, rfl, rfl, rfl, rfl, rfl, rfl, rfl, rfl, rfl, rfl,
    rfl, rfl, rfl, rfl, rfl, rfl, rfl, rfl, s.pinReset_flagWord, s.pinReset_attn, rfl, rfl, rfl, rfl, rfl, rfl,
    rfl, rfl, rfl, rfl, rfl, fun i w => ?_, rfl, State.reset_invariants⟩, State.reset_invariants⟩
  rw [s.pinReset_presetSet i, PresetSet.reset_way, PresetSet.reset_pins]
  exact ⟨rfl, rfl⟩
end

section
namespace Sys2Proof.Machine
open Sys2Proof

/-! ## Reports with nobody to act on them -/

/-- Reports that leave the state they are delivered in as it is are delivered without effect. -/
theorem drain_inert (l : List Report) : ∀ (n : Nat) (s : State), s.reports = l → l.length ≤ n →
    (∀ r ∈ l, ∀ rest, deliver r (s.withReports rest) = s.withReports rest) → drain n s = s.withReports [] := by
  induction l with
  | nil =>
    intro n s h _ _
    rw [drain_rest n s h, ← h]
    rfl
  | cons r rest ih =>
    intro n s h hn hr
    obtain ⟨n, rfl⟩ : ∃ k, n = k + 1 := ⟨n - 1, by simp at hn; omega⟩
    rw [drain_cons n s r rest h, hr r (List.mem_cons_self ..)]
    exact ih n (s.withReports rest) rfl (by simpa using hn) fun x hx => hr x (List.mem_cons_of_mem r hx)

/-- Without a BLOCKED plan no plan tries route choice again (R141). -/
theorem State.retryBlocked_none (s : State) (h : ∀ p ∈ s.cp.plans, p.state ≠ .blocked) : s.retryBlocked = s := by
  unfold State.retryBlocked
  rw [List.filter_eq_nil_iff.2 fun p hp => by simp [h p hp]]
  rfl

/-- A call on the BLOCKED plans alone, with no plan BLOCKED, comes to nothing. -/
theorem drain_retryBlocked (s : State) (hplans : ∀ p ∈ s.cp.plans, p.state ≠ .blocked)
    (hrep : ∀ r ∈ s.reports, r = .retryBlocked) (hlen : s.reports.length ≤ reportFuel) :
    drain reportFuel s = s.withReports [] :=
  drain_inert s.reports _ s rfl hlen fun r hr rest => by
    rw [hrep r hr]
    exact State.retryBlocked_none (s.withReports rest) hplans

/-- Outside RUNNING there is no exercise scan (R53). -/
theorem State.secondWork_of_not_running (s : State) (h : s.sp.phase ≠ .running) :
    s.secondWork = s.report [.retryBlocked] := by
  have hscan : s.exerciseScan = s := by simp [State.exerciseScan, State.scanOpen, State.phase, h]
  rw [State.secondWork, hscan]

/-- What follows a second advance leaves the clock: delivery does in every phase but STOPPING, and there only a call on
BLOCKED plans is to be delivered, which are none. -/
theorem drain_second_clock (s : State)
    (h : s.sp.phase = .stopping → (∀ p ∈ s.cp.plans, p.state = .ending)
      ∧ (∀ r ∈ s.reports, r = .retryBlocked) ∧ s.reports.length ≤ reportFuel) :
    (drain reportFuel s).clock = s.clock := by
  by_cases hp : s.sp.phase = .stopping
  · obtain ⟨hplans, hrep, hlen⟩ := h hp
    rw [drain_retryBlocked s (fun p hm => by simp [hplans p hm]) hrep hlen]
    rfl
  · exact drain_clock _ s hp

/-! ## Instants noted at a change of now (R12) -/

/-- Noting changes the schedule store alone. -/
theorem State.noteInstants_other (s : State) (abs0 : Nat) :
    s.noteInstants abs0 = s.withSs (s.noteInstants abs0).ss := by
  unfold State.noteInstants
  split <;> rfl

@[simp] theorem State.noteInstants_reports (s : State) (abs0 : Nat) : (s.noteInstants abs0).reports = s.reports := by
  rw [State.noteInstants_other]
  rfl

@[simp] theorem State.noteInstants_cp (s : State) (abs0 : Nat) : (s.noteInstants abs0).cp = s.cp := by
  rw [State.noteInstants_other]
  rfl

@[simp] theorem State.noteInstants_sp (s : State) (abs0 : Nat) : (s.noteInstants abs0).sp = s.sp := by
  rw [State.noteInstants_other]
  rfl

/-- A change of the claim gate is a call on the BLOCKED plans (R141). -/
theorem State.afterGate_other (s s0 : State) :
    s.afterGate s0 = s ∨ s.afterGate s0 = s.report [.retryBlocked] := by
  unfold State.afterGate
  split
  · exact .inr rfl
  · exact .inl rfl

/-! ## PPS edges (R3, R4) -/

theorem edgeClass_reference {refnom c : Nat} (h : c = captureLimit refnom) :
    edgeClass refnom c = .reference := if_pos h

theorem edgeClass_accepted {refnom c : Nat} (h : c ≠ captureLimit refnom)
    (hr : refnom * 980 ≤ c ∧ c ≤ refnom * 1020) : edgeClass refnom c = .accepted := by
  rw [edgeClass, if_neg h, if_pos hr]

theorem edgeClass_rejected {refnom c : Nat} (h : c ≠ captureLimit refnom)
    (hr : ¬ (refnom * 980 ≤ c ∧ c ≤ refnom * 1020)) : edgeClass refnom c = .rejected := by
  rw [edgeClass, if_neg h, if_neg hr]

/-- The timebase at an edge: the cycles run are counted, and the capture is read and restarts. -/
def Timebase.atEdge (t : Timebase) (refnom cycles : Nat) : Timebase := { t.runTo refnom cycles with capCount := 0 }

theorem State.ppsEdge_reference (s : State) (cycles : Nat)
    (h : edgeClass s.cfg.refnom (s.tb.runTo s.cfg.refnom cycles).capCount = .reference) :
    s.ppsEdge cycles = s.withTb (s.tb.atEdge s.cfg.refnom cycles) := by
  simp only [State.ppsEdge, h]
  rfl

theorem State.ppsEdge_rejected (s : State) (cycles : Nat)
    (h : edgeClass s.cfg.refnom (s.tb.runTo s.cfg.refnom cycles).capCount = .rejected) :
    s.ppsEdge cycles
      = (s.withTb (s.tb.atEdge s.cfg.refnom cycles)).withFlags { s.flags with ppsReject := true } := by
  simp only [State.ppsEdge, h]
  rfl

theorem Timebase.advanceSecond_eq (t : Timebase) :
    t.advanceSecond =
      { t with
        sow := if t.sow < 604799 then t.sow + 1 else 0
        week := if t.sow < 604799 then t.week else (t.week + 1) % 65536
        hourCtr := if t.hourCtr < 3599 then t.hourCtr + 1 else 0
        hourDue := if t.hourCtr < 3599 then t.hourDue else t.hourDue + 1 } := by
  have hsow : t.sow + 1 < Config.weekSeconds ↔ t.sow < 604799 := by
    unfold Config.weekSeconds
    omega
  have hhour : t.hourCtr + 1 < Config.hourSeconds ↔ t.hourCtr < 3599 := by
    unfold Config.hourSeconds
    omega
  unfold Timebase.advanceSecond
  by_cases h1 : t.sow < 604799 <;> by_cases h2 : t.hourCtr < 3599 <;> simp [hsow, hhour, h1, h2, Config.weekCount]

theorem Timebase.acceptEdge_eq (t : Timebase) (c : Nat) :
    t.acceptEdge c =
      { t with
        d := (c + 50) / 100, divCount := 0, freeCount := 0, good := true, freeMark := false
        tis := if t.freeMark then t.tis else 0
        sow := if t.freeMark then t.sow else if t.sow < 604799 then t.sow + 1 else 0
        week := if t.freeMark ∨ t.sow < 604799 then t.week else (t.week + 1) % 65536
        hourCtr := if t.freeMark then t.hourCtr else if t.hourCtr < 3599 then t.hourCtr + 1 else 0
        hourDue := if t.freeMark ∨ t.hourCtr < 3599 then t.hourDue else t.hourDue + 1 } := by
  cases hm : t.freeMark <;> simp [Timebase.acceptEdge, Timebase.advanceSecond_eq, hm]

/-- An accepted edge leaves the clock with the timebase of R4, and hands over calls on BLOCKED plans alone where no
exercise scan runs. -/
theorem State.ppsEdge_accepted (s : State) (cycles : Nat)
    (h : edgeClass s.cfg.refnom (s.tb.runTo s.cfg.refnom cycles).capCount = .accepted) :
    (s.ppsEdge cycles).clock
        = { s.clock with
            tb := (s.tb.atEdge s.cfg.refnom cycles).acceptEdge (s.tb.runTo s.cfg.refnom cycles).capCount }
      ∧ (s.sp.phase ≠ .running → s.reports = [] →
        (s.ppsEdge cycles).cp = s.cp ∧ (∀ r ∈ (s.ppsEdge cycles).reports, r = .retryBlocked)
          ∧ (s.ppsEdge cycles).reports.length ≤ 2) := by
  simp only [State.ppsEdge, h]
  generalize htb : { s.tb.runTo s.cfg.refnom cycles with capCount := 0 } = tb
  have hat : s.tb.atEdge s.cfg.refnom cycles = tb := htb
  rw [hat]
  generalize hu : (s.withTb (tb.acceptEdge (s.tb.runTo s.cfg.refnom cycles).capCount)).noteInstants s.absNow = u
  have hclock : u.clock = { s.clock with tb := tb.acceptEdge (s.tb.runTo s.cfg.refnom cycles).capCount } := by
    rw [← hu, State.noteInstants_clock]
    rfl
  constructor
  · split <;> simp [hclock]
  · intro hp hr
    have hur : u.reports = [] := by rw [← hu, State.noteInstants_reports]; exact hr
    have hucp : u.cp = s.cp := by rw [← hu, State.noteInstants_cp]; rfl
    have husp : u.sp.phase ≠ .running := by rw [← hu, State.noteInstants_sp]; exact hp
    rcases u.afterGate_other s with hg | hg <;> rw [hg] <;> split
    · rw [u.secondWork_of_not_running husp]
      simp [hur, hucp]
    · simp [hur, hucp]
    · rw [(u.report [.retryBlocked]).secondWork_of_not_running husp]
      simp [hur, hucp]
    · simp [hur, hucp]

end Sys2Proof.Machine
end

section
open Sys2Proof Sys2Proof.Machine

/-- Settles O5, by the class of the edge; after an accepted one nothing that is reported moves the clock. -/
theorem edgesDisciplineClock : Obligations.EdgesDisciplineClock := by
  refine ⟨fun s cycles => ⟨fun h => ?_, fun h hr => ?_⟩, fun s cycles hstop h hlo hhi => ?_⟩
  · have heff := (s.withReports []).ppsEdge_reference cycles (edgeClass_reference h)
    exact (run_rest (fun u => u.ppsEdge cycles) s (by rw [heff]; rfl)).trans (by rw [heff]; rfl)
  · have heff := (s.withReports []).ppsEdge_rejected cycles (edgeClass_rejected h hr)
    exact (run_rest (fun u => u.ppsEdge cycles) s (by rw [heff]; rfl)).trans (by rw [heff]; rfl)
  · obtain ⟨hclock, hquiet⟩ := (s.withReports []).ppsEdge_accepted cycles (edgeClass_accepted h ⟨hlo, hhi⟩)
    refine ⟨_, rfl, ?_⟩
    have hdrain := drain_second_clock ((s.withReports []).ppsEdge cycles) fun hp => by
      have hsp : s.sp.phase = .stopping := (congrArg Clock.phase hclock).symm.trans hp
      obtain ⟨hcp, hrep, hlen⟩ := hquiet (by simp [hsp]) rfl
      exact ⟨by rw [hcp]; exact hstop hsp, hrep, hlen.trans (by decide)⟩
    refine (congrArg Clock.tb (hdrain.trans hclock)).trans ?_
    exact Timebase.acceptEdge_eq _ _
end

section
namespace Sys2Proof.Machine
open Sys2Proof

/-- Two directories of one set of modes differ in their sets and their error latch alone. -/
theorem Directory.eq_of_modes {d e : Directory} (hfreeze : d.freeze = e.freeze) (hflush : d.flush = e.flush)
    (hwindows : d.windows = e.windows) : d = { e with sets := d.sets, latch := d.latch, further := d.further } := by
  rw [← hfreeze, ← hflush, ← hwindows]

/-! ## Ticks (R2, R5, R11, R12) -/

/-- The timebase at a counted tick, field by field. -/
theorem Timebase.countTick_eq (t : Timebase) (refnom : Nat) (h : t.tis ≤ 99) :
    t.countTick refnom =
      { t with
        divCount := 0
        capCount := min (2 * refnom * 1000) (t.capCount + (t.d - t.divCount))
        tis := if t.tis < 99 then t.tis + 1 else 0
        sow := if t.tis < 99 then t.sow else if t.sow < 604799 then t.sow + 1 else 0
        week := if t.tis < 99 ∨ t.sow < 604799 then t.week else (t.week + 1) % 65536
        freeMark := decide (t.tis = 99)
        freeCount := if t.freeMark then min 600 (t.freeCount + 1) else t.freeCount
        good := t.good && !(t.freeMark && decide (599 ≤ t.freeCount))
        hourCtr := if t.tis < 99 then t.hourCtr else if t.hourCtr < 3599 then t.hourCtr + 1 else 0
        hourDue := if t.tis < 99 ∨ t.hourCtr < 3599 then t.hourDue else t.hourDue + 1 } := by
  have hpoor : (!decide (599 ≤ t.freeCount)) = decide (t.freeCount < 599) := by
    rw [← decide_not]
    exact decide_eq_decide.2 Nat.not_le
  by_cases htis : t.tis < 99
  · have hne : t.tis ≠ 99 := by omega
    cases hm : t.freeMark <;>
      simp [Timebase.countTick, Timebase.capture, captureLimit, Timebase.confirmFreeRun, Config.freeRunLimit, htis,
        hne, hm, hpoor]
  · have he : t.tis = 99 := by omega
    cases hm : t.freeMark <;>
      simp [Timebase.countTick, Timebase.capture, captureLimit, Timebase.confirmFreeRun, Config.freeRunLimit,
        Timebase.advanceSecond_eq, he, hm, hpoor]

theorem Timebase.turnsPoor_eq (t : Timebase) :
    t.turnsPoor = ((t.freeMark && decide (599 ≤ t.freeCount)) && t.good) := by
  have hlimit : decide (min Config.freeRunLimit (t.freeCount + 1) = Config.freeRunLimit)
      = decide (599 ≤ t.freeCount) := by
    unfold Config.freeRunLimit
    exact decide_eq_decide.2 (by omega)
  rw [Timebase.turnsPoor, hlimit, Bool.and_right_comm]

theorem Drive.countTimers_eq (d : Drive) (inConfig : Prop) [Decidable inConfig] :
    d.countTimers (decide inConfig) =
      { d with
        motion := d.motion.map fun m => { m with count := m.count + 1, timer := m.timer - 1 }
        slew := d.slew.map fun w => { w with timer := w.timer - 1 }
        idleTicks := if inConfig then d.idleTicks else if d.idleTicks < 99 then d.idleTicks + 1 else 0
        idleDue := if inConfig ∨ d.idleTicks < 99 then d.idleDue else d.idleDue + 1 } := by
  have hidle : d.idleTicks + 1 < 100 ↔ d.idleTicks < 99 := by omega
  by_cases hc : inConfig
  · simp [Drive.countTimers, hc]
    exact ⟨rfl, rfl⟩
  · by_cases h : d.idleTicks < 99 <;> simp [Drive.countTimers, hc, h, hidle] <;> exact ⟨rfl, rfl⟩

/-- What a tick leaves before the work of a second advance: the counted timebase, its flags, every timer counted, and
the instants noted. -/
def State.ticked (s : State) : State :=
  (((s.withTb (s.tb.countTick s.cfg.refnom)).withFlags
    { s.flags with
      ppsMissing := s.flags.ppsMissing || s.tb.freeMark
      poorTime := s.flags.poorTime || s.tb.turnsPoor }).countTimers).noteInstants s.absNow

theorem State.tick_within (s : State) (h : s.tb.tis < 99) : s.tick = s.ticked := by
  have h' : ¬ 99 ≤ s.tb.tis := Nat.not_le.2 h
  simp only [State.tick, h']
  rfl

theorem State.tick_second (s : State) (h : 99 ≤ s.tb.tis) : s.tick = s.ticked.secondWork := by
  simp only [State.tick, h]
  rfl

theorem State.ticked_reports (s : State) : s.ticked.reports = s.reports := State.noteInstants_reports _ _

theorem State.ticked_plans (s : State) : s.ticked.cp.plans = s.cp.plans := by
  rw [State.ticked, State.noteInstants_cp]
  rfl

theorem State.ticked_sp (s : State) : s.ticked.sp = s.sp := by
  rw [State.ticked, State.noteInstants_sp]
  rfl

/-- What is noted follows the timebase; the timers, flags and guard timer counted beside it are not read. -/
theorem State.ticked_ss (s : State) :
    s.ticked.ss = ((s.withTb (s.tb.countTick s.cfg.refnom)).noteInstants s.absNow).ss := by
  show (if s.sp.phase = .running then _ else _ : State).ss = (if s.sp.phase = .running then _ else _ : State).ss
  split <;> rfl

theorem State.noteInstants_ss_withReports (s : State) (l : List Report) (abs0 : Nat) :
    ((s.withReports l).noteInstants abs0).ss = (s.noteInstants abs0).ss := by
  show (if s.sp.phase = .running then _ else _ : State).ss = (if s.sp.phase = .running then _ else _ : State).ss
  split <;> rfl

/-- A tick block by block. -/
theorem State.ticked_eq (s : State) :
    s.ticked =
      { s with
        tb := s.tb.countTick s.cfg.refnom
        flags := { s.flags with
          ppsMissing := s.flags.ppsMissing || s.tb.freeMark
          poorTime := s.flags.poorTime || s.tb.turnsPoor }
        hlc := s.hlc.countTimers
        ed := s.ed.countTimers (decide (s.sp.phase = .config))
        cm := { s.cm with own := s.cm.own.map OwnBooking.count }
        cp := { s.cp with guardT := countDown s.cp.guardT }
        ts := s.ts.countTimers
        ss := ((s.withTb (s.tb.countTick s.cfg.refnom)).noteInstants s.absNow).ss } := by
  rw [← State.ticked_ss]
  exact State.noteInstants_other _ _

theorem State.ticked_clock (s : State) :
    s.ticked.clock =
      { s.clock with
        tb := s.tb.countTick s.cfg.refnom
        missing := s.flags.ppsMissing || s.tb.freeMark, poor := s.flags.poorTime || s.tb.turnsPoor } := by
  rw [State.ticked, State.noteInstants_clock]
  rfl

theorem State.tick_clock (s : State) : s.tick.clock = s.ticked.clock := by
  by_cases h : s.tb.tis < 99
  · rw [s.tick_within h]
  · rw [s.tick_second (Nat.le_of_not_lt h), State.secondWork_clock]

/-- Where no exercise scan runs a tick hands over a call on the BLOCKED plans, or nothing. -/
theorem State.tick_hands_over (s : State) (hp : s.sp.phase ≠ .running) (hr : s.reports = []) :
    s.tick.cp.plans = s.cp.plans ∧ (∀ r ∈ s.tick.reports, r = .retryBlocked) ∧ s.tick.reports.length ≤ 1 := by
  by_cases h : s.tb.tis < 99
  · rw [s.tick_within h, s.ticked_plans, s.ticked_reports, hr]
    simp
  · rw [s.tick_second (Nat.le_of_not_lt h),
      s.ticked.secondWork_of_not_running (by rw [s.ticked_sp]; exact hp)]
    simp [s.ticked_plans, s.ticked_reports, hr]

end Sys2Proof.Machine
end

section
open Sys2Proof Sys2Proof.Machine

/-- Settles O4: a tick is `State.ticked`, with the work of a second advance after the 100th, which leaves the clock. -/
theorem ticksMakeSeconds : Obligations.TicksMakeSeconds := by
  intro s htis within confirms poor tb ticked
  have htb : s.tb.countTick s.cfg.refnom = tb := s.tb.countTick_eq _ htis
  have hticked : (s.withReports []).ticked = ticked := by
    have hss : (((s.withReports []).withTb tb).noteInstants s.absNow).ss = ticked.ss :=
      (s.withTb tb).noteInstants_ss_withReports [] s.absNow
    have htb' : (s.withReports []).tb.countTick (s.withReports []).cfg.refnom = tb := htb
    rw [State.ticked_eq, Drive.countTimers_eq, Timebase.turnsPoor_eq, htb']
    exact congrArg ticked.withSs hss
  refine ⟨fun hw => ?_, fun hp hplans => ?_, fun hstop => ?_⟩
  · have heff : (s.withReports []).tick = ticked := ((s.withReports []).tick_within hw).trans hticked
    exact (run_rest State.tick s (by rw [heff])).trans (by rw [heff])
  · by_cases hw : s.tb.tis < 99
    · have heff : (s.withReports []).tick = ticked := ((s.withReports []).tick_within hw).trans hticked
      exact (run_rest State.tick s (by rw [heff])).trans (by rw [heff])
    · have heff : (s.withReports []).tick = ticked.report [.retryBlocked] := by
        rw [(s.withReports []).tick_second (Nat.le_of_not_lt hw), hticked]
        exact ticked.secondWork_of_not_running hp
      have hnone : ∀ p ∈ (ticked.report [.retryBlocked]).cp.plans, p.state ≠ .blocked := by
        intro p hm
        have : p ∈ s.cp.plans := hm
        simp [hplans] at this
      show run State.tick s = _
      rw [run_next, heff, drain_retryBlocked _ hnone (by simp [ticked]) (by simp [ticked, reportFuel])]
      rfl
  · have hclock : ((s.withReports []).tick).clock = ticked.clock :=
      ((s.withReports []).tick_clock).trans (congrArg State.clock hticked)
    have hdrain := drain_second_clock (s.withReports []).tick fun hp => by
      have hsp : s.sp.phase = .stopping := (congrArg Clock.phase hclock).symm.trans hp
      obtain ⟨hplans, hrep, hlen⟩ := (s.withReports []).tick_hands_over (by simp [hsp]) rfl
      exact ⟨by rw [hplans]; exact hstop hsp, hrep, hlen.trans (by decide)⟩
    have hend := hdrain.trans hclock
    exact ⟨_, rfl, congrArg Clock.tb hend, congrArg Clock.missing hend, congrArg Clock.poor hend,
      Directory.eq_of_modes (congrArg Clock.freeze hend) (congrArg Clock.flush hend) (congrArg Clock.windows hend)⟩
end

section
namespace Sys2Proof.Machine
open Sys2Proof

/-! ## Host commands served (R182, R183) -/

/-- What the window of a command leaves: its bytes received, the port byte shifted out, the command taken. -/
def State.windowed (s : State) (code : Nat) (win : List Byte) (taken : Taken) : State :=
  (s.withReports []).withSp { s.sp with
    resp := .busy, taken := some taken
    rx := byte code :: win, sdo := s.portByte :: List.replicate win.length (byte 0) }

/-- With the response buffer empty the window of a command is taken (R183). -/
theorem State.commandWindow_of_empty (s : State) (code : Nat) (win : List Byte) (hresp : s.sp.resp = .empty)
    (hcode : isCommand code = true) :
    (s.withReports []).commandWindow code win = s.windowed code win (takeWindow s.sp.phase code win) := by
  simp only [State.commandWindow, State.withReports_sp, State.withSp_sp, hresp, hcode]
  rfl

/-- A window that holds the payload its length byte announces gives the command that payload (R183). -/
theorem takeWindow_hostWindow (phase : Phase) (code : Nat) (payload extra : List Byte)
    (hlen : payloadLength code (payload ++ extra) = some payload.length) (hbyte : payload.length < 256)
    (hphase : takenIn code phase = true) :
    takeWindow phase code (hostWindow payload extra) = { code := code, payload := payload, answer := none } := by
  have hcount : (byte payload.length).toNat = payload.length := by
    rw [byte, BitVec.toNat_ofNat]
    exact Nat.mod_eq_of_lt hbyte
  simp [takeWindow, hostWindow, hcount, hlen, hphase]

/-- The state a served command leaves: its effect, and its answer in the response buffer. -/
def Answer.served (a : Answer) : State :=
  a.state.withSp { a.state.sp with
    resp := .ready, taken := none, response := some { status := a.status, payload := a.payload } }

theorem State.windowed_complete (s : State) (code : Nat) (win payload : List Byte) :
    (s.windowed code win { code := code, payload := payload, answer := none }).complete
      = ((s.windowed code win { code := code, payload := payload, answer := none }).effect code payload).served :=
  rfl

/-- A host command whose window is taken and whose effect hands over no report is served with its effect (R183). -/
theorem serves_of_effect {c : Instr} {s : State} {code : Nat} {payload extra : List Byte}
    (hexec : exec c s = run (fun u => u.commandWindow code (hostWindow payload extra)) s)
    (hresp : s.sp.resp = .empty) (hcode : isCommand code = true)
    (hlen : payloadLength code (payload ++ extra) = some payload.length) (hbyte : payload.length < 256)
    (hphase : takenIn code s.sp.phase = true) {a : Answer}
    (ha : (s.windowed code (hostWindow payload extra) { code := code, payload := payload, answer := none }).effect
      code payload = a) (hrep : a.state.reports = []) :
    Serves c s a.served := by
  have hwindow := s.commandWindow_of_empty code (hostWindow payload extra) hresp hcode
  rw [takeWindow_hostWindow _ _ _ _ hlen hbyte hphase] at hwindow
  refine ⟨s.windowed code (hostWindow payload extra) { code := code, payload := payload, answer := none }, ?_, rfl, ?_⟩
  · rw [hexec, ← hwindow]
    exact run_rest _ s (by rw [hwindow]; rfl)
  · have hdone := (s.windowed_complete code (hostWindow payload extra) payload).trans (congrArg Answer.served ha)
    rw [← hdone]
    exact run_rest State.complete _ ((congrArg State.reports hdone).trans hrep)

end Sys2Proof.Machine
end

section
namespace Sys2Proof.Machine
open Sys2Proof

/-! ## SET-STATION and SET-TIME (R1, R6, R187) -/

theorem clampTo_changed {lo hi v : Nat} (h : lo ≤ hi) : (clampTo lo hi v).2 = !decide (lo ≤ v ∧ v ≤ hi) := by
  rw [clampTo, ← decide_not]
  exact decide_eq_decide.2 (by omega)

/-- Milliseconds of at least 10 in ticks: rounded up. -/
theorem msTicks_of_le {ms : Nat} (h : 10 ≤ ms) : msTicks ms = (ms + 9) / 10 := by
  unfold msTicks ceilDiv
  omega

/-- SET-STATION marks a value clamped when one of the five limited values is outside its limits. -/
theorem stationOf_clamped (l : List Byte) (c : Settings) :
    (stationOf l c).2 = !decide (1 ≤ field l 2 1 ∧ field l 2 1 ≤ 30 ∧ 50 ≤ field l 3 2 ∧ field l 3 2 ≤ 2000
      ∧ 1 ≤ field l 5 1 ∧ field l 5 1 ≤ 8 ∧ 1 ≤ field l 6 1 ∧ field l 6 1 ≤ 60
      ∧ 8000 ≤ field l 7 2 ∧ field l 7 2 ≤ 12000) := by
  simp only [stationOf, clampTo_changed (show 1 ≤ 30 by decide), clampTo_changed (show 50 ≤ 2000 by decide),
    clampTo_changed (show 1 ≤ 8 by decide), clampTo_changed (show 1 ≤ 60 by decide),
    clampTo_changed (show 8000 ≤ 12000 by decide), ← Bool.not_and, ← Bool.decide_and, and_assoc]

/-- The settings SET-STATION stores. -/
theorem stationOf_settings (l : List Byte) (c : Settings) :
    (stationOf l c).1 =
      { c with
        stationId := field l 0 1, profile := field l 1 1, tBCN := max 1 (min 30 (field l 2 1)) * 100
        tLSN := (max 50 (min 2000 (field l 3 2)) + 9) / 10, nRMP := max 1 (min 8 (field l 5 1))
        tWRMP := max 1 (min 60 (field l 6 1)) * 100, refnom := max 8000 (min 12000 (field l 7 2)) } := by
  rw [← msTicks_of_le (by omega)]
  rfl

theorem State.doSetStation_refused (s : State) (l : List Byte) (h : 15 < field l 0 1) :
    s.doSetStation l = s.answer .badArg := if_pos h

/-- The state an accepted SET-STATION leaves: its settings `c` stored, and for a new REFNOM the divider restarted. -/
def State.stationSet (s : State) (c : Settings) : State :=
  (((s.withTb (if c.refnom = s.cfg.refnom then s.tb
      else s.tb.newRefnom s.cfg.refnom c.refnom (s.tb.cyclesRun s.freeCtr))).withFreeCtr
    (if c.refnom = s.cfg.refnom then s.freeCtr else s.freeCtr + 1)).withCfg c).withSp
    { s.sp with stationLoaded := true }

theorem State.doSetStation_accepted (s : State) (l : List Byte) (h : ¬ 15 < field l 0 1) :
    s.doSetStation l = (s.stationSet (stationOf l s.cfg).1).answer
      (if (stationOf l s.cfg).2 then .okClamped else .ok) := by
  by_cases hkept : (stationOf l s.cfg).1.refnom = s.cfg.refnom
  · simp only [State.doSetStation, State.stationSet, if_neg h, if_pos hkept]
    rfl
  · simp only [State.doSetStation, State.stationSet, if_neg h, if_neg hkept]
    rfl

/-- SET-TIME outside RUNNING notes ad hoc ends alone. -/
theorem State.noteInstants_config (s : State) (abs0 : Nat) (h : s.sp.phase ≠ .running) :
    s.noteInstants abs0 = s.withSs { s.ss with endDue := (s.noteInstants abs0).ss.endDue } := by
  have hif : s.phase ≠ .running := h
  simp only [State.noteInstants, hif, if_false]
  rfl

end Sys2Proof.Machine
end

section
open Sys2Proof Sys2Proof.Machine

/-- Settles O49: the window is taken and served with its effect; a value is marked clamped exactly when it is outside
its limits, and outside RUNNING a new time notes ad hoc ends alone. -/
theorem stationAndTimeAreSet : Obligations.StationAndTimeAreSet := by
  intro s l extra hresp hphase win clamped
  refine ⟨?_, fun hlen => ⟨fun hsec => ?_, fun hsec => ?_⟩⟩
  · intro hlen bcn lsn nrmp wrmp ref fits
    have serves := fun {a : Answer} => serves_of_effect (c := .setStation win) (s := s) (code := 1) (payload := l)
      (extra := extra) rfl hresp rfl (by simp [payloadLength, hlen]) (by omega) (by simp [takenIn, hphase]) (a := a)
    refine ⟨fun hid => serves (a := _) (State.doSetStation_refused _ l hid) rfl, fun hid => ?_⟩
    intro a ref former c kept
    have hserved := serves (a := _) (State.doSetStation_accepted _ l (by omega)) rfl
    rw [stationOf_clamped, stationOf_settings] at hserved
    by_cases hfits : fits
    · rw [decide_eq_true hfits] at hserved
      simp only [a, if_pos hfits]
      exact hserved
    · rw [decide_eq_false hfits] at hserved
      simp only [a, if_neg hfits]
      exact hserved
  · exact serves_of_effect (c := .setTime win) (code := 6) rfl hresp rfl (by simp [payloadLength, hlen]) (by omega)
      (by simp [takenIn, hphase]) (if_pos hsec) rfl
  · have htaken : ∀ u : State, u.doSetTime l
        = ((u.withTb { u.tb with week := field l 0 2, sow := field l 2 4, timeSet := true }).noteInstants
          u.absNow).answer .ok := fun u => if_neg (by simpa [Config.weekSeconds] using hsec)
    refine ⟨_, serves_of_effect (c := .setTime win) (code := 6) rfl hresp rfl (by simp [payloadLength, hlen]) (by omega)
      (by simp [takenIn, hphase]) (htaken _) (State.noteInstants_reports _ _), ?_⟩
    rw [State.noteInstants_config _ _ (by simp [State.windowed, hphase])]
    rfl
end

section
namespace Sys2Proof.Machine
open Sys2Proof

/-! ## The offset table at a BEACON (R7, R8, R9, R30) -/

/-- A list entry replaced by one that satisfies `p`: one more does, unless it did before. -/
theorem countP_set_true {α : Type} (p : α → Bool) (l : List α) (i : Nat) (a : α) (hi : i < l.length)
    (ha : p a = true) : (l.set i a).countP p = l.countP p + if p l[i] then 0 else 1 := by
  rw [List.countP_set hi, if_pos ha]
  split
  · have : 0 < l.countP p := List.countP_pos_iff.2 ⟨l[i], List.getElem_mem hi, ‹_›⟩
    omega
  · rfl

theorem State.markAbsent_presence (s : State) (b : Bool) (i : ItemKind × Nat) :
    (s.markAbsent b i).hlc.presence = s.hlc.presence := by
  unfold State.markAbsent
  split <;> simp only <;> split <;> rfl

theorem State.markStation_presence (s : State) (station : Nat) (b : Bool) :
    (s.markStation station b).hlc.presence = s.hlc.presence := by
  unfold State.markStation
  split
  · rfl
  · exact List.foldlRecOn (motive := fun u : State => u.hlc.presence = s.hlc.presence) _ _ rfl
      fun u hu i _ => (u.markAbsent_presence b i).trans hu

/-- A BEACON makes its sender present. -/
theorem State.beaconPresence_presence (s : State) (sender : Nat) (b : BeaconBody) :
    (s.beaconPresence sender b).hlc.presence
      = s.hlc.presence.set sender
        { present := true, absence := some (3 * s.cfg.tBCN), heard := some (b.phase, b.seq) } := by
  unfold State.beaconPresence
  by_cases hknown : (s.peer sender).present
  · simp only [if_pos hknown]
    split <;> rfl
  · simp only [if_neg hknown]
    split <;> exact (s.hearPeer sender b.phase b.seq).markStation_presence sender false

/-- A list without entries leaves the presence table alone. -/
theorem State.hearList_nil_presence (s : State) (sender ctr : Nat) :
    (s.hearList sender ctr []).hlc.presence = s.hlc.presence := by
  unfold State.hearList State.afterMap
  simp only
  split <;> rfl

/-- The majority of the evaluation: the first disagreeing offset that more than half of the peers share (R8). -/
theorem State.evaluateOffsets_majority (s : State) (hpeers : s.presentCount ≠ 0)
    (h : ∃ k ∈ s.tb.disagreeing, s.presentCount < 2 * s.tb.disagreeing.count k) :
    ∃ k ∈ s.tb.disagreeing, s.presentCount < 2 * s.tb.disagreeing.count k ∧ s.evaluateOffsets = s.timeStep k := by
  obtain ⟨k, hfind⟩ := Option.isSome_iff_exists.1 (List.find?_isSome.2
    (h.imp fun k hk => ⟨hk.1, decide_eq_true hk.2⟩))
  refine ⟨k, List.mem_of_find?_eq_some hfind, by simpa using List.find?_some hfind, ?_⟩
  simp only [State.evaluateOffsets, if_neg hpeers, hfind]

theorem State.evaluateOffsets_skew (s : State) (hpeers : s.presentCount ≠ 0)
    (h : ∀ k ∈ s.tb.disagreeing, ¬ s.presentCount < 2 * s.tb.disagreeing.count k) :
    s.evaluateOffsets = s.setSkew (decide (s.presentCount < 2 * s.tb.disagreeing.length)) := by
  have hfind : s.tb.disagreeing.find? (fun k => decide (s.presentCount < 2 * s.tb.disagreeing.count k)) = none :=
    List.find?_eq_none.2 fun k hk => by simpa using h k hk
  simp only [State.evaluateOffsets, if_neg hpeers, hfind]

theorem State.recordOffset_of_timeSet (s : State) (h : Head) (hset : s.tb.timeSet = true) :
    s.recordOffset h = (s.withTb { s.tb with
      offsets := s.tb.offsets.set h.sender (some (offsetOf (h.tick / 100) s.tb.sow)) }).evaluateOffsets := if_pos hset

/-- The state in which a BEACON's offset is recorded: its sender is present, its list heard. -/
def State.beaconHeard (s : State) (h : Head) (b : BeaconBody) : State :=
  ((s.withHlc (followFrame s.hlc.number (.beacon b))).beaconPresence h.sender b).hearList h.sender b.stampCtr b.bookings

theorem State.beaconHeard_clock (s : State) (h : Head) (b : BeaconBody) : (s.beaconHeard h b).clock = s.clock := by
  simp [State.beaconHeard]

theorem State.hearBeacon_running (s : State) (h : Head) (b : BeaconBody) (hgood : s.goodFrame h (.beacon b) = true)
    (hphase : s.sp.phase = .running) (hread : beaconReadable h b = true) :
    s.hearBeacon h b = (s.beaconHeard h b).recordOffset h := by
  have hdispatch : dispatchesIn (s.withHlc (followFrame s.hlc.number (.beacon b))).phase = true := by
    simp [State.phase, hphase, dispatchesIn]
  simp only [State.hearBeacon, hgood, hdispatch, hread, Bool.and_self, if_true]
  rfl

theorem State.beaconHeard_presence (s : State) (h : Head) (b : BeaconBody) (hlist : b.bookings = []) :
    (s.beaconHeard h b).hlc.presence = s.hlc.presence.set h.sender
      { present := true, absence := some (3 * s.cfg.tBCN), heard := some (b.phase, b.seq) } := by
  unfold State.beaconHeard
  rw [hlist]
  exact (State.hearList_nil_presence _ _ _).trans (State.beaconPresence_presence _ _ _)

theorem State.beaconHeard_presentCount (s : State) (h : Head) (b : BeaconBody) (hlist : b.bookings = [])
    (hlen : h.sender < s.hlc.presence.length) :
    (s.beaconHeard h b).presentCount
      = (s.hlc.presence.countP fun e => e.present) + if (s.peer h.sender).present then 0 else 1 := by
  rw [State.presentCount, s.beaconHeard_presence h b hlist, countP_set_true _ _ _ _ hlen rfl, State.peer,
    List.getElem?_eq_getElem hlen]
  rfl

theorem State.beaconHeard_peers (s : State) (h : Head) (b : BeaconBody) (hlist : b.bookings = [])
    (hlen : h.sender < s.hlc.presence.length) : (s.beaconHeard h b).presentCount ≠ 0 := by
  rw [State.presentCount, s.beaconHeard_presence h b hlist]
  exact (List.countP_pos_iff.2 ⟨_, List.mem_set hlen _, rfl⟩).ne'

/-- In RUNNING the reports of an effect leave the clock as the effect has set it. -/
theorem drain_clock_running {s : State} {c : Clock} (n : Nat) (h : s.clock = c) (hphase : c.phase = .running) :
    (drain n s).clock = c := by
  have hrunning : s.sp.phase = .running := (congrArg Clock.phase h).trans hphase
  rw [drain_clock n s (by rw [hrunning]; decide), h]

end Sys2Proof.Machine
end

section
open Sys2Proof Sys2Proof.Machine

/-- Settles O7: the sender is present and its offset recorded; the evaluation then finds a majority and steps, or sets
SKEW, and the reports of the step leave the clock as it is. -/
theorem offsetMajorityStepsTime : Obligations.OffsetMajorityStepsTime := by
  intro s h b hquiet hphase hset hmap hlist hlen hsender hother htick hcode hseq k offsets disagreeing n
  have hplace : h.sender < (s.withReports []).hlc.presence.length := hlen ▸ hsender
  have hclock : ((s.withReports []).beaconHeard h b).clock = s.clock := (s.withReports []).beaconHeard_clock h b
  have hn := (s.withReports []).beaconHeard_presentCount h b hlist hplace
  have hpeers := (s.withReports []).beaconHeard_peers h b hlist hplace
  have hheard := (s.withReports []).hearBeacon_running h b
    (by simp [State.goodFrame, frameCountsOk, hlist, hother]) hphase
    (by simp [beaconReadable, headReadable, Config.weekTicks, htick, hcode, hseq])
  generalize (s.withReports []).beaconHeard h b = u at hclock hn hpeers hheard
  have htb : u.tb = s.tb := congrArg Clock.tb hclock
  rw [State.recordOffset_of_timeSet _ _ (htb ▸ hset), htb] at hheard
  have hexec : exec (.beacon h b) s = .next (drain reportFuel
      (u.withTb { s.tb with offsets := offsets }).evaluateOffsets) :=
    congrArg (fun v => Host.Outcome.next (drain reportFuel v)) hheard
  have hrecorded : (u.withTb { s.tb with offsets := offsets }).clock
      = { s.clock with tb := { s.tb with offsets := offsets } } := by
    rw [State.withTb_clock, hclock]
  refine ⟨_, hexec, fun hmajority => ?_, fun hnone => ?_⟩
  · obtain ⟨j, hj, hcount, heval⟩ := (u.withTb { s.tb with offsets := offsets }).evaluateOffsets_majority hpeers
      (hn ▸ hmajority)
    have hafter := drain_clock_running reportFuel ((congrArg State.clock heval).trans (State.timeStep_clock _ j))
      ((congrArg Clock.phase hrecorded).trans hphase)
    have hafterTb : State.tb _ = ({ s.tb with offsets := offsets } : Timebase).stepBy j := congrArg Clock.tb hafter
    refine ⟨⟨j, hj, hn.symm.trans_lt hcount, ?_, hafterTb ▸ rfl⟩, hafterTb ▸ rfl, hafterTb ▸ rfl, hafterTb ▸ rfl,
      congrArg Clock.stepped hafter⟩
    rw [hafterTb]
    exact Int.toNat_of_nonneg (Int.emod_nonneg _ (by decide))
  · have heval := (u.withTb { s.tb with offsets := offsets }).evaluateOffsets_skew hpeers (hn ▸ hnone)
    have hafter := drain_clock_running reportFuel ((congrArg State.clock heval).trans (State.setSkew_clock _ _))
      ((congrArg Clock.phase hrecorded).trans hphase)
    refine ⟨(congrArg Clock.tb hafter).trans ?_,
      (congrArg Clock.stepped hafter).trans (congrArg Clock.stepped hrecorded)⟩
    rw [show n = _ from hn.symm]
    rfl
end

section
/-! SUPPORT. A plan that has missed its limit in RAMP-WAIT and ramps down: nothing that is reported on the way ends its
ENDING, its booking's, or the sequencer's DOWN (R151, R153). -/
namespace Sys2Proof.Machine
open Sys2Proof

/-! ## Plans and bookings found -/

theorem State.mem_of_plan {s : State} {k : Nat} {p : Plan} (h : s.plan k = some p) : p ∈ s.cp.plans :=
  List.mem_of_find?_eq_some h

theorem State.id_of_plan {s : State} {k : Nat} {p : Plan} (h : s.plan k = some p) : p.id = k := by
  simpa using List.find?_some h

theorem State.ownBooking_num {s : State} {m : Nat} {b : OwnBooking} (h : s.ownBooking m = some b) : b.desc.num = m := by
  simpa using List.find?_some h

/-- A change of bookings that keeps their numbers is a change of the booking found. -/
theorem State.ownBooking_updOwn (s : State) (m k : Nat) {f : OwnBooking → OwnBooking}
    (hf : ∀ b, (f b).desc.num = b.desc.num) :
    (s.updOwn m f).ownBooking k = (s.ownBooking k).map fun b => if b.desc.num = m then f b else b := by
  refine (List.find?_map ..).trans (congrArg (Option.map _) (congrArg (List.find? · s.cm.own) ?_))
  funext x
  refine congrArg (· == k) ?_
  beta_reduce
  split
  · exact hf x
  · rfl

/-- A new plan's id is a free one: fewer than 8 plans leave one of 8 ids free. -/
theorem State.plan_freePlanId (s : State) (hroom : s.cp.plans.length < Config.planQueueSize) :
    s.plan s.freePlanId = none := by
  have hfree : ∃ i ∈ List.range Config.planQueueSize, (s.plan i).isNone := by
    by_contra hall
    have hcover : List.range Config.planQueueSize ⊆ s.cp.plans.map Plan.id := fun i hi => by
      obtain ⟨p, hp⟩ := Option.ne_none_iff_exists'.1 fun hnone => hall ⟨i, hi, Option.isNone_iff_eq_none.2 hnone⟩
      exact List.mem_map.2 ⟨p, State.mem_of_plan hp, State.id_of_plan hp⟩
    have hle := (List.nodup_range.subperm hcover).length_le
    rw [List.length_range, List.length_map] at hle
    omega
  obtain ⟨i, hfind⟩ := Option.isSome_iff_exists.1 (List.find?_isSome.2 hfree)
  rw [State.freePlanId, hfind]
  simpa using List.find?_some hfind

theorem State.exerciseTold_released (s : State) (num : Nat) : s.exerciseTold num .released = s := by
  unfold State.exerciseTold
  split
  · split <;> rfl
  · rfl

/-- While the sequencer is DOWN the release of a committed booking waits (R68). -/
theorem State.releaseTest_down (s : State) (h : s.ts.state = .down) : s.releaseTest = s :=
  if_pos (show s.rfHeld = true by simp [State.rfHeld, h])

/-! ## The condition that holds from then on -/

/-- Reports that follow the end of a ramp wait: the claim map tells of released bookings other than `n` alone. -/
def Report.follows (n : Nat) : Report → Prop
  | .told _ num what => num ≠ n ∧ what = .released
  | .permitTest | .retryBlocked | .routeChoice _ | .planLeft | .contCheck | .voidPin _ _ | .restartTest | .leaveTripped
  | .stopTest | .openTest => True
  | _ => False

/-- A booking whose release waits for RF-off (R68). -/
def OwnBooking.ended (b : OwnBooking) : OwnBooking := { b with state := .ending, confirm := none, relPending := true }

/-- A plan with booking `n` that goes down for its late limit (R151). -/
def Plan.missedLimit (n : Nat) (p : Plan) : Prop :=
  p.state = .ending ∧ p.pendOut = some .missed ∧ p.cause = some .lateLimit ∧ p.booking = some n

/-- In RUNNING the sequencer is DOWN, having sent `sent`, for plan `id`, whose late limit ended its ramp wait, and its
booking `n` waits for RF-off. -/
structure RampsDown (id n : Nat) (sent : List TxMsg) (s : State) : Prop where
  running : s.sp.phase = .running
  down : s.ts.state = .down
  sent_eq : s.ts.sent = sent
  plans : ∀ p ∈ s.cp.plans, p.id = id → p.missedLimit n
  queued : ∃ p ∈ s.cp.plans, p.id = id
  booked : ∃ b, s.ownBooking n = some b ∧ b.state = .ending ∧ b.req = .plan id
  reports : ∀ r ∈ s.reports, r.follows n

namespace RampsDown
variable {id n : Nat} {sent : List TxMsg} {s u : State}

/-! ## What the condition reads -/

/-- The condition reads the phase, the sequencer, the plan queue, the own bookings and the reports. -/
theorem of_same (h : RampsDown id n sent s) (hphase : u.sp.phase = s.sp.phase) (hts : u.ts = s.ts)
    (hplans : u.cp.plans = s.cp.plans) (hown : u.cm.own = s.cm.own) (hreports : u.reports = s.reports) :
    RampsDown id n sent u where
  running := hphase.trans h.running
  down := hts ▸ h.down
  sent_eq := hts ▸ h.sent_eq
  plans := hplans ▸ h.plans
  queued := hplans ▸ h.queued
  booked := by
    obtain ⟨b, hfind, hb⟩ := h.booked
    exact ⟨b, by rw [State.ownBooking, hown]; exact hfind, hb⟩
  reports := hreports ▸ h.reports

theorem report (h : RampsDown id n sent s) {l : List Report} (hl : ∀ r ∈ l, r.follows n) :
    RampsDown id n sent (s.report l) :=
  { h with reports := fun r hr => (List.mem_append.1 hr).elim (h.reports r) (hl r) }

theorem foldl (h : RampsDown id n sent s) {α : Type} (f : State → α → State) (l : List α)
    (hf : ∀ u, RampsDown id n sent u → ∀ x ∈ l, RampsDown id n sent (f u x)) :
    RampsDown id n sent (l.foldl f s) :=
  List.foldlRecOn l f h fun u hu x hx => hf u hu x hx

/-- A waiting plan of the queue is another one. -/
theorem id_ne (h : RampsDown id n sent s) {p : Plan} (hp : p ∈ s.cp.plans) (hstate : p.state ≠ .ending) :
    p.id ≠ id := fun hid => hstate (h.plans p hp hid).1

/-- Plan `id` is found, MISSED. -/
theorem plan (h : RampsDown id n sent s) : ∃ p, s.plan id = some p ∧ p.missedLimit n := by
  obtain ⟨q, hq, hqid⟩ := h.queued
  obtain ⟨p, hp⟩ : ∃ p, s.plan id = some p :=
    Option.isSome_iff_exists.1 (List.find?_isSome.2 ⟨q, hq, by simpa using hqid⟩)
  exact ⟨p, hp, h.plans p (State.mem_of_plan hp) (State.id_of_plan hp)⟩

/-! ## Plans -/

/-- A change of the queue that keeps what is said of plan `id`. -/
theorem withCp (h : RampsDown id n sent s) {c : Planner} (hplans : ∀ p ∈ c.plans, p.id = id → p.missedLimit n)
    (hqueued : ∃ p ∈ c.plans, p.id = id) : RampsDown id n sent (s.withCp c) :=
  { h with plans := hplans, queued := hqueued }

/-- A change that keeps plan ids, and what is said of plan `id`. -/
theorem updPlan_keeps (h : RampsDown id n sent s) (k : Nat) {f : Plan → Plan} (hid : ∀ p, (f p).id = p.id)
    (hf : ∀ p : Plan, p.missedLimit n → (f p).missedLimit n) : RampsDown id n sent (s.updPlan k f) := by
  have hkeep : ∀ p : Plan, (if p.id = k then f p else p).id = p.id := fun p => by
    split
    · exact hid p
    · rfl
  refine h.withCp (fun q hq hqid => ?_) ?_
  · obtain ⟨p, hp, rfl⟩ := List.mem_map.1 hq
    have hmiss := h.plans p hp ((hkeep p).symm.trans hqid)
    split
    · exact hf p hmiss
    · exact hmiss
  · obtain ⟨p, hp, hpid⟩ := h.queued
    exact ⟨_, List.mem_map.2 ⟨p, hp, rfl⟩, (hkeep p).trans hpid⟩

/-- A change of another plan. -/
theorem updPlan (h : RampsDown id n sent s) {k : Nat} (hk : k ≠ id) {f : Plan → Plan}
    (hf : ∀ p, p.id = k → (f p).id = k) : RampsDown id n sent (s.updPlan k f) := by
  refine h.withCp (fun q hq hqid => ?_) ?_
  · obtain ⟨p, hp, rfl⟩ := List.mem_map.1 hq
    by_cases hpk : p.id = k
    · rw [if_pos hpk] at hqid
      exact absurd ((hf p hpk).symm.trans hqid) hk
    · rw [if_neg hpk] at hqid ⊢
      exact h.plans p hp hqid
  · obtain ⟨p, hp, hpid⟩ := h.queued
    exact ⟨p, List.mem_map.2 ⟨p, hp, if_neg (hpid ▸ hk.symm)⟩, hpid⟩

theorem putPlan (h : RampsDown id n sent s) {p : Plan} (hp : p.id ≠ id) : RampsDown id n sent (s.putPlan p) :=
  h.updPlan hp fun _ _ => rfl

theorem logRecord (h : RampsDown id n sent s) (r : AirRecord) : RampsDown id n sent (s.logRecord r) := by
  unfold State.logRecord
  split
  · exact h.of_same rfl rfl rfl rfl rfl
  · exact h.of_same rfl rfl rfl rfl rfl

/-- Another plan leaves the queue. -/
theorem planLeaves (h : RampsDown id n sent s) {p : Plan} (hp : p.id ≠ id) : RampsDown id n sent (s.planLeaves p) := by
  have hleft : RampsDown id n sent (s.withCp { s.cp with plans := s.cp.plans.filter fun x => x.id != p.id }) := by
    refine h.withCp (fun q hq => h.plans q (List.mem_of_mem_filter hq)) ?_
    obtain ⟨q, hq, hqid⟩ := h.queued
    exact ⟨q, List.mem_filter.2 ⟨hq, by simpa [hqid] using hp.symm⟩, hqid⟩
  have hall : ∀ r ∈ [Report.planLeft, .contCheck, .leaveTripped, .stopTest], r.follows n := by
    simp [Report.follows]
  unfold State.planLeaves
  simp only
  split
  · refine RampsDown.report ?_ hall
    exact hleft.of_same rfl rfl rfl rfl rfl
  · exact hleft.report hall

theorem dropPin (h : RampsDown id n sent s) {p : Plan} (hp : p.id ≠ id) : RampsDown id n sent (s.dropPin p) := by
  unfold State.dropPin
  split
  · refine RampsDown.updPlan ?_ hp fun _ hid => hid
    exact h.of_same rfl rfl rfl rfl rfl
  · exact h

/-! ## Bookings -/

theorem offer (h : RampsDown id n sent s) (f : Frame) : RampsDown id n sent (s.offer f).1 := by
  rw [s.offer_other f]
  exact h.of_same rfl rfl rfl rfl rfl

theorem offerRelease (h : RampsDown id n sent s) (num : Nat) : RampsDown id n sent (s.offerRelease num) := by
  unfold State.offerRelease
  split
  · exact h
  · simp only
    split
    · exact h.offer _
    · exact h.of_same rfl rfl rfl rfl rfl

/-- A booking of another number leaves the list. -/
theorem filterOwn (h : RampsDown id n sent s) {m : Nat} (hm : m ≠ n) :
    RampsDown id n sent (s.withCm { s.cm with own := s.cm.own.filter fun x => x.desc.num != m }) := by
  obtain ⟨b, hfind, hb⟩ := h.booked
  refine { h with booked := ⟨b, ?_, hb⟩ }
  rw [← hfind]
  show List.find? _ (List.filter _ _) = List.find? _ _
  rw [List.find?_filter]
  congr 1
  funext x
  by_cases hx : x.desc.num = n <;> simp [hx, hm.symm]

theorem removeOwn (h : RampsDown id n sent s) {b : OwnBooking} (hb : b.desc.num ≠ n) (release : Bool) :
    RampsDown id n sent (s.removeOwn b release) := by
  have hleft := h.filterOwn hb
  unfold State.removeOwn
  simp only
  refine RampsDown.report ?_ (by simp [Report.follows])
  split
  · exact hleft
  · split
    · exact hleft.of_same rfl rfl rfl rfl rfl
    · split
      · exact hleft.offerRelease _
      · exact hleft

theorem endOwn (h : RampsDown id n sent s) {b : OwnBooking} (hb : b.desc.num ≠ n) :
    RampsDown id n sent (s.endOwn b .released) :=
  (h.removeOwn hb true).report (by simp [Report.follows, hb])

theorem releaseTest_eq (h : RampsDown id n sent s) : s.releaseTest = s := s.releaseTest_down h.down

/-- A committed booking of whatever number goes to ENDING. -/
theorem updOwn_ending (h : RampsDown id n sent s) (m : Nat) :
    RampsDown id n sent (s.updOwn m OwnBooking.ended) := by
  obtain ⟨b, hfind, hstate, hreq⟩ := h.booked
  refine { h with booked := ?_ }
  refine ⟨_, (s.ownBooking_updOwn m n (f := OwnBooking.ended) fun _ => rfl).trans (congrArg (Option.map _) hfind), ?_⟩
  beta_reduce
  split
  · exact ⟨rfl, hreq⟩
  · exact ⟨hstate, hreq⟩

theorem releaseBooking (h : RampsDown id n sent s) (m : Nat) : RampsDown id n sent (s.releaseBooking m) := by
  unfold State.releaseBooking
  split
  · exact h
  next b hb =>
    split
    next hfree =>
      refine h.endOwn fun hbn => ?_
      obtain ⟨c, hfind, hstate, hreq⟩ := h.booked
      have hmn : m = n := (State.ownBooking_num hb).symm.trans hbn
      cases (hmn ▸ hb).symm.trans hfind
      simp [hstate, hreq] at hfree
    next =>
      have hdown := (h.updOwn_ending m).report (l := [.permitTest, .restartTest]) (by simp [Report.follows])
      exact hdown.releaseTest_eq.symm ▸ hdown

/-- A claim, made or refused, adds at most a booking at the end of the list. -/
theorem requestBooking (h : RampsDown id n sent s) (req : Requester) (d : Desc) :
    RampsDown id n sent (s.requestBooking req d).1 := by
  unfold State.requestBooking
  split
  · exact h
  · simp only
    split
    · have hoffer := h.offer (.claim { d with
        holder := s.cfg.stationId, num := nextNumber s.cm.numCtr s.bookingNumbersUsed, stamp := s.hlc.nextStamp })
      obtain ⟨b, hfind, hb⟩ := hoffer.booked
      refine { hoffer with booked := ⟨b, ?_, hb⟩ }
      exact (List.find?_append ..).trans (congrArg (Option.or · _) hfind)
    · exact h

theorem dropBooking (h : RampsDown id n sent s) {p : Plan} (hp : p.id ≠ id) :
    RampsDown id n sent (s.dropBooking p) := by
  unfold State.dropBooking
  split
  · refine RampsDown.releaseBooking (h.updPlan hp ?_) _
    exact fun _ hid => hid
  · exact h

/-! ## Route choice and recomputation -/

theorem dropPlan (h : RampsDown id n sent s) {p : Plan} (hp : p.id ≠ id) (out : Option (AirOutcome × Option AirCause)) :
    RampsDown id n sent (s.dropPlan p out) := by
  have hgone := (h.dropBooking hp).dropPin hp
  unfold State.dropPlan
  simp only
  refine RampsDown.planLeaves ?_ hp
  split
  · exact hgone.logRecord _
  · exact hgone

theorem claimFor (h : RampsDown id n sent s) {p : Plan} (hp : p.id ≠ id) (d : Desc) :
    RampsDown id n sent (s.claimFor p d) := by
  have hclaim := h.requestBooking (.plan p.id) d
  unfold State.claimFor
  simp only
  split
  · exact hclaim.updPlan hp fun _ hid => hid
  · exact hclaim.report (by simp [Report.follows])
  · exact hclaim.report (by simp [Report.follows])
  · exact hclaim.putPlan hp

theorem chooseRoute (h : RampsDown id n sent s) {p : Plan} (hp : p.id ≠ id) :
    RampsDown id n sent (s.chooseRoute p) := by
  unfold State.chooseRoute
  simp only
  split
  · exact h.putPlan hp
  · split
    next x hx =>
      have hid : x.2.1.id = p.id := by
        obtain ⟨r, -, rfl⟩ := List.mem_map.1 (List.mem_of_mem_filter (List.mem_of_find?_eq_some hx))
        rfl
      have hx : x.2.1.id ≠ id := hid ▸ hp
      exact ((h.putPlan hx).report (by simp [Report.follows])).claimFor hx _
    next =>
      split
      · exact h.putPlan hp
      · exact h.dropPlan hp _

theorem chooseFor (h : RampsDown id n sent s) (k : Nat) : RampsDown id n sent (s.chooseFor k) := by
  unfold State.chooseFor
  split
  next p hp =>
    split
    next hfree => exact h.chooseRoute (h.id_ne (State.mem_of_plan hp) (by obtain ⟨h | h, -⟩ := hfree <;> simp [h]))
    next => exact h
  · exact h

theorem retryBlocked (h : RampsDown id n sent s) : RampsDown id n sent s.retryBlocked :=
  h.foldl _ _ fun _ hu k _ => hu.chooseFor k

theorem recompute (h : RampsDown id n sent s) (k : Nat) : RampsDown id n sent (s.recompute k) := by
  unfold State.recompute
  split
  next p hp =>
    split
    · exact h
    next hwaits =>
      have hne : p.id ≠ id := h.id_ne (State.mem_of_plan hp) fun hend => hwaits (.inl (by rw [hend]; rfl))
      split
      · exact h.chooseFor k
      · split
        · simp only
          split
          · exact h.dropPlan hne _
          · exact h.putPlan hne
        · exact h
  · exact h

theorem recomputeAll (h : RampsDown id n sent s) : RampsDown id n sent s.recomputeAll :=
  h.foldl _ _ fun _ hu k _ => hu.recompute k

theorem voidPin (h : RampsDown id n sent s) (set way : Nat) : RampsDown id n sent (s.voidPin set way) := by
  unfold State.voidPin
  refine RampsDown.foldl ?_ _ _ fun _ hu k _ => hu.recompute k
  exact h.foldl _ _ fun _ hu k _ => hu.updPlan_keeps k (fun _ => rfl) fun _ h => h

/-! ## Continuations and new plans -/

theorem dualMatch (h : RampsDown id n sent s) (f a : Nat) : RampsDown id n sent (s.dualMatch f a) := by
  have hvoid : RampsDown id n sent (s.report (((List.range 2).filter fun w => decide (0 < (s.presetSet
      (presetIndex f a)).pins w)).map fun w => Report.voidPin (presetIndex f a) w)) := by
    refine h.report fun r hr => ?_
    obtain ⟨w, -, rfl⟩ := List.mem_map.1 hr
    trivial
  unfold State.dualMatch
  simp only
  split
  · exact hvoid.of_same rfl rfl rfl rfl rfl
  · exact hvoid.of_same rfl rfl rfl rfl rfl

theorem lookup (h : RampsDown id n sent s) (f a : Nat) : RampsDown id n sent (s.lookup f a).1 := by
  unfold State.lookup
  simp only
  split
  · exact h
  · split
    · exact h.of_same rfl rfl rfl rfl rfl
    · split
      · exact h.dualMatch f a
      · split
        · exact h.of_same rfl rfl rfl rfl rfl
        · exact h

theorem planFresh (h : RampsDown id n sent s) {p : Plan} (hp : p.id ≠ id) : RampsDown id n sent (s.planFresh p) :=
  RampsDown.chooseRoute (RampsDown.putPlan (h.lookup _ _) (p := (s.lookupFor p).2) hp) hp

theorem stopContinuation (h : RampsDown id n sent s) {p : Plan} (hp : p.id ≠ id) :
    RampsDown id n sent (s.stopContinuation p) :=
  RampsDown.planFresh (h.dropBooking hp) hp

theorem planContinuation (h : RampsDown id n sent s) {p : Plan} (hp : p.id ≠ id) (q : Plan) :
    RampsDown id n sent (s.planContinuation p q) := by
  unfold State.planContinuation
  simp only
  split
  · refine RampsDown.updPlan (RampsDown.requestBooking (h.putPlan ?_) _ _) hp fun _ hid => hid
    exact hp
  · refine RampsDown.stopContinuation (RampsDown.requestBooking (h.putPlan ?_) _ _) ?_
    · exact hp
    · exact hp

theorem contCheck (h : RampsDown id n sent s) : RampsDown id n sent s.contCheck := by
  refine h.foldl _ _ fun u hu k hk => ?_
  obtain ⟨q, hq, rfl⟩ := List.mem_map.1 hk
  have hne : q.id ≠ id := by
    obtain ⟨hmem, hwaits⟩ := List.mem_filter.1 hq
    refine h.id_ne hmem fun hend => ?_
    simp [hend, PlanState.waiting] at hwaits
  split
  next p hp =>
    split
    · exact hu
    · exact hu.stopContinuation (State.id_of_plan hp ▸ hne)
  · exact hu

theorem freePlanId_ne (h : RampsDown id n sent s) (hroom : s.cp.plans.length < Config.planQueueSize) :
    s.freePlanId ≠ id := by
  rintro rfl
  obtain ⟨p, hp, hpid⟩ := h.queued
  have := List.find?_eq_none.1 (s.plan_freePlanId hroom) p hp
  simp [hpid] at this

/-- Another plan enters the queue. -/
theorem insertPlan (h : RampsDown id n sent s) {p : Plan} (hp : p.id ≠ id) :
    RampsDown id n sent (s.withCp { s.cp with plans := insertBy planBefore p s.cp.plans }) := by
  refine h.withCp (fun q hq hqid => ?_) ?_
  · rcases (mem_insertBy ..).1 hq with rfl | hq
    · exact absurd hqid hp
    · exact h.plans q hq hqid
  · obtain ⟨q, hq, hqid⟩ := h.queued
    exact ⟨q, (mem_insertBy ..).2 (.inr hq), hqid⟩

theorem takeOffer (h : RampsDown id n sent s) (o : Offer) : RampsDown id n sent (s.takeOffer o).1 := by
  unfold State.takeOffer
  split
  · exact h.logRecord _
  · split
    · exact h
    next hroom =>
      have hp : (s.newPlan s.freePlanId o).id ≠ id := h.freePlanId_ne (by omega)
      have hnew := h.insertPlan hp
      simp only
      split
      · exact (hnew.logRecord _).planLeaves hp
      · split
        · exact hnew.planContinuation hp _
        · exact hnew.planFresh hp

theorem offerOcc (h : RampsDown id n sent s) (o : OccRef) : RampsDown id n sent (s.offerOcc o) := by
  unfold State.offerOcc
  split
  · split
    · split
      · simp only
        split
        · exact (h.logRecord _).of_same rfl rfl rfl rfl rfl
        · split
          · exact (h.takeOffer _).of_same rfl rfl rfl rfl rfl
          · exact h
      · exact h
    · exact h
  · split
    · split
      · simp only
        split
        · exact (h.takeOffer _).of_same rfl rfl rfl rfl rfl
        · exact h
      · exact h
    · exact h

theorem openTest (h : RampsDown id n sent s) : RampsDown id n sent s.openTest := by
  unfold State.openTest
  split
  · exact h.foldl _ _ fun _ hu o _ => hu.offerOcc o
  · exact h

/-! ## Reports -/

theorem planReleased (h : RampsDown id n sent s) {p : Plan} (hp : p.id ≠ id) :
    RampsDown id n sent (s.planReleased p) := by
  refine RampsDown.planLeaves (RampsDown.logRecord (RampsDown.dropPin ?_ hp) _) hp
  exact h.of_same rfl rfl rfl rfl rfl

/-- Another plan hears that its booking has been released. -/
theorem planTold_released (h : RampsDown id n sent s) (k : Nat) {num : Nat} (hnum : num ≠ n) :
    RampsDown id n sent (s.planTold k num .released) := by
  unfold State.planTold
  split
  next p hp =>
    split
    · exact h
    next hbooking =>
      simp only
      split
      · have hne : p.id ≠ id := fun hid => by
          obtain ⟨-, -, -, hown⟩ := h.plans p (State.mem_of_plan hp) hid
          exact hbooking (fun hb => hnum (Option.some.inj (hb.symm.trans hown)))
        exact h.planReleased hne
      · exact h
  · exact h

theorem deliver {r : Report} (h : RampsDown id n sent s) (hr : r.follows n) : RampsDown id n sent (deliver r s) := by
  cases r with
  | told req num what =>
    obtain ⟨hnum, rfl⟩ := hr
    cases req with
    | plan k => exact h.planTold_released k hnum
    | exercise =>
      rw [show Machine.deliver (.told .exercise num .released) s = s from s.exerciseTold_released num]
      exact h
  | permitTest => simpa only [Machine.deliver, State.permitTest, h.down] using h
  | retryBlocked => exact h.retryBlocked
  | routeChoice k => exact h.chooseFor k
  | planLeft => exact h.recomputeAll.report (by simp [Report.follows])
  | contCheck => exact h.contCheck
  | voidPin set way => exact h.voidPin set way
  | restartTest => simpa [Machine.deliver, State.restartTest, h.down] using h
  | leaveTripped => simpa [Machine.deliver, State.leaveTripped, h.down] using h
  | stopTest => simpa [Machine.deliver, State.stopTest, State.phase, h.running] using h
  | openTest => exact h.openTest
  | viewChanged | homeGone | moveRefused | peerRefused | elementSet | elementFault | pickMade | pickRefused | tuned
  | tuneFailed | tripped | lockedOut | noRestart => exact hr.elim

theorem drain (k : Nat) : ∀ {s : State}, RampsDown id n sent s → RampsDown id n sent (drain k s) := by
  induction k with
  | zero => exact fun h => h
  | succ k ih =>
    intro s h
    unfold Machine.drain
    split
    · exact h
    next r rest hreports =>
      have hall := h.reports
      rw [hreports] at hall
      refine ih (RampsDown.deliver (s := s.withReports rest) ?_ (hall r (List.mem_cons_self ..)))
      exact { h with reports := fun x hx => hall x (List.mem_cons_of_mem r hx) }

end RampsDown

end Sys2Proof.Machine
end

section
namespace Sys2Proof.Machine
open Sys2Proof

/-! ## The end of the ramp wait (R151, R153) -/

theorem State.offerCancel_other (s : State) (num : Nat) :
    s.offerCancel num = (s.withHlc (s.offerCancel num).hlc).withRl (s.offerCancel num).rl := by
  unfold State.offerCancel
  simp only
  split
  · rw [s.offer_other]
    rfl
  · rfl

/-- Plans stop showing an intent, and keep all else (R147). -/
theorem State.hideIntent_other (s : State) (num : Nat) :
    ∃ g : Plan → Plan, (∀ p, g p = { p with intent := (g p).intent })
      ∧ s.hideIntent num = s.withCp { s.cp with plans := s.cp.plans.map g } := by
  refine ⟨_, ?_, rfl⟩
  intro p
  split
  · split <;> rfl
  · rfl

/-- A pick cancelled changes the ramp log, the link, and the intents that plans show (R93, R147). -/
theorem State.cancelPick_other (s : State) :
    ∃ (g : Plan → Plan) (l : Link) (r : RampLog), (∀ p, g p = { p with intent := (g p).intent })
      ∧ s.cancelPick = ((s.withCp { s.cp with plans := s.cp.plans.map g }).withHlc l).withRl r := by
  unfold State.cancelPick State.withdrawIntent
  simp only
  split
  · exact ⟨fun p => p, s.hlc, _, fun _ => rfl, by rw [List.map_id']; rfl⟩
  next x _ =>
    obtain ⟨g, hg, hhide⟩ := (s.filterIntents fun y => !y.isPending).hideIntent_other x.num
    rw [hhide]
    split
    · exact ⟨g, s.hlc, _, hg, rfl⟩
    · rw [State.offerCancel_other]
      exact ⟨g, _, _, hg, rfl⟩

/-- The release of a confirmed booking, asked for while the sequencer is DOWN, waits (R68). -/
theorem State.releaseBooking_waits (s : State) {num k : Nat} {b : OwnBooking} (hb : s.ownBooking num = some b)
    (hstate : b.state = .confirmed) (hreq : b.req = .plan k) (hdown : s.ts.state = .down) :
    s.releaseBooking num = (s.updOwn num OwnBooking.ended).report
      [.permitTest, .restartTest] := by
  have hfree : ¬ (b.state = .tentative ∨ b.state = .booked ∨ b.req = .exercise) := by simp [hstate, hreq]
  simp only [State.releaseBooking, hb, if_neg hfree]
  exact State.releaseTest_down _ hdown

/-- The plan as its late limit ends it. -/
def Plan.missing (p : Plan) (now : Nat) : Plan :=
  { p.closeLost now with state := .ending, pendOut := some .missed, cause := some .lateLimit }

theorem Plan.closeLost_other (p : Plan) (now : Nat) :
    p.closeLost now = { p with lostOpen := (p.closeLost now).lostOpen, lostAir := (p.closeLost now).lostAir } := by
  unfold Plan.closeLost
  split <;> rfl

/-- The sequencer goes DOWN for a plan whose booking stands, and keeps every booking as it is (R163). -/
theorem State.rampDown_tuned (s : State) (h : s.ts.state = .tuned) :
    ∃ t, t.state = .down ∧ t.sent = s.ts.sent ++ [.down] ∧ s.rampDown = s.withTs t := by
  have hrun : s.rampDown = ((s.send .down).withTs
      { (s.send .down).ts.stopTimers with rfoffT := some s.offLimit, rfOffTaken := false }).setSeq .down := by
    simp only [State.rampDown, h]
    rfl
  rw [hrun]
  refine ⟨_, ?_, ?_, State.releaseTest_down _ rfl⟩
  · rfl
  · rfl

/-- The plan goes to ENDING, the sequencer to DOWN, and the pick is cancelled; the booking is to follow. -/
def State.missingDown (s : State) (p : Plan) : State :=
  let u := s.putPlan (p.missing s.now)
  (u.withCp { u.cp with owedMoves := [] }).rampDown.cancelPick.report [.contCheck, .leaveTripped]

/-- What `State.missingDown` changes: the sequencer, the link, the ramp log, the reports and, in the queue, plan `p`. -/
theorem State.missingDown_other (s : State) (p : Plan) (htuned : s.ts.state = .tuned) :
    ∃ (t : Sequencer) (g : Plan → Plan) (l : Link) (r : RampLog), t.state = .down ∧ t.sent = s.ts.sent ++ [.down]
      ∧ (∀ q, g q = { q with intent := (g q).intent })
      ∧ s.missingDown p = ((((s.withTs t).withCp { s.cp with
          plans := (s.cp.plans.map fun q => if q.id = p.id then p.missing s.now else q).map g
          owedMoves := [] }).withHlc l).withRl r).report [.contCheck, .leaveTripped] := by
  obtain ⟨t, hdown, hsent, hramp⟩ := State.rampDown_tuned
    ((s.putPlan (p.missing s.now)).withCp { (s.putPlan (p.missing s.now)).cp with owedMoves := [] }) htuned
  obtain ⟨g, l, r, hg, hcancel⟩ := State.cancelPick_other
    (((s.putPlan (p.missing s.now)).withCp { (s.putPlan (p.missing s.now)).cp with owedMoves := [] }).withTs t)
  refine ⟨t, g, l, r, hdown, hsent, hg, ?_⟩
  rw [State.missingDown, hramp, hcancel]
  rw [State.putPlan, Plan.missing, p.closeLost_other]
  rfl

theorem State.enterEnding_missed (s : State) {p : Plan} {b : OwnBooking} {n : Nat} (hstate : p.state ≠ .ending)
    (hbooking : p.booking = some n) (hb : (s.missingDown p).ownBooking n = some b) :
    s.enterEnding p (some (.missed, .lateLimit)) = (s.missingDown p).releaseBooking n := by
  have hown : (p.missing s.now).booking.bind (s.missingDown p).ownBooking = some b := by
    rw [show (p.missing s.now).booking = some n by rw [Plan.missing, p.closeLost_other]; exact hbooking]
    exact hb
  rw [State.enterEnding, if_neg hstate]
  simp only
  split
  next c hc =>
    cases hc.symm.trans hown
    rw [State.ownBooking_num hb]
    rfl
  next hc => exact nomatch hc.symm.trans hown

/-- The late limit of a ramp wait: the plan is ENDING, MISSED, its booking ENDING, the sequencer DOWN (R151, R153). -/
theorem State.enterEnding_rampsDown (s : State) {p : Plan} {b : OwnBooking} {n : Nat} (hphase : s.sp.phase = .running)
    (hreports : s.reports = []) (hp : s.plan p.id = some p) (hstate : p.state = .rampWait)
    (hbooking : p.booking = some n) (hb : s.ownBooking n = some b) (hbstate : b.state = .confirmed)
    (hreq : b.req = .plan p.id) (htuned : s.ts.state = .tuned) :
    RampsDown p.id n (s.ts.sent ++ [.down]) (s.enterEnding p (some (.missed, .lateLimit))) := by
  obtain ⟨t, g, l, r, hdown, hsent, hg, hmissing⟩ := s.missingDown_other p htuned
  have hfound : (s.missingDown p).ownBooking n = some b := by rw [hmissing]; exact hb
  have hseq : (s.missingDown p).ts.state = .down := by rw [hmissing]; exact hdown
  rw [s.enterEnding_missed (by simp [hstate]) hbooking hfound, State.releaseBooking_waits _ hfound hbstate hreq hseq,
    hmissing]
  have hmiss : (p.missing s.now).missedLimit n :=
    ⟨rfl, rfl, rfl, by rw [Plan.missing, p.closeLost_other]; exact hbooking⟩
  have hid : (p.missing s.now).id = p.id := by rw [Plan.missing, p.closeLost_other]
  have hkeep : ∀ q, (g q).id = q.id := fun q => by rw [hg q]
  exact {
    running := hphase
    down := hdown
    sent_eq := hsent
    plans := fun q hq hqid => by
      obtain ⟨x, hx, rfl⟩ := List.mem_map.1 hq
      obtain ⟨y, hy, rfl⟩ := List.mem_map.1 hx
      rw [hkeep] at hqid
      rw [hg]
      split at hqid
      · rw [if_pos (by assumption)]; exact hmiss
      · contradiction
    queued := by
      have hmem := State.mem_of_plan hp
      exact ⟨_, List.mem_map.2 ⟨_, List.mem_map.2 ⟨p, hmem, if_pos rfl⟩, rfl⟩, (hkeep _).trans hid⟩
    booked := by
      refine ⟨_, (State.ownBooking_updOwn _ n n (f := OwnBooking.ended) fun _ => rfl).trans
        (congrArg (Option.map _) hb), ?_⟩
      beta_reduce
      rw [if_pos (State.ownBooking_num hb)]
      exact ⟨rfl, hreq⟩
    reports := fun r hr => by
      have hall : r ∈ s.reports ++ [.contCheck, .leaveTripped] ++ [.permitTest, .restartTest] := hr
      rw [hreports] at hall
      rcases List.mem_append.1 hall with h | h
      all_goals
        simp only [List.nil_append, List.mem_cons, List.not_mem_nil, or_false] at h
        rcases h with rfl | rfl <;> trivial }

end Sys2Proof.Machine
end

section
namespace Sys2Proof.Machine
open Sys2Proof

/-! ## The last plan dropped (R141, R143, R154) -/

/-- With no plan in the queue and no occurrence open, in RUNNING, what the planner hears has no effect. -/
structure State.Planless (s : State) : Prop where
  plans : s.cp.plans = []
  idle : s.ts.state = .idle
  running : s.sp.phase = .running
  closed : s.openOccs = []

/-- How many reports a report of a plan's leaving comes to: it calls for the test of open occurrences, once. -/
def Report.weight : Report → Nat
  | .planLeft => 2
  | _ => 1

/-- Reports of a plan's leaving and of its booking's. -/
def Report.ofLeaving : Report → Bool
  | .told (.plan _) _ _ | .permitTest | .restartTest | .planLeft | .contCheck | .leaveTripped | .stopTest
  | .openTest => true
  | _ => false

theorem deliver_planless {s : State} (h : s.Planless) {r : Report} (hr : r.ofLeaving = true) :
    deliver r s = if r = .planLeft then s.report [.openTest] else s := by
  obtain ⟨hplans, hidle, hrunning, hclosed⟩ := h
  cases r with
  | told req num what =>
    cases req with
    | plan k => simp [deliver, State.told, State.planTold, State.plan, hplans]
    | exercise => simp [Report.ofLeaving] at hr
  | permitTest => simp [deliver, State.permitTest, hidle]
  | restartTest => simp [deliver, State.restartTest, hidle]
  | planLeft => simp [deliver, State.recomputeAll, hplans]
  | contCheck => simp [deliver, State.contCheck, hplans]
  | leaveTripped => simp [deliver, State.leaveTripped, hidle]
  | stopTest => simp [deliver, State.stopTest, State.phase, hrunning]
  | openTest => simp [deliver, State.openTest, hclosed]
  | _ => simp [Report.ofLeaving] at hr

theorem Report.weight_bounds (r : Report) : 1 ≤ r.weight ∧ r.weight ≤ 2 := by
  cases r <;> simp [Report.weight]

theorem sum_weight_le (l : List Report) : (l.map Report.weight).sum ≤ 2 * l.length := by
  induction l with
  | nil => simp
  | cons r rest ih =>
    have := r.weight_bounds
    simp only [List.map_cons, List.sum_cons, List.length_cons]
    omega

/-- The reports of the last plan's leaving come to nothing. -/
theorem drain_planless (n : Nat) : ∀ s : State, s.Planless → s.reports.all Report.ofLeaving = true →
    (s.reports.map Report.weight).sum ≤ n → drain n s = s.withReports [] := by
  induction n with
  | zero =>
    intro s h hall hweight
    cases hreports : s.reports with
    | nil => rw [drain_rest _ _ hreports, ← hreports]; rfl
    | cons r rest =>
      have := r.weight_bounds
      simp [hreports] at hweight
      omega
  | succ n ih =>
    intro s h hall hweight
    cases hreports : s.reports with
    | nil => rw [drain_rest _ _ hreports, ← hreports]; rfl
    | cons r rest =>
      rw [hreports, List.all_cons, Bool.and_eq_true] at hall
      rw [hreports, List.map_cons, List.sum_cons] at hweight
      have hrest : (s.withReports rest).Planless := ⟨h.plans, h.idle, h.running, h.closed⟩
      rw [drain_cons n s r rest hreports, deliver_planless hrest hall.1]
      split
      next hleft =>
        subst hleft
        refine ih ((s.withReports rest).report [.openTest]) ⟨h.plans, h.idle, h.running, h.closed⟩ ?_ ?_
        · show (rest ++ [Report.openTest]).all Report.ofLeaving = true
          rw [List.all_append, hall.2]
          rfl
        · show ((rest ++ [Report.openTest]).map Report.weight).sum ≤ n
          simp [Report.weight] at hweight ⊢
          omega
      next =>
        have := r.weight_bounds
        exact ih (s.withReports rest) hrest hall.2 (show (rest.map Report.weight).sum ≤ n by omega)

/-! ## What a plan's dropping does, case by case -/

theorem State.logRecord_room (s : State) (r : AirRecord) (h : s.sp.airLog.length < 32) :
    s.logRecord r = s.withSp { s.sp with airLog := s.sp.airLog ++ [r] } := if_pos h

theorem State.planLeaves_table (s : State) {p : Plan} (h : ∃ inActive i, p.src = .table inActive i) :
    s.planLeaves p = (s.withCp { s.cp with plans := s.cp.plans.filter fun x => x.id != p.id }).report
      [.planLeft, .contCheck, .leaveTripped, .stopTest] := by
  obtain ⟨inActive, i, hsrc⟩ := h
  simp only [State.planLeaves, hsrc]

theorem State.dropPlan_unpinned (s : State) {p : Plan} (hpin : p.pin = none) (o : AirOutcome) (c : Option AirCause) :
    s.dropPlan p (some (o, c)) = ((s.dropBooking p).logRecord (p.record o c)).planLeaves p := by
  simp only [State.dropPlan, State.dropPin, hpin]

theorem State.dropBooking_none (s : State) {p : Plan} (h : p.booking = none) : s.dropBooking p = s := by
  simp only [State.dropBooking, h]

theorem State.dropBooking_some (s : State) {p : Plan} {n : Nat} (h : p.booking = some n) :
    s.dropBooking p = (s.updPlan p.id fun p => { p with booking := none }).releaseBooking n := by
  simp only [State.dropBooking, h]

/-- A booking that is BOOKED is released at once (R68). -/
theorem State.releaseBooking_booked (s : State) {b : OwnBooking} (hb : s.ownBooking b.desc.num = some b)
    (hstate : b.state = .booked) : s.releaseBooking b.desc.num = s.endOwn b .released := by
  simp only [State.releaseBooking, hb]
  exact if_pos (.inr (.inl hstate))

theorem State.offerRelease_running (s : State) (num : Nat) (hphase : s.sp.phase = .running)
    (hroom : s.hlc.queue.length + s.hlc.slots.length < 16) :
    s.offerRelease num = s.withHlc { s.hlc with queue := enqueue s.hlc.queue (.release num) } := by
  have hrunning : s.phase = .running := hphase
  rw [State.offerRelease, if_neg (by simp [hrunning]), s.offer_room _ (by simp [hrunning, offerPermitted]) hroom]
  rfl

/-- A booking that is BOOKED leaves the list with its RELEASE, while the queue has room (R68). -/
theorem State.removeOwn_booked (s : State) {b : OwnBooking} (hstate : b.state = .booked)
    (hphase : s.sp.phase = .running) (hroom : s.hlc.queue.length + s.hlc.slots.length < 16) :
    s.removeOwn b true = (((s.withCm { s.cm with own := s.cm.own.filter fun x => x.desc.num != b.desc.num }).withHlc
      { s.hlc with queue := enqueue s.hlc.queue (.release b.desc.num) }).report [.stopTest]) := by
  have hlinked : ¬ (s.withCm { s.cm with own := s.cm.own.filter fun x => x.desc.num != b.desc.num }).phase
      = .linkFault := fun h => nomatch h.symm.trans hphase
  have hsent : ¬ (b.state = .tentative ∧ b.sent = false) := by simp [hstate]
  simp only [State.removeOwn, if_neg hlinked, if_neg hsent, if_true]
  exact congrArg (fun u : State => u.report [.stopTest])
    (State.offerRelease_running (s.withCm { s.cm with own := s.cm.own.filter fun x => x.desc.num != b.desc.num })
      b.desc.num hphase hroom)

theorem State.plan_of_singleton {s : State} {p : Plan} (h : s.cp.plans = [p]) : s.plan p.id = some p := by
  simp [State.plan, h]

theorem State.ids_of_singleton {s : State} {p : Plan} (h : s.cp.plans = [p]) : ∀ q ∈ s.cp.plans, q.id = p.id := by
  simp [h]

theorem State.ownBooking_of_singleton {s : State} {b : OwnBooking} (h : s.cm.own = [b]) :
    s.ownBooking b.desc.num = some b := by
  simp [State.ownBooking, h]

/-- The one booking, still BOOKED, is released: it goes with its RELEASE, and the requester is told (R68). -/
theorem State.releaseBooking_alone (s : State) {b : OwnBooking} (hown : s.cm.own = [b]) (hstate : b.state = .booked)
    (hphase : s.sp.phase = .running) (hroom : s.hlc.queue.length + s.hlc.slots.length < 16) :
    s.releaseBooking b.desc.num = ((s.withCm { s.cm with own := [] }).withHlc
      { s.hlc with queue := enqueue s.hlc.queue (.release b.desc.num) }).withReports
        (s.reports ++ [.stopTest] ++ [.told b.req b.desc.num .released, .permitTest, .restartTest]) := by
  have hnone : s.cm.own.filter (fun x => x.desc.num != b.desc.num) = [] := by simp [hown]
  rw [s.releaseBooking_booked (State.ownBooking_of_singleton hown) hstate, State.endOwn,
    s.removeOwn_booked hstate hphase hroom, ← hnone]
  rfl

/-- A plan gives up the one booking, still BOOKED. -/
theorem State.dropBooking_alone (s : State) {p : Plan} {b : OwnBooking} (hbooking : p.booking = some b.desc.num)
    (hown : s.cm.own = [b]) (hstate : b.state = .booked) (hphase : s.sp.phase = .running)
    (hroom : s.hlc.queue.length + s.hlc.slots.length < 16) :
    s.dropBooking p = (((s.updPlan p.id fun p => { p with booking := none }).withCm { s.cm with own := [] }).withHlc
      { s.hlc with queue := enqueue s.hlc.queue (.release b.desc.num) }).withReports
        (s.reports ++ [.stopTest] ++ [.told b.req b.desc.num .released, .permitTest, .restartTest]) := by
  rw [s.dropBooking_some hbooking]
  exact State.releaseBooking_alone _ hown hstate hphase hroom

theorem State.updPlan_id (s : State) (p : Plan) {f : Plan → Plan} (hf : ∀ q, (f q).id = q.id)
    (h : ∀ q ∈ s.cp.plans, q.id = p.id) : ∀ q ∈ (s.updPlan p.id f).cp.plans, q.id = p.id := by
  intro q hq
  obtain ⟨x, hx, rfl⟩ := List.mem_map.1 hq
  split
  · exact (hf x).trans (h x hx)
  · exact h x hx

/-- The open occurrences are read off the schedule store, the timebase and the settings. -/
theorem State.openOccs_same {s u : State} (hss : u.ss = s.ss) (htb : u.tb = s.tb) (hcfg : u.cfg = s.cfg) :
    u.openOccs = s.openOccs := by
  cases s
  cases u
  cases hss
  cases htb
  cases hcfg
  rfl

/-- The last plan, from a table, leaves with a record: what is reported of it and of its booking comes to nothing. -/
theorem drain_lastPlanLeaves (s : State) {p : Plan} (r : AirRecord) (hplans : ∀ q ∈ s.cp.plans, q.id = p.id)
    (hsrc : ∃ inActive i, p.src = .table inActive i) (hidle : s.ts.state = .idle) (hphase : s.sp.phase = .running)
    (hclosed : s.openOccs = []) (hroom : s.sp.airLog.length < 32) (hreports : s.reports.all Report.ofLeaving = true)
    (hfew : s.reports.length ≤ 10) :
    drain reportFuel ((s.logRecord r).planLeaves p)
      = ((s.withReports []).withSp { s.sp with airLog := s.sp.airLog ++ [r] }).withCp { s.cp with plans := [] } := by
  have hnone : s.cp.plans.filter (fun x => x.id != p.id) = [] :=
    List.filter_eq_nil_iff.2 fun q hq => by simp [hplans q hq]
  have hleft : (s.logRecord r).planLeaves p
      = ((s.withSp { s.sp with airLog := s.sp.airLog ++ [r] }).withCp { s.cp with plans := [] }).report
        [.planLeft, .contCheck, .leaveTripped, .stopTest] := by
    rw [s.logRecord_room r hroom, State.planLeaves_table _ hsrc, ← hnone]
    rfl
  rw [hleft]
  refine (drain_planless _ _ ?_ ?_ ?_).trans rfl
  · exact ⟨rfl, hidle, hphase, (State.openOccs_same rfl rfl rfl).trans hclosed⟩
  · show (s.reports ++ _).all Report.ofLeaving = true
    rw [List.all_append, hreports]
    rfl
  · refine (sum_weight_le _).trans ?_
    show 2 * (s.reports ++ [Report.planLeft, .contCheck, .leaveTripped, .stopTest]).length ≤ 100000
    simp only [List.length_append, List.length_cons, List.length_nil]
    omega

/-! ## Noted limits and ends taken (R107) -/

/-- An unhandled occurrence of the active table is missed at its late limit. -/
theorem State.missOcc_table (s : State) {i d : Nat} {e : Entry} (he : lookupKey i s.ss.active.entries = some e)
    (hunhandled : s.tableUnhandled e d = true) (hlimit : absDue (s.occLate (e.airStart d)) s.absNow = true)
    (hroom : s.sp.airLog.length < 32) :
    s.missOcc (.table i d) = (s.withSp { s.sp with
        airLog := s.sp.airLog ++ [bareRecord (.table true i) (e.airStart d) .missed (some .lateLimit)] }).markEntry i
      (s.absStart (e.airStart d)) := by
  have hpast : s.pastLimit (.table i d) = true := by
    simp only [State.pastLimit, he, hunhandled, hlimit, Bool.and_self]
  simp only [State.missOcc, hpast, if_true, he]
  rw [s.logRecord_room _ hroom]

/-- The one noted limit is taken in RUNNING. -/
theorem State.lateLimits_singleton (s : State) {o : OccRef} (hphase : s.sp.phase = .running)
    (hdue : s.ss.lateDue = [o]) : s.lateLimits = (s.withSs { s.ss with lateDue := [] }).missOcc o := by
  rw [State.lateLimits, hdue]
  exact if_pos hphase

theorem State.mem_adhocEnds (s : State) (q : Nat × AdHoc) :
    q ∈ s.adhocEnds.ss.adhoc ↔ q ∈ s.ss.adhoc
      ∧ ¬ (q.1 ∈ s.ss.endDue ∧ s.slotPlanned q.1 = false ∧ absDue q.2.absEnd s.absNow = true) := by
  have hends : (s.ss.endDue.filter fun slot => !s.slotPlanned slot).contains q.1 = true
      ↔ q.1 ∈ s.ss.endDue ∧ s.slotPlanned q.1 = false := by simp [List.mem_filter]
  refine List.mem_filter.trans (and_congr_right fun _ => ?_)
  rw [Bool.not_eq_true', ← Bool.not_eq_true, Bool.and_eq_true, hends, and_assoc]

/-! ## A plan's late limit (R141, R143, R151) -/


theorem State.planLate_due (s : State) {p : Plan} (hp : s.plan p.id = some p) (hdue : due p.late s.now = true) :
    (p.state = .blocked → s.planLate p.id = s.dropPlan p (some (.missed, some .noRoute)))
      ∧ (p.state = .ready → s.planLate p.id = s.dropPlan p (some (.missed, some .lateLimit)))
      ∧ (p.state = .rampWait → p.firstFull = none → p.limitPast = false →
        s.planLate p.id = s.enterEnding p (some (.missed, .lateLimit))) := by
  refine ⟨fun hstate => ?_, fun hstate => ?_, fun hstate hfull hlimit => ?_⟩
  · simp only [State.planLate, hp, if_pos hdue, hstate]
  · simp only [State.planLate, hp, if_pos hdue, hstate]
  · simp [State.planLate, hp, hdue, hstate, hfull, hlimit]

end Sys2Proof.Machine
end

section
open Sys2Proof Sys2Proof.Machine

/-- Settles O33: a noted limit or end is taken in one step; the dropping of the last plan is heard by nobody; and
`RampsDown` is kept by every report that follows the end of a ramp wait. -/
theorem lateLimitsAndEnds : Obligations.LateLimitsAndEnds := by
  refine ⟨fun s i d e => ⟨?_, ?_⟩, fun s p hphase hdue => ⟨?_, ?_, ?_⟩⟩
  · intro hphase hdue he hunhandled hlimit hroom
    have hmissed := (State.lateLimits_singleton (s.withReports []) hphase hdue).trans
      (State.missOcc_table (State.withSs (s.withReports []) _) he hunhandled hlimit hroom)
    exact (run_rest State.lateLimits s (hmissed ▸ rfl)).trans (congrArg Host.Outcome.next hmissed)
  · refine ⟨_, run_rest State.adhocEnds s rfl, rfl, rfl, fun q => ?_⟩
    exact (s.withReports []).mem_adhocEnds q
  · intro hplans hstate hbooking hpin hsrc hclosed hidle hroom
    have hlate := ((s.withReports []).planLate_due (State.plan_of_singleton hplans) hdue).1 hstate
    rw [State.dropPlan_unpinned _ hpin, State.dropBooking_none _ hbooking] at hlate
    refine (congrArg (fun u => Host.Outcome.next (drain reportFuel u)) hlate).trans (congrArg Host.Outcome.next ?_)
    exact drain_lastPlanLeaves (s.withReports []) _ (State.ids_of_singleton hplans) hsrc hidle hphase hclosed hroom rfl
      (Nat.zero_le _)
  · intro n b hplans hstate hbooking hown hnum hbstate hreq hpin hsrc hclosed hidle hroom hqueue
    subst hnum
    have hlate := ((s.withReports []).planLate_due (State.plan_of_singleton hplans) hdue).2.1 hstate
    have hdropped := (s.withReports []).dropBooking_alone hbooking hown hbstate hphase hqueue
    rw [State.dropPlan_unpinned _ hpin, hdropped, hreq] at hlate
    refine (congrArg (fun u => Host.Outcome.next (drain reportFuel u)) hlate).trans (congrArg Host.Outcome.next ?_)
    refine (drain_lastPlanLeaves _ _ ?_ hsrc ?_ ?_ ?_ ?_ ?_ ?_).trans ?_
    · exact State.updPlan_id _ _ (fun _ => rfl) (State.ids_of_singleton hplans)
    · exact hidle
    · exact hphase
    · exact (State.openOccs_same rfl rfl rfl).trans hclosed
    · exact hroom
    · rfl
    · show 4 ≤ 10
      omega
    · rfl
  · intro n b hcurrent hplan hstate hfull hlimit hbooking hb hbstate hreq htuned
    have hlate := ((s.withReports []).planLate_due hplan hdue).2.2 hstate hfull hlimit
    have hdown := (s.withReports []).enterEnding_rampsDown hphase rfl hplan hstate hbooking hb hbstate hreq htuned
    have hend := hdown.drain reportFuel
    refine ⟨_, congrArg (fun u => Host.Outcome.next (drain reportFuel u)) hlate, hend.down, hend.sent_eq, ?_, ?_⟩
    · obtain ⟨q, hq, hmissed⟩ := hend.plan
      exact ⟨q, hq, hmissed.1, hmissed.2.1, hmissed.2.2.1⟩
    · obtain ⟨c, hc, hcstate, -⟩ := hend.booked
      rw [hc]
      exact congrArg some hcstate
end

section
/-! SUPPORT. The forms of the state that every step keeps: what is assumed of the state before a step, what then holds
of every state within it, and the two of them for each setter. -/

namespace Sys2Proof.Machine

-- Each pending proof holds a stack of its own: they are checked one after the other.
set_option Elab.async false

open Sys2Proof

/-! ## The forms of lists -/

theorem prioritiesRise_iff (q : List QFrame) :
    prioritiesRise q = true ↔ q.Pairwise fun x y => framePriority x.frame ≤ framePriority y.frame := by
  induction q with
  | nil => simp [prioritiesRise]
  | cons x rest ih =>
    cases rest with
    | nil => simp [prioritiesRise]
    | cons y rest =>
      rw [prioritiesRise, Bool.and_eq_true, decide_eq_true_eq, ih, List.pairwise_cons (a := x)]
      constructor
      · rintro ⟨hxy, hrest⟩
        refine ⟨fun z hz => ?_, hrest⟩
        rcases List.mem_cons.1 hz with rfl | hz
        · exact hxy
        · exact Nat.le_trans hxy ((List.pairwise_cons.1 hrest).1 z hz)
      · rintro ⟨hx, hrest⟩
        exact ⟨hx y List.mem_cons_self, hrest⟩

theorem slotsApart_iff (l : List Frame) :
    slotsApart l = true ↔ l.Pairwise fun f g => frameBlock g ≠ frameBlock f := by
  induction l with
  | nil => simp [slotsApart]
  | cons f rest ih => simp [slotsApart, ih]

theorem recBefore_iff (x y : PeerRec) : recBefore x y = true ↔
    x.desc.holder < y.desc.holder ∨ (x.desc.holder = y.desc.holder ∧ x.desc.num < y.desc.num) := by
  simp [recBefore]

theorem recsRise_iff (l : List PeerRec) : recsRise l = true ↔ l.Pairwise fun x y => recBefore x y = true := by
  induction l with
  | nil => simp [recsRise]
  | cons x rest ih =>
    cases rest with
    | nil => simp [recsRise]
    | cons y rest =>
      rw [recsRise, Bool.and_eq_true, ih, List.pairwise_cons (a := x)]
      constructor
      · rintro ⟨hxy, hrest⟩
        refine ⟨fun z hz => ?_, hrest⟩
        rcases List.mem_cons.1 hz with rfl | hz
        · exact hxy
        · have hyz := (List.pairwise_cons.1 hrest).1 z hz
          rw [recBefore_iff] at *
          omega
      · rintro ⟨hx, hrest⟩
        exact ⟨hx y List.mem_cons_self, hrest⟩

/-- Ordered insertion keeps a list in order where `before` decides between the new element and each other one. -/
theorem insertBy_pairwise {α : Type} {r : α → α → Prop} {before : α → α → Bool} (x : α) {l : List α}
    (hr : ∀ a b c, r a b → r b c → r a c) (hbefore : ∀ y ∈ l, before x y = true → r x y)
    (hafter : ∀ y ∈ l, before x y = false → r y x) (h : l.Pairwise r) : (insertBy before x l).Pairwise r := by
  induction l with
  | nil => simp [insertBy]
  | cons y rest ih =>
    obtain ⟨hy, hrest⟩ := List.pairwise_cons.1 h
    unfold insertBy
    split
    · next hb =>
      have hxy := hbefore y List.mem_cons_self hb
      refine List.pairwise_cons.2 ⟨fun z hz => ?_, h⟩
      rcases List.mem_cons.1 hz with rfl | hz
      · exact hxy
      · exact hr _ _ _ hxy (hy z hz)
    · next hb =>
      refine List.pairwise_cons.2 ⟨fun z hz => ?_, ih (fun z hz => hbefore z (List.mem_cons_of_mem _ hz))
        (fun z hz => hafter z (List.mem_cons_of_mem _ hz)) hrest⟩
      rcases (mem_insertBy _ _ _ _).1 hz with rfl | hz
      · exact hafter y List.mem_cons_self (by simpa using hb)
      · exact hy z hz

/-! ## The transmit queue and the pending slots (R23, R24) -/

theorem Link.queued_iff (l : Link) : l.queued = true ↔
    l.queue.length ≤ 16 ∧ (l.queue.Pairwise fun x y => framePriority x.frame ≤ framePriority y.frame)
      ∧ (l.slots.Pairwise fun f g => frameBlock g ≠ frameBlock f) ∧ ∀ f ∈ l.slots, isBeacon f = false := by
  show _ ↔ l.queue.length ≤ Config.queueSize ∧ _
  simp [Link.queued, prioritiesRise_iff, slotsApart_iff, and_assoc]

theorem enqueue_pairwise (f : Frame) {q : List QFrame}
    (h : q.Pairwise fun x y => framePriority x.frame ≤ framePriority y.frame) :
    (enqueue q f).Pairwise fun x y => framePriority x.frame ≤ framePriority y.frame :=
  insertBy_pairwise _ (fun _ _ _ => Nat.le_trans) (fun _ _ hb => Nat.le_of_lt (of_decide_eq_true hb))
    (fun _ _ hb => Nat.le_of_not_lt (of_decide_eq_false hb)) h

/-- The queue without its newest idle BEACON is the queue with one frame taken out (R24). -/
theorem dropNewestBeacon_sublist {q q' : List QFrame} (h : dropNewestBeacon q = some q') :
    q'.Sublist q ∧ q'.length + 1 = q.length := by
  have hgo : ∀ (l l' : List QFrame), dropNewestBeacon.go l = some l' → l'.Sublist l ∧ l'.length + 1 = l.length := by
    intro l
    induction l with
    | nil => intro l' hl; cases hl
    | cons x rest ih =>
      intro l' hl
      unfold dropNewestBeacon.go at hl
      split at hl
      · cases hl
        exact ⟨List.sublist_cons_self x rest, rfl⟩
      · obtain ⟨r, hr, rfl⟩ := Option.map_eq_some_iff.1 hl
        obtain ⟨hsub, hlen⟩ := ih r hr
        exact ⟨hsub.cons_cons x, by simp [hlen]⟩
  obtain ⟨r, hr, rfl⟩ := Option.map_eq_some_iff.1 h
  obtain ⟨hsub, hlen⟩ := hgo _ _ hr
  exact ⟨List.reverse_reverse q ▸ hsub.reverse, by simpa using hlen⟩

/-- A taken offer keeps the queue within its size and in order, and the blocks' slots apart (R23, R24). -/
theorem Link.queued_offer {l l' : Link} {f : Frame} (ho : l.offer f = some l') (h : l.queued = true) :
    l'.queued = true := by
  obtain ⟨hlen, hq, hs, hb⟩ := l.queued_iff.1 h
  rw [Link.queued_iff]
  by_cases hroom : l.queue.length + l.slots.length < 16
  · rw [Link.offer_room l f hroom] at ho
    cases ho
    exact ⟨by rw [length_enqueue]; omega, enqueue_pairwise f hq, hs, hb⟩
  · cases hf : isBeacon f with
    | true =>
      cases f <;> simp only [isBeacon, Bool.false_eq_true] at hf
      rw [Link.offer_full_beacon l _ hroom] at ho
      cases ho
      exact ⟨hlen, hq, hs, hb⟩
    | false =>
      rcases Link.offer_full l f hroom hf with ⟨-, hnone⟩ | ⟨-, q, hd, hsome⟩ | ⟨htaken, -, hsome⟩
      · rw [hnone] at ho
        cases ho
      · rw [hsome] at ho
        cases ho
        obtain ⟨hsub, hcount⟩ := dropNewestBeacon_sublist hd
        exact ⟨by rw [length_enqueue]; omega, enqueue_pairwise f (hq.sublist hsub), hs, hb⟩
      · rw [hsome] at ho
        cases ho
        simp only [Link.slotTaken, List.any_eq_false, beq_iff_eq] at htaken
        refine ⟨hlen, hq, List.pairwise_append.2 ⟨hs, List.pairwise_singleton _ _, ?_⟩, ?_⟩
        · intro g hg f' hf'
          rw [List.mem_singleton.1 hf']
          exact fun e => htaken g hg e.symm
        · intro g hg
          rcases List.mem_append.1 hg with hg | hg
          · exact hb g hg
          · rw [List.mem_singleton.1 hg]
            exact hf

/-- A queue whose frames are a sublist of what it held, and slots that are, keep the form. -/
theorem Link.queued_sublist {l l' : Link} (h : l.queued = true)
    (hq : (l'.queue.map QFrame.frame).Sublist (l.queue.map QFrame.frame)) (hs : l'.slots.Sublist l.slots) :
    l'.queued = true := by
  obtain ⟨hlen, hrise, hapart, hb⟩ := l.queued_iff.1 h
  have hrise' : (l.queue.map QFrame.frame).Pairwise fun f g => framePriority f ≤ framePriority g :=
    List.pairwise_map.2 hrise
  have hleft : (l'.queue.map QFrame.frame).Pairwise fun f g => framePriority f ≤ framePriority g := hrise'.sublist hq
  refine l'.queued_iff.2 ⟨?_, (List.pairwise_map (f := QFrame.frame)).1 hleft, hapart.sublist hs, fun f hf => hb f (hs.subset hf)⟩
  have := hq.length_le
  simp only [List.length_map] at this
  omega

theorem chargeFirst_frames (hit : QFrame → Bool) (q : List QFrame) :
    ((chargeFirst hit q).1.map QFrame.frame).Sublist (q.map QFrame.frame) := by
  induction q with
  | nil => simp [chargeFirst]
  | cons x rest ih =>
    unfold chargeFirst
    split
    · split
      · exact List.Sublist.refl _
      · exact List.sublist_cons_self _ _
    · exact ih.cons_cons _

theorem Link.charge_link (l : Link) (hit : QFrame → Bool) :
    (l.charge hit).1.queue = (chargeFirst hit l.queue).1 ∧ (l.charge hit).1.slots = l.slots := by
  unfold Link.charge
  simp only
  split <;> exact ⟨rfl, rfl⟩

/-- The pending frame a freed place goes to stands among the pending ones, and the others stay (R24). -/
theorem pickSlot_some {l rest : List Frame} {f : Frame} (h : pickSlot l = some (f, rest)) :
    f ∈ l ∧ rest.Sublist l := by
  induction l generalizing f rest with
  | nil => cases h
  | cons g l ih =>
    unfold pickSlot at h
    split at h
    · cases h
      exact ⟨List.mem_cons_self, List.nil_sublist _⟩
    · next k others hk =>
      obtain ⟨hmem, hsub⟩ := ih hk
      split at h
      · cases h
        exact ⟨List.mem_cons_of_mem _ hmem, hsub.cons_cons g⟩
      · cases h
        exact ⟨List.mem_cons_self, List.sublist_cons_self _ _⟩

/-! ## The peer map (R70) -/

theorem ClaimMap.mapForm_iff (c : ClaimMap) : c.mapForm = true ↔
    (c.map.Pairwise fun x y => recBefore x y = true) ∧ c.map.length ≤ 64 := by
  show _ ↔ _ ∧ c.map.length ≤ Config.mapSize
  simp [ClaimMap.mapForm, recsRise_iff]

theorem PeerRec.isKey_iff (r : PeerRec) (holder num : Nat) :
    r.isKey holder num = true ↔ r.desc.holder = holder ∧ r.desc.num = num := by
  simp [PeerRec.isKey]

/-- A record stored under its key leaves one record under each key. -/
theorem putRec_rises (r : PeerRec) {l : List PeerRec} (h : l.Pairwise fun x y => recBefore x y = true) :
    (insertBy recBefore r (l.filter fun x => !x.isKey r.desc.holder r.desc.num)).Pairwise
      fun x y => recBefore x y = true := by
  refine insertBy_pairwise r (fun a b c hab hbc => ?_) (fun y _ hb => hb) (fun y hy hb => ?_) (h.filter _)
  · rw [recBefore_iff] at *
    omega
  · have hkey := (List.mem_filter.1 hy).2
    have hb' : ¬ recBefore r y = true := by simp [hb]
    simp only [Bool.not_eq_true', Bool.eq_false_iff, ne_eq, PeerRec.isKey_iff] at hkey
    rw [recBefore_iff] at *
    omega

/-- A key that the map holds takes no further place. -/
theorem length_putRec {r : PeerRec} {l : List PeerRec} (h : l.any fun x => x.isKey r.desc.holder r.desc.num) :
    (insertBy recBefore r (l.filter fun x => !x.isKey r.desc.holder r.desc.num)).length ≤ l.length := by
  rw [length_insertBy]
  obtain ⟨x, hx, hkey⟩ := List.any_eq_true.1 h
  exact List.length_filter_lt_length_iff_exists.2 ⟨x, hx, by simp [hkey]⟩

/-! ## The ramp log (R84) -/

theorem RampLog.intentBound_iff (r : RampLog) : r.intentBound = true ↔
    r.intents.length ≤ 32 ∨ ∀ x ∈ r.intents, x.own.isSome = true := by
  show _ ↔ r.intents.length ≤ Config.rampLogSize ∨ _
  simp [RampLog.intentBound]

/-! ## Power -/

theorem le_leastOf (k n : Nat) (l : List Nat) : k ≤ leastOf n l ↔ k ≤ n ∧ ∀ x ∈ l, k ≤ x := by
  unfold leastOf
  induction l generalizing n with
  | nil => simp
  | cons a rest ih =>
    rw [List.foldl_cons, ih]
    simp only [List.mem_cons, forall_eq_or_imp, Nat.le_min]
    exact and_assoc

/-! ## The plan queue (R130, R131) -/

/-- The queue of plans is within its bounds. -/
structure Plan.Queue (l : List Plan) : Prop where
  size    : l.length ≤ 4
  ids     : (l.map Plan.id).Nodup
  current : (l.countP fun p => p.state.current) ≤ 1
  kind    : ∀ p ∈ l, p.state.current = true ∨ p.state.waiting = true

theorem State.planBound_iff (s : State) : s.planBound = true ↔ Plan.Queue s.cp.plans := by
  simp only [State.planBound, Bool.and_eq_true, decide_eq_true_eq, List.all_eq_true,
    Bool.or_eq_true]
  exact ⟨fun ⟨⟨⟨hsize, hids⟩, hcurrent⟩, hkind⟩ => ⟨hsize, hids, hcurrent, hkind⟩,
    fun h => ⟨⟨⟨h.size, h.ids⟩, h.current⟩, h.kind⟩⟩

/-- Plans of one id are one plan. -/
theorem Plan.Queue.eq_of_id {l : List Plan} (h : Plan.Queue l) {p q : Plan} (hp : p ∈ l) (hq : q ∈ l)
    (hid : q.id = p.id) : q = p := List.inj_on_of_nodup_map h.ids hq hp hid

/-- At most one plan is current. -/
theorem Plan.Queue.eq_of_current {l : List Plan} (h : Plan.Queue l) {p q : Plan} (hp : p ∈ l) (hq : q ∈ l)
    (hpc : p.state.current = true) (hqc : q.state.current = true) : q = p := by
  have hlen : (l.filter fun p => p.state.current).length ≤ 1 := List.countP_eq_length_filter ▸ h.current
  have hp' : p ∈ l.filter fun p => p.state.current := List.mem_filter.2 ⟨hp, hpc⟩
  have hq' : q ∈ l.filter fun p => p.state.current := List.mem_filter.2 ⟨hq, hqc⟩
  match hl : l.filter fun p => p.state.current with
  | [] => rw [hl] at hp'; cases hp'
  | [x] =>
    rw [hl, List.mem_singleton] at hp' hq'
    rw [hp', hq']
  | _ :: _ :: _ => rw [hl] at hlen; simp at hlen

theorem Plan.Queue.filter {l : List Plan} (h : Plan.Queue l) (keep : Plan → Bool) : Plan.Queue (l.filter keep) where
  size := Nat.le_trans (List.length_filter_le _ _) h.size
  ids := h.ids.sublist (List.filter_sublist.map _)
  current := Nat.le_trans (List.filter_sublist.countP_le) h.current
  kind := fun p hp => h.kind p (List.mem_filter.1 hp).1

/-- A change of plans that keeps their ids, makes none current and leaves each current or waiting. -/
theorem Plan.Queue.map {l : List Plan} (h : Plan.Queue l) {f : Plan → Plan} (hid : ∀ p, (f p).id = p.id)
    (hcurrent : ∀ p ∈ l, (f p).state.current = true → p.state.current = true)
    (hkind : ∀ p ∈ l, (f p).state.current = true ∨ (f p).state.waiting = true) : Plan.Queue (l.map f) where
  size := by simpa using h.size
  ids := by
    rw [List.map_map, show Plan.id ∘ f = Plan.id from funext hid]
    exact h.ids
  current := by
    rw [List.countP_map]
    exact Nat.le_trans (List.countP_mono_left hcurrent) h.current
  kind := fun q hq => by
    obtain ⟨p, hp, rfl⟩ := List.mem_map.1 hq
    exact hkind p hp

/-- One id takes a current plan where no plan of another id is current. -/
theorem Plan.Queue.promote {l : List Plan} (h : Plan.Queue l) {p : Plan} (hp : p.state.current = true)
    (honly : ∀ q ∈ l, q.state.current = true → q.id = p.id) :
    Plan.Queue (l.map fun q => if q.id = p.id then p else q) where
  size := by simpa using h.size
  ids := by
    rw [List.map_map]
    refine (List.map_congr_left fun q _ => ?_) ▸ h.ids
    simp only [Function.comp]
    split
    · next hid => exact hid
    · rfl
  current := by
    rw [List.countP_map]
    calc _ ≤ l.countP fun q => q.id == p.id := List.countP_mono_left fun q hq hc => by
          simp only [Function.comp] at hc
          split at hc
          · next hid => simpa using hid
          · simpa using honly q hq hc
      _ = (l.map Plan.id).count p.id := by rw [List.count, List.countP_map]; rfl
      _ ≤ 1 := List.nodup_iff_count_le_one.1 h.ids _
  kind := fun q hq => by
    obtain ⟨x, hx, rfl⟩ := List.mem_map.1 hq
    split
    · exact .inl hp
    · exact h.kind x hx

/-- A waiting plan under a free id enters a queue that has room. -/
theorem Plan.Queue.insertBy {l : List Plan} (h : Plan.Queue l) {p : Plan} {before : Plan → Plan → Bool}
    (hroom : l.length < 4) (hid : ∀ q ∈ l, q.id ≠ p.id) (hp : p.state = .routing) :
    Plan.Queue (insertBy before p l) where
  size := by
    rw [(insertBy_perm before p l).length_eq]
    exact hroom
  ids := by
    rw [((insertBy_perm before p l).map Plan.id).nodup_iff]
    exact List.nodup_cons.2 ⟨fun hmem => by
      obtain ⟨q, hq, hqid⟩ := List.mem_map.1 hmem
      exact hid q hq hqid, h.ids⟩
  current := by
    rw [(insertBy_perm before p l).countP_eq, List.countP_cons_of_neg (by simp [hp, PlanState.current])]
    exact h.current
  kind := fun q hq => ((mem_insertBy ..).1 hq).elim (fun e => .inr (by rw [e, hp]; rfl)) (h.kind q)

end Sys2Proof.Machine
end

section
/-! SUPPORT. What a step may assume and what it keeps: `Given` and `Kept`, with one lemma for each setter. -/

namespace Sys2Proof.Machine

-- Each pending proof holds a stack of its own: they are checked one after the other.
set_option Elab.async false

open Sys2Proof

/-- Which of the bounds held before a step, with the settings and the antenna records it began with. -/
structure Given where
  forms    : Prop
  stop     : Prop
  plans    : Prop
  own      : Prop
  intents  : Prop
  power    : Prop
  floor    : Prop
  cfg      : Settings
  antennas : List (Nat × AntennaRec)
  plansOfFloor : floor → plans
  powerOfFloor : floor → power

/-- A plan's entry power, PMAX and its antenna's rating are at or above PFLR (R132, R133). -/
def Given.airs (g : Given) (p : Plan) : Prop :=
  g.cfg.pFlr ≤ leastOf p.entryPower
    [g.cfg.pMax, ((lookupKey p.ant g.antennas).map AntennaRec.rating).getD 0]

/-- Such a plan that commands a power at or above PFLR (R140). -/
def Given.powered (g : Given) (p : Plan) : Prop :=
  g.airs p ∧ ∃ k, p.cmdPower = some k ∧ g.cfg.pFlr ≤ k

/-- What `State.powerable` says of a plan. -/
def Given.canAir (g : Given) (p : Plan) : Prop :=
  g.powered p ∨ (g.airs p ∧ p.cmdPower = none ∧ (p.state = .routing ∨ p.state = .blocked) ∧ p.booking = none)

variable {g : Given}

theorem Given.powered.canAir {p : Plan} (h : g.powered p) : g.canAir p := .inl h

theorem Given.canAir.airs {p : Plan} (h : g.canAir p) : g.airs p := h.elim And.left And.left

/-- A plan that can be aired and has a booking, or is past BLOCKED, commands a power. -/
theorem Given.canAir.powered {p : Plan} (h : g.canAir p)
    (hp : p.booking ≠ none ∨ (p.state ≠ .routing ∧ p.state ≠ .blocked)) : g.powered p := by
  rcases h with h | ⟨-, -, hstate, hbooking⟩
  · exact h
  · rcases hp with hp | ⟨hp1, hp2⟩
    · exact absurd hbooking hp
    · exact absurd hstate (by simp [hp1, hp2])

/-- A plan without a booking in ROUTING or BLOCKED can be aired where its powers allow it, whatever it commands,
that being nothing or enough. -/
theorem Given.canAir.of_waiting {p q : Plan} (h : g.canAir p) (hant : q.ant = p.ant)
    (hentry : q.entryPower = p.entryPower) (hcmd : q.cmdPower = p.cmdPower)
    (hstate : p.cmdPower = none → (q.state = .routing ∨ q.state = .blocked) ∧ (p.booking = none → q.booking = none)) :
    g.canAir q := by
  have hairs : g.airs p → g.airs q := by
    unfold Given.airs
    rw [hant, hentry]
    exact id
  rcases h with ⟨ha, k, hk, hle⟩ | ⟨ha, hnone, -, hbooking⟩
  · exact .inl ⟨hairs ha, k, hcmd.trans hk, hle⟩
  · exact .inr ⟨hairs ha, hcmd.trans hnone, (hstate hnone).1, (hstate hnone).2 hbooking⟩

/-- Two plans are alike to the bounds: one keeps of the other all that they speak of. -/
structure Plan.Alike (p q : Plan) : Prop where
  id      : q.id = p.id
  state   : q.state = p.state
  ant     : q.ant = p.ant
  entry   : q.entryPower = p.entryPower
  cmd     : q.cmdPower = p.cmdPower
  booking : p.booking = none → q.booking = none

theorem Given.canAir.alike {p q : Plan} (h : g.canAir p) (hq : p.Alike q) : g.canAir q := by
  rcases h with h | ⟨ha, hnone, hstate, hbooking⟩
  · exact Given.canAir.of_waiting (.inl h) hq.ant hq.entry hq.cmd fun hnone => by
      obtain ⟨-, k, hk, -⟩ := h
      rw [hk] at hnone
      cases hnone
  · exact Given.canAir.of_waiting (.inr ⟨ha, hnone, hstate, hbooking⟩) hq.ant hq.entry hq.cmd fun _ =>
      ⟨hq.state ▸ hstate, hq.booking⟩

theorem PlanState.not_current_of_waiting {st : PlanState} (h : st.waiting = true) : ¬ st.current = true := by
  cases st <;> simp_all [PlanState.waiting, PlanState.current]

/-- What every state within a step keeps of what was given. -/
structure Kept (g : Given) (s : State) : Prop where
  queued  : g.forms → s.hlc.queued = true
  map     : g.forms → s.cm.mapForm = true
  tables  : g.forms → s.tablesForm = true
  stop    : g.stop → s.sp.phase = .stopping → ∀ p ∈ s.cp.plans, p.state = .ending
  plans   : g.plans → Plan.Queue s.cp.plans
  own     : g.own → s.cm.ownBound = true
  intents : g.intents → s.rl.intentBound = true
  power   : g.power → s.ts.powerBound = true
  floor   : g.floor → s.cfg = g.cfg ∧ s.ed.antennas = g.antennas
    ∧ (s.ts.state = .ramping ∨ s.ts.state = .onAir ∨ s.ts.upSent = true → g.cfg.pFlr ≤ s.ts.p)
    ∧ ∀ p ∈ s.cp.plans, g.canAir p

/-! ## Reading the bounds -/

variable {s : State}

theorem State.powerable_iff (s : State) (p : Plan) (hcfg : s.cfg = g.cfg) (hant : s.ed.antennas = g.antennas) :
    s.powerable p = true ↔ g.canAir p := by
  unfold State.powerable State.antenna Given.canAir Given.powered Given.airs
  rw [hcfg, hant]
  cases hc : p.cmdPower <;> simp

theorem State.powerFloor_iff (s : State) (hcfg : s.cfg = g.cfg) (hant : s.ed.antennas = g.antennas) :
    s.powerFloor = true ↔
      (s.ts.state = .ramping ∨ s.ts.state = .onAir ∨ s.ts.upSent = true → g.cfg.pFlr ≤ s.ts.p)
        ∧ ∀ p ∈ s.cp.plans, g.canAir p := by
  unfold State.powerFloor
  rw [Bool.and_eq_true, List.all_eq_true]
  refine and_congr ?_ (forall₂_congr fun p _ => s.powerable_iff p hcfg hant)
  rw [hcfg]
  simp only [Bool.or_eq_true, Bool.not_eq_true', Bool.or_eq_false_iff, beq_eq_false_iff_ne, decide_eq_true_eq,
    Decidable.imp_iff_not_or, not_or, Bool.not_eq_true, and_assoc, ne_eq]

namespace Kept

/-- A plan of the queue that is not ENDING says that the station is not STOPPING (R157). -/
theorem going (h : Kept g s) {p : Plan} (hp : p ∈ s.cp.plans) (hne : p.state ≠ .ending) :
    g.stop → s.sp.phase ≠ .stopping :=
  fun hg hphase => hne (h.stop hg hphase p hp)

theorem canAir (h : Kept g s) {p : Plan} (hp : p ∈ s.cp.plans) : g.floor → g.canAir p :=
  fun hg => (h.floor hg).2.2.2 p hp

/-- A current plan of the queue commands a power (R140). -/
theorem powered (h : Kept g s) {p : Plan} (hp : p ∈ s.cp.plans) (hc : p.state.current = true) :
    g.floor → g.powered p :=
  fun hg => (h.canAir hp hg).powered (.inr ⟨fun e => by simp [e, PlanState.current] at hc,
    fun e => by simp [e, PlanState.current] at hc⟩)

/-! ## Setters -/

theorem withTb (h : Kept g s) (v : Timebase) : Kept g (s.withTb v) :=
  ⟨h.queued, h.map, h.tables, h.stop, h.plans, h.own, h.intents, h.power, h.floor⟩

theorem withPd (h : Kept g s) (v : Directory) : Kept g (s.withPd v) :=
  ⟨h.queued, h.map, h.tables, h.stop, h.plans, h.own, h.intents, h.power, h.floor⟩

theorem withFlags (h : Kept g s) (v : Flags) : Kept g (s.withFlags v) :=
  ⟨h.queued, h.map, h.tables, h.stop, h.plans, h.own, h.intents, h.power, h.floor⟩

theorem withPins (h : Kept g s) (v : Pins) : Kept g (s.withPins v) :=
  ⟨h.queued, h.map, h.tables, h.stop, h.plans, h.own, h.intents, h.power, h.floor⟩

theorem withFreeCtr (h : Kept g s) (v : Nat) : Kept g (s.withFreeCtr v) :=
  ⟨h.queued, h.map, h.tables, h.stop, h.plans, h.own, h.intents, h.power, h.floor⟩

theorem withReports (h : Kept g s) (v : List Report) : Kept g (s.withReports v) :=
  ⟨h.queued, h.map, h.tables, h.stop, h.plans, h.own, h.intents, h.power, h.floor⟩

theorem withPending (h : Kept g s) (v : List Instr) : Kept g (s.withPending v) :=
  ⟨h.queued, h.map, h.tables, h.stop, h.plans, h.own, h.intents, h.power, h.floor⟩

theorem report (h : Kept g s) (rs : List Report) : Kept g (s.report rs) := h.withReports _

theorem withHlc (h : Kept g s) {v : Link} (hv : s.hlc.queued = true → v.queued = true) : Kept g (s.withHlc v) :=
  ⟨fun hg => hv (h.queued hg), h.map, h.tables, h.stop, h.plans, h.own, h.intents, h.power, h.floor⟩

theorem withCm (h : Kept g s) {v : ClaimMap} (hm : s.cm.mapForm = true → v.mapForm = true)
    (ho : s.cm.ownBound = true → v.ownBound = true) : Kept g (s.withCm v) :=
  ⟨h.queued, fun hg => hm (h.map hg), h.tables, h.stop, h.plans, fun hg => ho (h.own hg), h.intents, h.power,
    h.floor⟩

theorem withEd (h : Kept g s) {v : Drive} (ht : s.tablesForm = true → (s.withEd v).tablesForm = true)
    (ha : v.antennas = s.ed.antennas) : Kept g (s.withEd v) :=
  ⟨h.queued, h.map, fun hg => ht (h.tables hg), h.stop, h.plans, h.own, h.intents, h.power, fun hg =>
    ⟨(h.floor hg).1, ha.trans (h.floor hg).2.1, (h.floor hg).2.2⟩⟩

theorem withSs (h : Kept g s) {v : Schedule} (ht : s.tablesForm = true → (s.withSs v).tablesForm = true) :
    Kept g (s.withSs v) :=
  ⟨h.queued, h.map, fun hg => ht (h.tables hg), h.stop, h.plans, h.own, h.intents, h.power, h.floor⟩

theorem withRl (h : Kept g s) {v : RampLog} (hv : s.rl.intentBound = true → v.intentBound = true) :
    Kept g (s.withRl v) :=
  ⟨h.queued, h.map, h.tables, h.stop, h.plans, h.own, fun hg => hv (h.intents hg), h.power, h.floor⟩

/-- A change of the port keeps the bounds in the phase it had, and in any phase but STOPPING. -/
theorem withSp (h : Kept g s) {v : Port} (hv : v.phase = s.sp.phase ∨ v.phase ≠ .stopping) : Kept g (s.withSp v) :=
  ⟨h.queued, h.map, h.tables,
    fun hg hphase => hv.elim (fun e => h.stop hg (e.symm.trans hphase)) (fun hne => absurd hphase hne),
    h.plans, h.own, h.intents, h.power, h.floor⟩

theorem withCp (h : Kept g s) {v : Planner}
    (hstop : g.stop → s.sp.phase = .stopping → ∀ p ∈ v.plans, p.state = .ending)
    (hplans : g.plans → Plan.Queue v.plans) (hfloor : g.floor → ∀ p ∈ v.plans, g.canAir p) : Kept g (s.withCp v) :=
  ⟨h.queued, h.map, h.tables, hstop, hplans, h.own, h.intents, h.power, fun hg =>
    ⟨(h.floor hg).1, (h.floor hg).2.1, (h.floor hg).2.2.1, hfloor hg⟩⟩

theorem withTs (h : Kept g s) {v : Sequencer} (hpower : g.power → v.powerBound = true)
    (hfloor : g.floor → v.state = .ramping ∨ v.state = .onAir ∨ v.upSent = true → g.cfg.pFlr ≤ v.p) :
    Kept g (s.withTs v) :=
  ⟨h.queued, h.map, h.tables, h.stop, h.plans, h.own, h.intents, hpower, fun hg =>
    ⟨(h.floor hg).1, (h.floor hg).2.1, hfloor hg, (h.floor hg).2.2.2⟩⟩

/-! ## Common changes of one block -/

/-- A change of the claim map that leaves the peer map and asks nothing new for the station's own bookings. -/
theorem withOwn (h : Kept g s) {v : ClaimMap} (hm : v.map = s.cm.map)
    (ho : s.cm.ownBound = true → v.ownBound = true) : Kept g (s.withCm v) :=
  h.withCm (fun hs => by rw [ClaimMap.mapForm_iff] at hs ⊢; rw [hm]; exact hs) ho

/-- A change of the claim map's lists of what is owed or unsent. -/
theorem withOwed (h : Kept g s) {v : ClaimMap} (hm : v.map = s.cm.map := by rfl)
    (ho : v.own = s.cm.own := by rfl) : Kept g (s.withCm v) :=
  h.withOwn hm fun hs => by unfold ClaimMap.ownBound at *; rw [ho]; exact hs

/-- A change of the drive that leaves its tables. -/
theorem withDrive (h : Kept g s) {v : Drive} (he : v.elements = s.ed.elements := by rfl)
    (ha : v.antennas = s.ed.antennas := by rfl) (hr : v.routes = s.ed.routes := by rfl)
    (hev : v.elView = s.ed.elView := by rfl) (hav : v.anView = s.ed.anView := by rfl) : Kept g (s.withEd v) :=
  h.withEd (fun hs => by unfold State.tablesForm at *; simpa [he, ha, hr, hev, hav] using hs) ha

/-- A change of the sequencer that leaves its state, P, its ceiling and whether UP has been sent. -/
theorem withTimers (h : Kept g s) {v : Sequencer} (hst : v.state = s.ts.state := by rfl)
    (hp : v.p = s.ts.p := by rfl) (hc : v.ceiling = s.ts.ceiling := by rfl)
    (hu : v.upSent = s.ts.upSent := by rfl) : Kept g (s.withTs v) :=
  h.withTs (fun hg => by have := h.power hg; unfold Sequencer.powerBound at *; rw [hp, hc]; exact this)
    (fun hg => by rw [hst, hp, hu]; exact (h.floor hg).2.2.1)

/-- A change of the sequencer's state into one in which no power is held, or under an UP already sent. -/
theorem withState (h : Kept g s) {v : Sequencer} (hst : v.state ≠ .ramping ∧ v.state ≠ .onAir ∨ v.upSent = true
    ∨ s.ts.state = .ramping) (hp : v.p = s.ts.p := by rfl)
    (hc : v.ceiling = s.ts.ceiling := by rfl) (hu : v.upSent = s.ts.upSent := by rfl) : Kept g (s.withTs v) :=
  h.withTs (fun hg => by have := h.power hg; unfold Sequencer.powerBound at *; rw [hp, hc]; exact this)
    (fun hg hv => by
      rw [hp]
      refine (h.floor hg).2.2.1 ?_
      rw [hu] at hst hv
      rcases hst with ⟨h1, h2⟩ | h1 | h1
      · exact .inr (.inr (hv.resolve_left h1 |>.resolve_left h2))
      · exact .inr (.inr h1)
      · exact .inl h1)

/-- A fold keeps the bounds where each of its operations does. -/
theorem foldl {α : Type} {f : State → α → State} {l : List α} (hf : ∀ x ∈ l, ∀ u, Kept g u → Kept g (f u x)) :
    ∀ {s : State}, Kept g s → Kept g (l.foldl f s) := by
  induction l with
  | nil => exact fun h => h
  | cons x rest ih =>
    exact fun h => ih (fun y hy => hf y (List.mem_cons_of_mem _ hy)) (hf x List.mem_cons_self _ h)

/-! ## Plans -/

/-- A change of plans that keeps each alike. -/
theorem mapPlans (h : Kept g s) {v : Planner} {f : Plan → Plan} (hv : v.plans = s.cp.plans.map f)
    (hf : ∀ p : Plan, p.Alike (f p)) : Kept g (s.withCp v) := by
  refine h.withCp ?_ ?_ ?_
  · intro hg hphase q hq
    obtain ⟨p, hp, rfl⟩ := List.mem_map.1 (hv ▸ hq)
    exact (hf p).state.trans (h.stop hg hphase p hp)
  · intro hg
    rw [hv]
    exact (h.plans hg).map (fun p => (hf p).id) (fun p _ hc => (hf p).state ▸ hc)
      (fun p hp => (hf p).state.symm ▸ (h.plans hg).kind p hp)
  · intro hg q hq
    obtain ⟨p, hp, rfl⟩ := List.mem_map.1 (hv ▸ hq)
    exact (h.canAir hp hg).alike (hf p)

theorem withPlanner (h : Kept g s) {v : Planner} (hv : v.plans = s.cp.plans := by rfl) : Kept g (s.withCp v) :=
  h.mapPlans (f := id) (by simpa using hv) fun _ => ⟨rfl, rfl, rfl, rfl, rfl, id⟩

theorem filterPlans (h : Kept g s) {v : Planner} {keep : Plan → Bool}
    (hv : v.plans = s.cp.plans.filter keep := by rfl) :
    Kept g (s.withCp v) := by
  refine h.withCp ?_ ?_ ?_
  · intro hg hphase q hq
    exact h.stop hg hphase q (List.mem_filter.1 (hv ▸ hq)).1
  · intro hg
    rw [hv]
    exact (h.plans hg).filter keep
  · intro hg q hq
    exact h.canAir (List.mem_filter.1 (hv ▸ hq)).1 hg

/-- A change of the plans with one id: what they become is waiting, or current where they were. -/
theorem changePlan (h : Kept g s) {id : Nat} {f : Plan → Plan} (hid : ∀ p, p.id = id → (f p).id = p.id)
    (hstop : g.stop → s.sp.phase = .stopping → ∀ p ∈ s.cp.plans, p.id = id → (f p).state = .ending)
    (hkind : g.plans → ∀ p ∈ s.cp.plans, p.id = id →
      (f p).state.waiting = true ∨ (f p).state.current = true ∧ p.state.current = true)
    (hfloor : g.floor → ∀ p ∈ s.cp.plans, p.id = id → g.canAir (f p)) : Kept g (s.updPlan id f) := by
  refine h.withCp ?_ ?_ ?_
  · intro hg hphase q hq
    obtain ⟨p, hp, rfl⟩ := List.mem_map.1 hq
    split
    · next he => exact hstop hg hphase p hp he
    · exact h.stop hg hphase p hp
  · intro hg
    refine (h.plans hg).map (fun p => ?_) (fun p hp => ?_) (fun p hp => ?_)
    · split
      · next he => exact hid p he
      · rfl
    · split
      · next he => exact fun hc => (hkind hg p hp he).elim (fun hw => absurd hc (PlanState.not_current_of_waiting hw)) And.right
      · exact fun hc => hc
    · split
      · next he => exact (hkind hg p hp he).elim .inr fun hc => .inl hc.1
      · exact (h.plans hg).kind p hp
  · intro hg q hq
    obtain ⟨p, hp, rfl⟩ := List.mem_map.1 hq
    split
    · next he => exact hfloor hg p hp he
    · exact h.canAir hp hg

theorem updPlan (h : Kept g s) {id : Nat} {f : Plan → Plan}
    (hf : ∀ p : Plan, p.Alike (f p) := by exact fun _ => ⟨rfl, rfl, rfl, rfl, rfl, fun e => e⟩) :
    Kept g (s.updPlan id f) :=
  h.mapPlans (f := fun p => if p.id = id then f p else p) rfl fun p => by
    split
    · exact hf p
    · exact ⟨rfl, rfl, rfl, rfl, rfl, fun e => e⟩

/-- A plan that goes on waiting takes its new content. -/
theorem putWaiting (h : Kept g s) {p : Plan} (hgo : g.stop → s.sp.phase ≠ .stopping)
    (hw : p.state.waiting = true) (hfloor : g.floor → g.canAir p) : Kept g (s.putPlan p) :=
  h.changePlan (fun _ he => he.symm ▸ rfl) (fun hg hphase => absurd hphase (hgo hg)) (fun _ _ _ _ => .inl hw)
    fun hg _ _ _ => hfloor hg

/-- A plan of the queue takes a content like its own. -/
theorem putAlike (h : Kept g s) {p q : Plan} (hp : p ∈ s.cp.plans) (hq : p.Alike q) : Kept g (s.putPlan q) :=
  h.changePlan (fun _ he => he.symm ▸ rfl) (fun hg hphase _ _ _ => hq.state.trans (h.stop hg hphase p hp))
    (fun hg x hx he => by
      rw [hq.state]
      refine ((h.plans hg).kind p hp).symm.imp (fun hw => hw) fun hc => ⟨hc, ?_⟩
      rwa [(h.plans hg).eq_of_id hp hx (he.trans hq.id)])
    fun hg _ _ _ => (h.canAir hp hg).alike hq

end Kept

/-! ## The current plan -/

/-- A plan may be the current one: no other is current, and it commands a power at or above PFLR. -/
structure Leads (g : Given) (s : State) (p : Plan) : Prop where
  only    : g.plans → ∀ q ∈ s.cp.plans, q.state.current = true → q.id = p.id
  powered : g.floor → g.powered p

theorem Leads.of_same {t : State} {p q : Plan} (h : Leads g s p) (ht : t.cp.plans = s.cp.plans)
    (hid : q.id = p.id := by rfl) (hq : g.powered p → g.powered q := by exact fun e => e) : Leads g t q :=
  ⟨fun hg => by rw [ht, hid]; exact h.only hg, fun hg => hq (h.powered hg)⟩

theorem Leads.put {p : Plan} (h : Leads g s p) : Leads g (s.putPlan p) p := by
  refine ⟨fun hg q hq hc => ?_, h.powered⟩
  obtain ⟨x, hx, rfl⟩ := List.mem_map.1 hq
  split at hc
  · next he => rw [if_pos he]
  · next he => exact absurd (h.only hg x hx hc) he

namespace Kept

/-- The current plan leads. -/
theorem leads (h : Kept g s) {p : Plan} (hp : p ∈ s.cp.plans) (hc : p.state.current = true) : Leads g s p :=
  ⟨fun hg _ hq hqc => congrArg Plan.id ((h.plans hg).eq_of_current hp hq hc hqc), h.powered hp hc⟩

/-- A plan that leads takes the place of its id as the current one. -/
theorem putCurrent (h : Kept g s) {p : Plan} (hp : Leads g s p)
    (hgo : g.stop → s.sp.phase = .stopping → p.state = .ending) (hc : p.state.current = true) :
    Kept g (s.putPlan p) := by
  refine h.withCp (fun hg hphase q hq => ?_) (fun hg => (h.plans hg).promote hc (hp.only hg)) fun hg q hq => ?_
  all_goals
    obtain ⟨x, hx, rfl⟩ := List.mem_map.1 hq
    split
  · exact hgo hg hphase
  · exact h.stop hg hphase x hx
  · exact (hp.powered hg).canAir
  · exact h.canAir hx hg

end Kept
end Sys2Proof.Machine
end

section
/-! SUPPORT. The preset directory, the timebase, the link and the claim map keep the forms. -/

namespace Sys2Proof.Machine

-- Each pending proof holds a stack of its own: they are checked one after the other.
set_option Elab.async false

open Sys2Proof

theorem State.phase_of_clock {s t : State} (h : t.clock = s.clock) : t.sp.phase = s.sp.phase := congrArg Clock.phase h

/-! ## What the station's own bookings ask of a change -/

theorem ClaimMap.ownBound_iff (c : ClaimMap) : c.ownBound = true ↔
    (c.own.map OwnBooking.req).countP (fun r => r != .exercise) ≤ 4
      ∧ (c.own.map OwnBooking.req).countP (fun r => r == .exercise) ≤ 1 := by
  show _ ↔ _ ≤ Config.planBookingLimit ∧ _
  simp only [ClaimMap.ownBound, Bool.and_eq_true, decide_eq_true_eq, List.countP_map]
  rfl

theorem ClaimMap.ownBound_of_reqs {c v : ClaimMap}
    (hr : (v.own.map OwnBooking.req).Sublist (c.own.map OwnBooking.req)) (h : c.ownBound = true) :
    v.ownBound = true := by
  rw [ClaimMap.ownBound_iff] at h ⊢
  exact ⟨Nat.le_trans hr.countP_le h.1, Nat.le_trans hr.countP_le h.2⟩

/-- The whole own list, of plans and of the exercise (R59). -/
theorem ClaimMap.length_own {c : ClaimMap} (h : c.ownBound = true) : c.own.length ≤ 5 := by
  rw [ClaimMap.ownBound_iff] at h
  have hsplit := List.length_eq_countP_add_countP (fun r : Requester => r == .exercise) (l := c.own.map OwnBooking.req)
  rw [List.length_map] at hsplit
  have hnot : (fun r : Requester => decide ¬(r == .exercise) = true) = fun r => r != .exercise := by
    funext r
    by_cases hr : r = .exercise <;> simp [hr]
  rw [hnot] at hsplit
  omega

/-! ## Records under a key -/

/-- The map holds a record under a key. -/
def State.holds (s : State) (holder num : Nat) : Bool := s.cm.map.any fun x => x.isKey holder num

theorem State.holds_of_mem {s : State} {r : PeerRec} (h : r ∈ s.cm.map) : s.holds r.desc.holder r.desc.num = true :=
  List.any_eq_true.2 ⟨r, h, by simp [PeerRec.isKey]⟩

theorem State.holds_of_peerRec {s : State} {holder num : Nat} {r : PeerRec} (h : s.peerRec holder num = some r) :
    s.holds holder num = true :=
  List.any_eq_true.2 ⟨r, List.mem_of_find?_eq_some h, by simpa using List.find?_some h⟩

theorem State.holds_putRec {s : State} {holder num : Nat} (r : PeerRec) (h : s.holds holder num = true) :
    (s.putRec r).holds holder num = true := by
  obtain ⟨x, hx, hkey⟩ := List.any_eq_true.1 h
  refine List.any_eq_true.2 ?_
  by_cases hr : r.isKey holder num = true
  · exact ⟨r, (mem_insertBy _ _ _ _).2 (.inl rfl), hr⟩
  · refine ⟨x, (mem_insertBy _ _ _ _).2 (.inr (List.mem_filter.2 ⟨hx, ?_⟩)), hkey⟩
    rw [PeerRec.isKey_iff] at hkey hr
    rw [Bool.not_eq_true', Bool.eq_false_iff, ne_eq, PeerRec.isKey_iff]
    omega

theorem State.offer_cm (s : State) (f : Frame) : (s.offer f).1.cm = s.cm := by rw [s.offer_other]; rfl

theorem State.offerObject_map (s : State) (c n o : Nat) : (s.offerObject c n o).cm.map = s.cm.map := by
  simp only [State.offerObject]
  split
  · rw [s.offer_cm]
  · rfl

theorem State.offerRelease_map (s : State) (num : Nat) : (s.offerRelease num).cm.map = s.cm.map := by
  simp only [State.offerRelease]
  split
  · rfl
  · split
    · rw [s.offer_cm]
    · rfl

theorem State.endOwn_map (s : State) (b : OwnBooking) (w : Told) : (s.endOwn b w).cm.map = s.cm.map := by
  simp only [State.endOwn, State.removeOwn, State.tell, State.report_cm]
  split
  · rfl
  · split
    · rfl
    · exact State.offerRelease_map _ _

theorem State.foldl_displace_map (l : List OwnBooking) : ∀ s : State, (l.foldl State.displace s).cm.map = s.cm.map := by
  induction l with
  | nil => exact fun _ => rfl
  | cons b rest ih => exact fun s => (ih _).trans (s.endOwn_map b _)

/-- Placement takes no key out of the map. -/
theorem State.holds_place {s : State} {holder num : Nat} (r : PeerRec) (w : Bool) (h : s.holds holder num = true) :
    (s.place r w).holds holder num = true := by
  have hyield : ∀ (l : List PeerRec) (u : State), u.holds holder num = true →
      (l.foldl (fun s x => s.putRec { x with mark := Mark.yielded }) u).holds holder num = true := by
    intro l
    induction l with
    | nil => exact fun _ hu => hu
    | cons x rest ih => exact fun u hu => ih _ (State.holds_putRec _ hu)
  simp only [State.place]
  split
  · split
    · unfold State.holds
      rw [State.offerObject_map]
      exact State.holds_putRec _ h
    · exact State.holds_putRec _ h
  · split
    · exact State.holds_putRec _ h
    · unfold State.holds
      rw [State.foldl_displace_map]
      exact hyield _ _ (State.holds_putRec _ h)

/-- The record furthest in the future is the new one or one of the map. -/
theorem furthest_mem (now : Nat) (r : PeerRec) (l : List PeerRec) : furthest now r l = r ∨ furthest now r l ∈ l := by
  unfold furthest
  induction l generalizing r with
  | nil => exact .inl rfl
  | cons x rest ih =>
    rw [List.foldl_cons]
    rcases ih (if mapBefore now r x = true then x else r) with h | h
    · rw [h]
      split
      · exact .inr List.mem_cons_self
      · exact .inl rfl
    · exact .inr (List.mem_cons_of_mem _ h)

namespace Kept

variable {g : Given} {s : State}

/-! ## Occurrences and the preset directory -/

theorem noteInstants (h : Kept g s) (abs0 : Nat) : Kept g (s.noteInstants abs0) := by
  unfold State.noteInstants
  split
  · exact h.withSs id
  · exact h.withSs id

theorem dualMatch (h : Kept g s) (f a : Nat) : Kept g (s.dualMatch f a) := by
  simp only [State.dualMatch]
  split <;> exact (((h.withPd _).report _).withPd _).withFlags _

theorem lookup (h : Kept g s) (f a : Nat) : Kept g (s.lookup f a).1 := by
  simp only [State.lookup]
  split
  · exact h
  · split
    · exact h.withPd _
    · split
      · exact h.dualMatch f a
      · split
        · exact h.withPd _
        · exact h

theorem releasePin (h : Kept g s) (i w : Nat) : Kept g (s.releasePin i w) := h.withPd _

theorem fillPreset (h : Kept g s) (f a tune load band : Nat) : Kept g (s.fillPreset f a tune load band) := by
  simp only [State.fillPreset]
  split
  · exact h
  · split
    · exact h.withPd _
    · exact h

theorem storeTune (h : Kept g s) (f a tune load band : Nat) : Kept g (s.storeTune f a tune load band) := by
  simp only [State.storeTune]
  split
  · exact h
  · split
    · exact (h.dualMatch f a).fillPreset _ _ _ _ _
    · split
      · exact h.withPd _
      · exact h.fillPreset _ _ _ _ _

/-! ## The timebase -/

theorem afterGate (h : Kept g s) (s0 : State) : Kept g (s.afterGate s0) := by
  unfold State.afterGate
  split
  · exact h.report _
  · exact h

theorem evaluateOffsets (h : Kept g s) : Kept g s.evaluateOffsets := by
  rcases s.evaluateOffsets_cases with e | ⟨k, e⟩ | ⟨b, e⟩ <;> rw [e]
  · exact h
  · exact (((h.withTb _).withFlags _).noteInstants _).afterGate _
  · exact (h.withTb _).afterGate _

theorem recordOffset (h : Kept g s) (hd : Head) : Kept g (s.recordOffset hd) := by
  unfold State.recordOffset
  split
  · exact (h.withTb _).evaluateOffsets
  · exact h

theorem removeOffset (h : Kept g s) (station : Nat) : Kept g (s.removeOffset station) :=
  (h.withTb _).evaluateOffsets

/-! ## The hall link -/

theorem offer (h : Kept g s) (f : Frame) : Kept g (s.offer f).1 := by
  rcases s.offer_cases f with e | ⟨l, -, hl, e⟩ <;> rw [e]
  · exact h
  · exact h.withHlc (Link.queued_offer hl)

/-- A change of the link that leaves its queue and its slots. -/
theorem withLink (h : Kept g s) {v : Link} (hq : v.queue = s.hlc.queue := by rfl)
    (hs : v.slots = s.hlc.slots := by rfl) : Kept g (s.withHlc v) :=
  h.withHlc fun hl => Link.queued_sublist hl (by rw [hq]) (by rw [hs])

theorem setPeer (h : Kept g s) (station : Nat) (e : PeerEntry) : Kept g (s.setPeer station e) := h.withLink

theorem beaconNow (h : Kept g s) : Kept g s.beaconNow := (h.offer _).withLink

/-! ## Own bookings -/

/-- A change of the own bookings that brings in no requester. -/
theorem withReqs (h : Kept g s) {v : ClaimMap} (hm : v.map = s.cm.map := by rfl)
    (hr : (v.own.map OwnBooking.req).Sublist (s.cm.own.map OwnBooking.req)) : Kept g (s.withCm v) :=
  h.withOwn hm (ClaimMap.ownBound_of_reqs hr)

theorem updOwn (h : Kept g s) {num : Nat} {f : OwnBooking → OwnBooking}
    (hf : ∀ b, (f b).req = b.req := by exact fun _ => rfl) : Kept g (s.updOwn num f) := by
  refine h.withReqs (hr := ?_)
  rw [List.map_map]
  refine (List.map_congr_left fun b _ => ?_) ▸ List.Sublist.refl _
  simp only [Function.comp]
  split
  · exact (hf b).symm
  · rfl

theorem offerRelease (h : Kept g s) (num : Nat) : Kept g (s.offerRelease num) := by
  simp only [State.offerRelease]
  split
  · exact h
  · split
    · exact h.offer _
    · exact h.withOwed

theorem offerObject (h : Kept g s) (c n o : Nat) : Kept g (s.offerObject c n o) := by
  simp only [State.offerObject]
  split
  · exact h.offer _
  · exact h.withOwed

theorem offerAir (h : Kept g s) (num : Nat) : Kept g (s.offerAir num) := (h.offer _).updOwn

theorem offerOwedObjects (n : Nat) : ∀ {s : State}, Kept g s → Kept g (s.offerOwedObjects n).1 := by
  induction n with
  | zero => exact fun h => h
  | succ n ih =>
    intro s h
    simp only [State.offerOwedObjects]
    split
    · exact h
    · split
      · exact ih ((h.offer _).withOwed)
      · exact h

theorem offerOwedAirs (l : List Nat) : ∀ {s : State}, Kept g s → Kept g (s.offerOwedAirs l).1 := by
  induction l with
  | nil => exact fun h => h
  | cons n l ih =>
    intro s h
    simp only [State.offerOwedAirs]
    split
    · split
      · exact ih h
      · split
        · split
          · exact ih ((h.offer _).updOwn)
          · exact h
        · exact ih (h.updOwn)
    · exact ih h

theorem offerOwedReleases (n : Nat) : ∀ {s : State}, Kept g s → Kept g (s.offerOwedReleases n).1 := by
  induction n with
  | zero => exact fun h => h
  | succ n ih =>
    intro s h
    simp only [State.offerOwedReleases]
    split
    · exact h
    · split
      · exact ih ((h.offer _).withOwed)
      · exact h

theorem cmSlotEmptied (h : Kept g s) : Kept g s.cmSlotEmptied := by
  have hobjects := h.offerOwedObjects Config.owedListSize
  simp only [State.cmSlotEmptied]
  refine Kept.report ?_ _
  split
  · split
    · exact offerOwedReleases _ (offerOwedAirs _ hobjects)
    · exact offerOwedAirs _ hobjects
  · exact hobjects

theorem removeOwn (h : Kept g s) (b : OwnBooking) (release : Bool) : Kept g (s.removeOwn b release) := by
  have hgone : Kept g (s.withCm { s.cm with own := s.cm.own.filter fun x => x.desc.num != b.desc.num }) :=
    h.withReqs (hr := by exact List.filter_sublist.map _)
  simp only [State.removeOwn]
  refine Kept.report ?_ _
  split
  · exact hgone
  · split
    · exact hgone.withOwed
    · split
      · exact hgone.offerRelease _
      · exact hgone

theorem endOwn (h : Kept g s) (b : OwnBooking) (w : Told) : Kept g (s.endOwn b w) := (h.removeOwn b true).report _

theorem releaseTest (h : Kept g s) : Kept g s.releaseTest := by
  unfold State.releaseTest
  split
  · exact h
  · exact h.foldl fun b _ u hu => hu.endOwn b _

theorem releaseBooking (h : Kept g s) (num : Nat) : Kept g (s.releaseBooking num) := by
  unfold State.releaseBooking
  split
  · exact h
  · split
    · exact h.endOwn _ _
    · exact ((h.updOwn).report _).releaseTest

/-- A claim comes only where its requester's share of the own list has a place (R60). -/
theorem requestBooking (h : Kept g s) (req : Requester) (d : Desc) : Kept g (s.requestBooking req d).1 := by
  have hroom : s.claimRefusal req d = none → s.cm.ownBound = true → ∀ b : OwnBooking, b.req = req →
      ∀ v : ClaimMap, v.own = s.cm.own ++ [b] → v.ownBound = true := by
    intro hc ho b hb v hv
    simp only [ClaimMap.ownBound, Bool.and_eq_true, decide_eq_true_eq] at ho ⊢
    simp only [State.claimRefusal, ite_eq_iff, reduceCtorEq, and_false, false_or, and_true] at hc
    obtain ⟨-, -, -, hcount, -⟩ := hc
    rw [hv, List.countP_append, List.countP_append, List.countP_singleton, List.countP_singleton, hb]
    cases req with
    | plan id =>
      have hcount' : s.cm.own.countP (fun b => b.req != .exercise) < 4 := by
        simpa [bne, Config.planBookingLimit, Bool.beq_eq_decide_eq] using hcount
      have h1 : (Requester.plan id != .exercise) = true := rfl
      have h2 : (Requester.plan id == .exercise) = false := rfl
      simp only [h1, h2, if_true, Bool.false_eq_true, if_false]
      exact ⟨hcount', ho.2⟩
    | exercise =>
      have hcount' : s.cm.own.countP (fun b => b.req == .exercise) = 0 := by
        simpa [Bool.beq_eq_decide_eq] using hcount
      exact ⟨ho.1, by rw [hcount']; decide⟩
  cases hc : s.claimRefusal req d with
  | some why => simpa [State.requestBooking, hc] using h
  | none =>
    simp only [State.requestBooking, hc]
    split
    · refine Kept.withOwn ((h.offer _).withLink) rfl fun ho => ?_
      have ho' : s.cm.ownBound = true := by simpa [State.offer_cm] using ho
      refine hroom hc ho' _ ?_ _ (congrArg (· ++ _) (congrArg ClaimMap.own (s.offer_cm _)))
      rfl
    · exact h

theorem claimSent (h : Kept g s) (num : Nat) : Kept g (s.claimSent num) := by
  unfold State.claimSent
  split
  · exact (h.withOwed).offerRelease _
  · exact h.updOwn fun b => by split <;> rfl

theorem claimDropped (h : Kept g s) (num : Nat) : Kept g (s.claimDropped num) := by
  unfold State.claimDropped
  split
  · exact h.withOwed
  · split
    · split
      · exact ((h.withReqs (hr := by exact List.filter_sublist.map _)).report _).report _
      · exact h
    · exact h

theorem listenEnds (h : Kept g s) (num : Nat) : Kept g (s.listenEnds num) := by
  unfold State.listenEnds
  split
  · split
    · exact (h.updOwn).report _
    · exact h
  · exact h

theorem judgeOne (h : Kept g s) (b : OwnBooking) : Kept g (s.judgeOne b) := by
  unfold State.judgeOne
  split
  · exact h
  · split
    · split
      · exact h.updOwn
      · exact h
    · split
      · exact h.updOwn
      · exact (h.updOwn).report _
      · exact (h.updOwn).report _
      · exact h

theorem judgeItem (h : Kept g s) (kind : ItemKind) (item : Nat) : Kept g (s.judgeItem kind item) :=
  (h.foldl fun b _ _ hu => hu.judgeOne b).report _

theorem beginMoving (h : Kept g s) (num : Nat) : Kept g (s.beginMoving num).1 := by
  simp only [State.beginMoving]
  split
  · split
    · have hmoving : Kept g ((s.updOwn num fun b => { b with state := .moving }).report [.permitTest]) :=
        (h.updOwn).report _
      simp only
      split
      · exact hmoving.judgeOne _
      · exact hmoving
    · exact h
  · exact h

theorem confirmEnds (h : Kept g s) (num : Nat) : Kept g (s.confirmEnds num) := by
  unfold State.confirmEnds
  split
  · split
    · exact (h.updOwn).report _
    · exact h
  · exact h

theorem beginAir (h : Kept g s) (num : Nat) : Kept g (s.beginAir num) := by
  unfold State.beginAir
  split
  · split
    · exact ((h.updOwn).offerAir _).report _
    · exact h
  · exact h

theorem handOver (h : Kept g s) (pred cont : Nat) : Kept g (s.handOver pred cont).1 := by
  simp only [State.handOver]
  split
  · next p c _ _ =>
    split
    · have hmoved : Kept g (s.withCm { s.cm with own :=
          (s.cm.own.filter fun b => b.desc.num != pred).map fun b =>
            if b.desc.num = cont then { b with state := p.state, confirm := p.confirm } else b }) := by
        refine h.withReqs (hr := ?_)
        rw [List.map_map]
        have hreq : (OwnBooking.req ∘ fun b : OwnBooking =>
            if b.desc.num = cont then { b with state := p.state, confirm := p.confirm } else b) = OwnBooking.req := by
          funext b
          simp only [Function.comp]
          split <;> rfl
        rw [hreq]
        exact List.filter_sublist.map _
      simp only
      split
      · exact (hmoved.offerAir _).report _
      · exact hmoved.report _
    · exact h
  · exact h

/-! ## The peer map -/

theorem putRec (h : Kept g s) (r : PeerRec)
    (hroom : g.forms → s.holds r.desc.holder r.desc.num = true ∨ s.cm.map.length < 64) : Kept g (s.putRec r) := by
  refine ⟨h.queued, fun hg => ?_, h.tables, h.stop, h.plans, h.own, h.intents, h.power, h.floor⟩
  obtain ⟨hrise, hlen⟩ := (ClaimMap.mapForm_iff _).1 (h.map hg)
  refine (ClaimMap.mapForm_iff _).2 ⟨putRec_rises r hrise, ?_⟩
  rcases hroom hg with hkey | hroom
  · exact Nat.le_trans (length_putRec hkey) hlen
  · show (insertBy _ _ _).length ≤ 64
    rw [length_insertBy]
    have := List.length_filter_le (fun x => !x.isKey r.desc.holder r.desc.num) s.cm.map
    omega

/-- Records of the map take a mark: none comes in. -/
theorem yieldAll (l : List PeerRec) : ∀ {s : State}, Kept g s →
    (∀ x ∈ l, s.holds x.desc.holder x.desc.num = true) →
    Kept g (l.foldl (fun s x => s.putRec { x with mark := Mark.yielded }) s) := by
  induction l with
  | nil => exact fun h _ => h
  | cons x rest ih =>
    intro s h hl
    exact ih (h.putRec _ fun _ => .inl (hl x List.mem_cons_self))
      fun y hy => State.holds_putRec _ (hl y (List.mem_cons_of_mem _ hy))

theorem place (h : Kept g s) (r : PeerRec) (w : Bool)
    (hroom : g.forms → s.holds r.desc.holder r.desc.num = true ∨ s.cm.map.length < 64) : Kept g (s.place r w) := by
  simp only [State.place]
  split
  · split
    · exact Kept.offerObject (h.putRec { r with mark := .objected } hroom) _ _ _
    · exact h.putRec _ hroom
  · split
    · exact h.putRec _ hroom
    · refine Kept.foldl (fun b _ u hu => hu.endOwn b _) (yieldAll _ (h.putRec _ hroom) fun x hx => ?_)
      exact State.holds_putRec _ (State.holds_of_mem (List.mem_filter.1 hx).1)

theorem afterMap (h : Kept g s) (s0 : State) : Kept g (s.afterMap s0) := by
  simp only [State.afterMap]
  split
  · exact h.report _
  · exact h

/-- Records that leave the map leave its form. -/
theorem filterRecs (h : Kept g s) {v : ClaimMap} {keep : PeerRec → Bool} (hm : v.map = s.cm.map.filter keep)
    (ho : v.own = s.cm.own) : Kept g (s.withCm v) := by
  refine h.withCm (fun hs => ?_) (ClaimMap.ownBound_of_reqs (by rw [ho]))
  obtain ⟨hrise, hlen⟩ := (ClaimMap.mapForm_iff _).1 hs
  refine (ClaimMap.mapForm_iff _).2 ?_
  rw [hm]
  exact ⟨hrise.filter _, Nat.le_trans (List.length_filter_le _ _) hlen⟩

theorem keepRecs (h : Kept g s) (keep : PeerRec → Bool) : Kept g (s.keepRecs keep) := h.filterRecs rfl rfl

theorem addRec (h : Kept g s) (r : PeerRec) : Kept g (s.addRec r) := by
  simp only [State.addRec]
  split
  · next hlen => exact h.place _ _ fun _ => .inr hlen
  · have hhorizon := h.withOwed (v := { s.cm with
      horizon := nearerHorizon s.now s.cm.horizon (furthest s.now r s.cm.map).desc.start }) rfl rfl
    split
    · exact hhorizon
    · next hkey =>
      refine (hhorizon.filterRecs (v := { s.cm with
        horizon := nearerHorizon s.now s.cm.horizon (furthest s.now r s.cm.map).desc.start
        map := s.cm.map.filter fun x => !x.isKey (furthest s.now r s.cm.map).desc.holder
          (furthest s.now r s.cm.map).desc.num }) rfl rfl).place _ _ fun hg => .inr ?_
      rcases furthest_mem s.now r s.cm.map with he | hmem
      · rw [he] at hkey
        exact absurd (by simp [PeerRec.isKey]) hkey
      · obtain ⟨-, hlen⟩ := (ClaimMap.mapForm_iff _).1 (h.map hg)
        refine Nat.lt_of_lt_of_le (List.length_filter_lt_length_iff_exists.2 ⟨_, hmem, ?_⟩) hlen
        simp [PeerRec.isKey]

theorem hearClaim (h : Kept g s) (d : Desc) : Kept g (s.hearClaim d) := by
  simp only [State.hearClaim]
  split
  · refine Kept.afterMap ?_ _
    split
    · next hold => exact h.place _ _ fun _ => .inl (State.holds_of_peerRec hold)
    · exact h.addRec _
  · exact h

theorem hearObject (h : Kept g s) (claimant num : Nat) : Kept g (s.hearObject claimant num) := by
  unfold State.hearObject
  split
  · split
    · split
      · exact h.endOwn _ _
      · exact h
    · exact h
  · exact h

theorem hearRelease (h : Kept g s) (sender num : Nat) : Kept g (s.hearRelease sender num) :=
  (h.keepRecs _).afterMap _

theorem hearAir (h : Kept g s) (sender num : Nat) : Kept g (s.hearAir sender num) := by
  unfold State.hearAir
  split
  · next r hr => exact (h.place { r with announced := 4 } _ fun _ =>
      .inl (State.holds_of_mem (r := r) (List.mem_of_find?_eq_some hr))).afterMap _
  · exact h

theorem hearEntry (h : Kept g s) (e : Desc × Nat) : Kept g (s.hearEntry e) := by
  unfold State.hearEntry
  split
  · split
    · next r hr =>
      split
      · exact h
      · exact h.place _ _ fun _ => .inl (State.holds_of_peerRec hr)
    · exact h.addRec _
  · exact h

theorem hearList (h : Kept g s) (sender ctr : Nat) (l : List (Desc × Nat)) : Kept g (s.hearList sender ctr l) :=
  ((h.foldl fun e _ _ hu => hu.hearEntry e).keepRecs _).afterMap _

theorem expireRecs (h : Kept g s) : Kept g s.expireRecs := (h.keepRecs _).afterMap _

theorem dropPeerRecs (h : Kept g s) (station : Nat) : Kept g (s.dropPeerRecs station) := (h.keepRecs _).afterMap _

theorem emptyMap (h : Kept g s) : Kept g s.emptyMap :=
  (h.filterRecs (v := { s.cm with map := [], horizon := none }) (keep := fun _ => false) (by simp) rfl).afterMap _

/-- Records of the map placed anew: none comes in. -/
theorem placeAll (l : List PeerRec) : ∀ {s : State}, Kept g s →
    (∀ r ∈ l, s.holds r.desc.holder r.desc.num = true) →
    Kept g (l.foldl (fun s r => s.place r (r.mark == Mark.objected)) s) := by
  induction l with
  | nil => exact fun h _ => h
  | cons r rest ih =>
    intro s h hl
    exact ih (h.place _ _ fun _ => .inl (hl r List.mem_cons_self))
      fun y hy => State.holds_place _ _ (hl y (List.mem_cons_of_mem _ hy))

theorem untilOne (h : Kept g s) (b : OwnBooking) : Kept g (s.untilOne b) := by
  simp only [State.untilOne]
  split
  · exact h.endOwn _ _
  · exact placeAll _ h.updOwn fun r hr => State.holds_of_mem (List.mem_filter.1 hr).1

theorem ownUntils (h : Kept g s) : Kept g s.ownUntils := (h.foldl fun b _ _ hu => hu.untilOne b).afterMap _

theorem cmStop (h : Kept g s) : Kept g s.cmStop := h.foldl fun b _ _ hu => hu.endOwn b _

theorem cmLinkFault (h : Kept g s) : Kept g s.cmLinkFault := by
  refine (h.foldl fun b _ _ hu => hu.endOwn b _).withReqs (hr := ?_)
  rw [List.map_map]
  exact List.Sublist.refl _

end Kept
end Sys2Proof.Machine
end

section
/-! SUPPORT. The element drive keeps the forms. -/

namespace Sys2Proof.Machine

-- Each pending proof holds a stack of its own: they are checked one after the other.
set_option Elab.async false

open Sys2Proof

/-- Levels driven on the sense lines of a channel change the pins alone (R204). -/
theorem State.driveElLines_pins (s : State) (el : Nat) (valid : Bool) (code : Nat) :
    ∃ p, s.driveElLines el valid code = s.withPins p := by
  unfold State.driveElLines
  split
  · exact ⟨_, rfl⟩
  · exact ⟨s.pins, rfl⟩

theorem State.driveAnLines_pins (s : State) (an code : Nat) : ∃ p, s.driveAnLines an code = s.withPins p := by
  unfold State.driveAnLines
  split
  · exact ⟨_, rfl⟩
  · exact ⟨s.pins, rfl⟩

namespace Kept

variable {g : Given} {s : State}

/-- A change of the drive's views that leaves its records. -/
theorem withViews (h : Kept g s) {v : Drive} (hel : keysRise s.ed.elements = true → keysRise s.ed.elView = true →
      keysRise v.elView = true) (han : keysRise s.ed.antennas = true → keysRise s.ed.anView = true →
      keysRise v.anView = true) (he : v.elements = s.ed.elements := by rfl)
    (ha : v.antennas = s.ed.antennas := by rfl) (hr : v.routes = s.ed.routes := by rfl) : Kept g (s.withEd v) := by
  refine h.withEd (fun hs => ?_) ha
  simp only [State.tablesForm, Bool.and_eq_true, State.withEd_ed, State.withEd_ss, he, ha, hr] at hs ⊢
  obtain ⟨⟨⟨⟨⟨⟨⟨h1, h2⟩, h3⟩, h4⟩, h5⟩, h6⟩, h7⟩, h8⟩ := hs
  exact ⟨⟨⟨⟨⟨⟨⟨h1, h2⟩, h3⟩, hel h1 h4⟩, han h2 h5⟩, h6⟩, h7⟩, h8⟩

theorem putElv (h : Kept g s) (id : Nat) (v : ElView) : Kept g (s.putElv id v) :=
  h.withViews (fun _ => keysRise_putKey _ _ _) fun _ hv => hv

theorem putAnv (h : Kept g s) (id : Nat) (v : AnView) : Kept g (s.putAnv id v) :=
  h.withViews (fun _ hv => hv) fun _ => keysRise_putKey _ _ _

theorem driveElLines (h : Kept g s) (el : Nat) (valid : Bool) (code : Nat) : Kept g (s.driveElLines el valid code) := by
  obtain ⟨p, hp⟩ := s.driveElLines_pins el valid code
  exact hp ▸ h.withPins p

theorem driveAnLines (h : Kept g s) (an code : Nat) : Kept g (s.driveAnLines an code) := by
  obtain ⟨p, hp⟩ := s.driveAnLines_pins an code
  exact hp ▸ h.withPins p

/-! ## POSITION reports -/

theorem setOwed (h : Kept g s) (kind : ItemKind) (item : Nat) (b : Bool) : Kept g (s.setOwed kind item b) := by
  cases kind
  · exact h.putElv _ _
  · exact h.putAnv _ _

theorem owePosition (h : Kept g s) (kind : ItemKind) (item : Nat) : Kept g (s.owePosition kind item) := by
  unfold State.owePosition
  split
  · exact (h.offer _).setOwed _ _ _
  · exact h

theorem offerPositions (l : List (ItemKind × Nat)) : ∀ {s : State}, Kept g s → Kept g (s.offerPositions l).1 := by
  induction l with
  | nil => exact fun h => h
  | cons x rest ih =>
    intro s h
    simp only [State.offerPositions]
    split
    · exact ih ((h.offer _).setOwed _ _ _)
    · exact h

theorem offerRefusals (n : Nat) : ∀ {s : State}, Kept g s → Kept g (s.offerRefusals n) := by
  induction n with
  | zero => exact fun h => h
  | succ n ih =>
    intro s h
    simp only [State.offerRefusals]
    split
    · exact h
    · split
      · exact ih ((h.offer _).withDrive)
      · exact h

theorem edSlotEmptied (h : Kept g s) : Kept g s.edSlotEmptied := by
  simp only [State.edSlotEmptied]
  split
  · exact offerRefusals _ (offerPositions _ h)
  · exact offerPositions _ h

theorem positionDropped (h : Kept g s) (p : PosReport) : Kept g (s.positionDropped p) := by
  unfold State.positionDropped
  extract_lets kind
  split
  · exact h
  · exact h.owePosition _ _

/-! ## View changes -/

theorem viewChange (h : Kept g s) (kind : ItemKind) (item : Nat) : Kept g (s.viewChange kind item) :=
  (h.judgeItem kind item).report _

theorem changeElv (h : Kept g s) (id : Nat) (v : ElView) : Kept g (s.changeElv id v) := by
  simp only [State.changeElv]
  split
  · split
    · exact h.putElv _ _
    · exact (h.putElv _ _).report _
  · exact (h.putElv _ _).viewChange _ _

theorem changeAnv (h : Kept g s) (id : Nat) (v : AnView) : Kept g (s.changeAnv id v) := by
  simp only [State.changeAnv]
  split
  · exact h.putAnv _ _
  · exact (h.putAnv _ _).viewChange _ _

theorem homeElv (h : Kept g s) (id : Nat) (state : ViewState) (pos : Option Nat) (motion : Nat) :
    Kept g (s.homeElv id state pos motion) := (h.changeElv _ _).owePosition _ _

theorem homeAnv (h : Kept g s) (id : Nat) (state : ViewState) (az : Option Nat) :
    Kept g (s.homeAnv id state az) := (h.changeAnv _ _).owePosition _ _

theorem hearPosition (h : Kept g s) (sender : Nat) (p : PosReport) : Kept g (s.hearPosition sender p) := by
  have helv : ∀ v, Kept g (s.changeElv p.item v) := h.changeElv p.item
  have hanv : ∀ v, Kept g (s.changeAnv p.item v) := h.changeAnv p.item
  have hrefused : ∀ (c : Prop) [Decidable c] (rs : List Report), Kept g (if c then s.report rs else s) := by
    intro c _ rs
    split
    · exact h.report _
    · exact h
  unfold State.hearPosition
  split
  · exact h
  · split
    · split
      · split
        · exact helv _
        · exact helv _
        · exact helv _
        · exact helv _
        · exact hrefused _ _
        · exact h
      · exact h
    · split
      · split
        · split
          · exact hanv _
          · exact hanv _
          · exact hanv _
          · exact hanv _
          · exact hrefused _ _
          · exact h
        · exact h
      · exact h

theorem markAbsent (h : Kept g s) (b : Bool) (i : ItemKind × Nat) : Kept g (s.markAbsent b i) := by
  simp only [State.markAbsent]
  split
  · split
    · exact h
    · exact (h.putElv _ _).report _
  · split
    · exact h
    · exact (h.putAnv _ _).report _

theorem markStation (h : Kept g s) (station : Nat) (b : Bool) : Kept g (s.markStation station b) := by
  unfold State.markStation
  split
  · exact h
  · exact h.foldl fun i _ _ hu => hu.markAbsent b i

/-! ## Requests -/

theorem withQueue (h : Kept g s) (kind : ItemKind) (q : List Request) : Kept g (s.withQueue kind q) := by
  cases kind
  · exact h.withDrive
  · exact h.withDrive

theorem refuse (h : Kept g s) (kind : ItemKind) (r : Request) (reason : Nat) : Kept g (s.refuse kind r reason) := by
  simp only [State.refuse]
  split
  · exact h.report _
  · split
    · exact h.offer _
    · exact h.withDrive

theorem answerAt (h : Kept g s) (kind : ItemKind) (item target : Nat) : Kept g (s.answerAt kind item target) := by
  cases kind
  · exact (h.homeElv _ _ _ _).report _
  · exact h.homeAnv _ _ _

theorem accept (h : Kept g s) (kind : ItemKind) (r : Request) : Kept g (s.accept kind r) := by
  simp only [State.accept]
  split
  · exact h.withQueue _ _
  · exact (h.withQueue _ _).answerAt _ _ _
  · exact h.answerAt _ _ _
  · exact h
  · exact h.withQueue _ _

theorem request (h : Kept g s) (kind : ItemKind) (r : Request) : Kept g (s.request kind r) := by
  unfold State.request
  split
  · split
    · exact h.refuse _ _ _
    · exact h.accept _ _
  · exact h

/-! ## Motions and slews -/

theorem startMotion (h : Kept g s) (r : Request) : Kept g (s.startMotion r) := h.withDrive.homeElv _ _ _ _

theorem driveTurn (h : Kept g s) : Kept g s.driveTurn := by
  simp only [State.driveTurn]
  split
  · split
    · exact h.withDrive.refuse _ _ _
    · split
      · exact h.withDrive.answerAt _ _ _
      · exact h.withDrive.startMotion _
  · exact h

theorem targetSensed (h : Kept g s) : Kept g s.targetSensed := by
  simp only [State.targetSensed]
  split
  · next m _ =>
    obtain ⟨p, hp⟩ := s.driveElLines_pins m.req.item true m.req.target
    rw [hp]
    exact ((((h.withPins p).withDrive).putElv _ _).homeElv _ _ _ _).report _
  · exact h

theorem motionTimeout (h : Kept g s) (valid : Bool) (code : Nat) : Kept g (s.motionTimeout valid code) := by
  simp only [State.motionTimeout]
  split
  · split
    · exact (((h.driveElLines _ _ _).withDrive).homeElv _ _ _ _).report _
    · exact h
  · exact h

theorem startSlew (h : Kept g s) (r : Request) : Kept g (s.startSlew r) := h.withDrive.homeAnv _ _ _

theorem slewTurn (h : Kept g s) : Kept g s.slewTurn := by
  simp only [State.slewTurn]
  split
  · split
    · exact h.withDrive.refuse _ _ _
    · split
      · exact h.withDrive.answerAt _ _ _
      · exact h.withDrive.startSlew _
  · exact h

theorem slewSensed (h : Kept g s) : Kept g s.slewSensed := by
  simp only [State.slewSensed]
  split
  · next w _ =>
    obtain ⟨p, hp⟩ := s.driveAnLines_pins w.req.item w.req.target
    rw [hp]
    exact ((h.withPins p).withDrive).homeAnv _ _ _
  · exact h

theorem slewTimeout (h : Kept g s) (code : Nat) : Kept g (s.slewTimeout code) := by
  simp only [State.slewTimeout]
  split
  · split
    · exact ((h.driveAnLines _ _).withDrive).homeAnv _ _ _
    · exact h
  · exact h

theorem unbidden (h : Kept g s) (kind : ItemKind) (chan : Nat) (valid : Bool) (code : Nat) :
    Kept g (s.unbidden kind chan valid code) := by
  cases kind
  · simp only [State.unbidden, State.unbiddenElement]
    split
    · split
      · exact h.withPins _
      · exact (h.withPins _).homeElv _ _ _ _
    · exact h.withPins _
  · simp only [State.unbidden, State.unbiddenAntenna]
    split
    · split
      · exact h.withPins _
      · exact (h.withPins _).homeAnv _ _ _
    · exact h.withPins _

/-! ## Idle time and the exercise -/

theorem idleEvent (h : Kept g s) : Kept g s.idleEvent := by
  unfold State.idleEvent
  split
  · refine Kept.foldl (fun el _ u hu => ?_) h.withDrive
    simp only [State.idleOne]
    split
    · exact (hu.putElv _ _).withFlags _
    · exact hu.putElv _ _
  · exact h

theorem exerciseScan (h : Kept g s) : Kept g s.exerciseScan := by
  simp only [State.exerciseScan]
  split
  · split
    · split
      · exact (h.withDrive.requestBooking _ _).withDrive
      · exact h.withDrive.requestBooking _ _
    · exact h
  · exact h

theorem abandonExercise (h : Kept g s) : Kept g s.abandonExercise := by
  unfold State.abandonExercise
  split
  · exact h.withDrive.releaseBooking _
  · exact h

theorem exerciseRequest (h : Kept g s) (x : Exercise) (target : Nat) : Kept g (s.exerciseRequest x target) :=
  h.request _ _

theorem exerciseTold (h : Kept g s) (num : Nat) (what : Told) : Kept g (s.exerciseTold num what) := by
  simp only [State.exerciseTold]
  split
  · split
    · split
      · split
        · exact (h.beginMoving _).withDrive.exerciseRequest _ _
        · exact h
      · exact h.abandonExercise
      · exact h.abandonExercise
      · exact h.abandonExercise
      · exact h.abandonExercise
      · exact h.abandonExercise
      · exact h
    · exact h
  · exact h

theorem exerciseSet (h : Kept g s) (el : Nat) : Kept g (s.exerciseSet el) := by
  unfold State.exerciseSet
  split
  · split
    · split
      · exact h
      · exact h.withDrive.exerciseRequest _ _
      · exact h.withDrive.releaseBooking _
    · exact h
  · exact h

theorem exerciseStops (h : Kept g s) (el : Nat) : Kept g (s.exerciseStops el) := by
  unfold State.exerciseStops
  split
  · split
    · exact h.abandonExercise
    · exact h
  · exact h

/-! ## Service and phases -/

theorem refuseQueued (h : Kept g s) (kind : ItemKind) (item : Nat) : Kept g (s.refuseQueued kind item) :=
  (h.withQueue _ _).foldl fun r _ _ hu => hu.refuse kind r 2

theorem serviceOut (h : Kept g s) (kind : ItemKind) (item : Nat) : Kept g (s.serviceOut kind item) := by
  simp only [State.serviceOut]
  split
  · exact h
  · cases kind
    · simp only
      split
      · exact ((h.withDrive.refuseQueued _ _).homeElv _ _ _ _).exerciseStops _
      · exact ((h.refuseQueued _ _).homeElv _ _ _ _).exerciseStops _
    · simp only
      split
      · exact (h.withDrive.refuseQueued _ _).homeAnv _ _ _
      · exact (h.refuseQueued _ _).homeAnv _ _ _

theorem serviceIn (h : Kept g s) (kind : ItemKind) (item : Nat) : Kept g (s.serviceIn kind item) := by
  unfold State.serviceIn
  split
  · cases kind
    · exact (h.putElv _ _).homeElv _ _ _ _
    · exact h.homeAnv _ _ _
  · exact h

theorem edJoin (h : Kept g s) : Kept g s.edJoin :=
  offerPositions _ (Kept.withViews (h.withDrive (v := { s.ed with
      elChan := s.homeElements.take Config.homeElementLimit
      anChan := s.homeAntennas.take Config.homeAntennaLimit
      driveQ := [], slewQ := [], motion := none, slew := none, refusals := [], exPtr := none
      exercise := none })) (fun he _ => by
    rw [keysRise_iff] at he ⊢
    exact List.pairwise_map.2 he) fun ha _ => by
    rw [keysRise_iff] at ha ⊢
    exact List.pairwise_map.2 ha)

theorem edStop (h : Kept g s) : Kept g s.edStop :=
  h.abandonExercise.withViews
    (fun _ => keysRise_map (fun p : Nat × ElView => (p.1, { p.2 with owed := false })) (fun _ => rfl) _)
    fun _ => keysRise_map (fun p : Nat × AnView => (p.1, { p.2 with owed := false })) (fun _ => rfl) _

end Kept
end Sys2Proof.Machine
end

section
/-! SUPPORT. The ramp log and the transmitter sequencer keep the forms. -/

namespace Sys2Proof.Machine

-- Each pending proof holds a stack of its own: they are checked one after the other.
set_option Elab.async false

open Sys2Proof

/-- The latest peer record is a peer's and stands in the log (R94). -/
theorem latestPeer_some {base : Nat} {l : List Intent} {y : Intent} (h : latestPeer base l = some y) :
    y ∈ l ∧ y.own = none := by
  unfold latestPeer at h
  obtain ⟨first, hfirst, rfl⟩ := Option.map_eq_some_iff.1 h
  have hmem : ∀ (m : List Intent) (b : Intent),
      m.foldl (fun b x => if intentBefore base b x then x else b) b ∈ b :: m := by
    intro m
    induction m with
    | nil => exact fun b => List.mem_singleton_self b
    | cons x rest ih =>
      intro b
      rw [List.foldl_cons]
      split
      · exact List.mem_cons_of_mem _ (ih x)
      · exact List.mem_cons.2 ((List.mem_cons.1 (ih b)).imp id fun hm => List.mem_cons_of_mem _ hm)
  have hin := List.mem_of_getLast? hfirst
  have hbest := hmem (l.filter fun x => x.own.isNone) first
  refine (List.mem_cons.1 hbest).elim (fun e => ?_) fun hm => by simpa using List.mem_filter.1 hm
  rw [e]
  simpa using List.mem_filter.1 hin

/-- Without a latest peer record the log holds own ones alone. -/
theorem latestPeer_none {base : Nat} {l : List Intent} (h : latestPeer base l = none) :
    ∀ x ∈ l, x.own.isSome = true := by
  unfold latestPeer at h
  rw [Option.map_eq_none_iff, List.getLast?_eq_none_iff, List.filter_eq_nil_iff] at h
  intro x hx
  simpa [Option.isSome_iff_ne_none] using h x hx

/-- The record made room for leaves the log shorter. -/
theorem length_withoutPeer {l : List Intent} {y : Intent} (hy : y ∈ l) (hown : y.own = none) :
    (l.filter fun x => !(x.own.isNone && x.station == y.station && x.num == y.num)).length < l.length :=
  List.length_filter_lt_length_iff_exists.2 ⟨y, hy, by simp [hown]⟩

theorem RampLog.intentBound_filter {r v : RampLog} {keep : Intent → Bool} (hv : v.intents = r.intents.filter keep)
    (h : r.intentBound = true) : v.intentBound = true := by
  rw [RampLog.intentBound_iff] at h ⊢
  rw [hv]
  exact h.imp (Nat.le_trans (List.length_filter_le _ _)) fun hall x hx => hall x (List.mem_filter.1 hx).1

/-- What a ramp-up starts from: the first UP of a plan takes its commanded power, a later one what is held (R162). -/
def State.rampFrom (s : State) (power : Nat) : State :=
  if s.ts.upSent then s
  else s.withTs { s.ts with
    p := power, ceiling := power, foldCount := 0, foldT := none, floorT := none, recT := none }

/-- UP is sent for what is held, and the sequencer ramps (R162). -/
def State.sendUp (s : State) : State :=
  ((s.send (.up s.ts.p)).withTs { (s.send (.up s.ts.p)).ts with
    atpT := some (s.cfg.tRMP + s.cfg.tGRC), upSent := true }).setSeq .ramping

theorem State.rampUp_tuned (s : State) (power : Nat) (h : s.ts.state = .tuned) :
    s.rampUp power = (s.rampFrom power).sendUp := by
  rw [State.rampUp, if_pos h]
  simp only [State.rampFrom, State.sendUp]
  rfl

namespace Kept

variable {g : Given} {s : State}

/-! ## The ramp log -/

/-- A change of the ramp log that leaves its records. -/
theorem withRequest (h : Kept g s) {v : RampLog} (hv : v.intents = s.rl.intents := by rfl) : Kept g (s.withRl v) :=
  h.withRl fun hs => by rw [RampLog.intentBound_iff] at hs ⊢; rw [hv]; exact hs

theorem showIntent (h : Kept g s) (id : Nat) (i : Option (Nat × Nat)) : Kept g (s.showIntent id i) := h.updPlan

theorem hideIntent (h : Kept g s) (num : Nat) : Kept g (s.hideIntent num) :=
  h.mapPlans rfl fun p => by
    split
    · split
      · exact ⟨rfl, rfl, rfl, rfl, rfl, id⟩
      · exact ⟨rfl, rfl, rfl, rfl, rfl, id⟩
    · exact ⟨rfl, rfl, rfl, rfl, rfl, id⟩

theorem filterIntents (h : Kept g s) (keep : Intent → Bool) : Kept g (s.filterIntents keep) :=
  h.withRl (RampLog.intentBound_filter rfl)

/-- A record comes in where there is room for it, or among own records alone. -/
theorem insertIntent (h : Kept g s) {x : Intent} (hroom : g.intents → s.rl.intents.length < 32
      ∨ (x.own.isSome = true ∧ ∀ y ∈ s.rl.intents, y.own.isSome = true)) : Kept g (s.insertIntent x) := by
  refine ⟨h.queued, h.map, h.tables, h.stop, h.plans, h.own, fun hg => ?_, h.power, h.floor⟩
  rw [RampLog.intentBound_iff]
  refine (hroom hg).imp (fun hlen => ?_) fun ⟨hx, hall⟩ y hy => ?_
  · show (insertBy _ _ _).length ≤ 32
    rw [length_insertBy]
    exact hlen
  · rcases (mem_insertBy _ _ _ _).1 hy with rfl | hy
    · exact hx
    · exact hall y hy

theorem offerCancel (h : Kept g s) (num : Nat) : Kept g (s.offerCancel num) := by
  simp only [State.offerCancel]
  split
  · exact h.offer _
  · exact h.withRequest

theorem withdrawIntent (h : Kept g s) : Kept g s.withdrawIntent := by
  simp only [State.withdrawIntent]
  split
  · exact h
  · split
    · exact ((h.filterIntents _).hideIntent _).withRequest
    · exact ((h.filterIntents _).hideIntent _).offerCancel _

theorem cancelPick (h : Kept g s) : Kept g s.cancelPick := h.withdrawIntent.withRequest

/-- Room made for an own intent is room, or leaves own records alone (R94). -/
theorem roomForOwn (h : Kept g s) : Kept g s.roomForOwn ∧ (g.intents → s.roomForOwn.rl.intents.length < 32
    ∨ ∀ y ∈ s.roomForOwn.rl.intents, y.own.isSome = true) := by
  unfold State.roomForOwn
  split
  · next hlen => exact ⟨h, fun _ => .inl hlen⟩
  · split
    · next y hy =>
      obtain ⟨hmem, hown⟩ := latestPeer_some hy
      refine ⟨h.filterIntents _, fun hg => ?_⟩
      rcases (RampLog.intentBound_iff _).1 (h.intents hg) with hlen | hall
      · exact .inl (Nat.lt_of_lt_of_le (length_withoutPeer hmem hown) hlen)
      · exact absurd (hall y hmem) (by simp [hown])
    · next hnone => exact ⟨h, fun _ => .inr (latestPeer_none hnone)⟩

theorem offerIntent (h : Kept g s) (q : PickReq) (t : Nat) : Kept g (s.offerIntent q t) := by
  simp only [State.offerIntent]
  split
  · obtain ⟨hroom, hlen⟩ := (h.offer (.rampIntent (nextNumber s.rl.numCtr s.intentNumbersUsed) t)).roomForOwn
    exact (((hroom.insertIntent fun hg => (hlen hg).imp id fun hall => ⟨rfl, hall⟩).withRequest).showIntent _ _).report _
  · exact (h.withRequest).showIntent _ _

theorem pickWithin (h : Kept g s) (q search : PickReq) : Kept g (s.pickWithin q search) := by
  cases hfind : s.findTick (search.raise s.now) with
  | some t =>
    rw [s.pickWithin_some q search t hfind]
    exact h.offerIntent q t
  | none =>
    rw [s.pickWithin_none q search hfind]
    exact (h.withRequest).report _

theorem pickFrom (h : Kept g s) (q : PickReq) : Kept g (s.pickFrom q) := h.pickWithin q q

theorem requestPick (h : Kept g s) (q : PickReq) : Kept g (s.requestPick q) := by
  unfold State.requestPick
  split
  · exact h.withdrawIntent.pickFrom q
  · exact h.report _

theorem pickAgain (h : Kept g s) : Kept g s.pickAgain := by
  unfold State.pickAgain
  split
  · exact h.pickFrom _
  · exact h

/-- A change of the records one by one that makes none a peer's. -/
theorem mapIntents (h : Kept g s) {v : RampLog} {f : Intent → Intent} (hv : v.intents = s.rl.intents.map f)
    (hf : ∀ x, x.own.isSome = true → (f x).own.isSome = true) : Kept g (s.withRl v) :=
  h.withRl fun hs => by
    rw [RampLog.intentBound_iff] at hs ⊢
    rw [hv, List.length_map]
    refine hs.imp id fun hall x hx => ?_
    obtain ⟨y, hy, rfl⟩ := List.mem_map.1 hx
    exact hf y (hall y hy)

theorem intentSent (h : Kept g s) (num order : Nat) : Kept g (s.intentSent num order) := by
  unfold State.intentSent
  split
  · exact h.withRequest.offerCancel _
  · split
    · exact h
    · split
      · refine h.mapIntents rfl fun x hx => ?_
        unfold Intent.announce
        split
        · rfl
        · exact hx
      · exact (((h.filterIntents _).hideIntent _).offerCancel _).pickAgain

theorem intentDropped (h : Kept g s) (num : Nat) : Kept g (s.intentDropped num) := by
  unfold State.intentDropped
  split
  · exact h.withRequest
  · split
    · exact h
    · exact ((h.filterIntents _).hideIntent _).pickAgain

theorem offerOwedCancels (n : Nat) : ∀ {s : State}, Kept g s → Kept g (s.offerOwedCancels n) := by
  induction n with
  | zero => exact fun h => h
  | succ n ih =>
    intro s h
    simp only [State.offerOwedCancels]
    split
    · exact h
    · split
      · exact ih ((h.offer _).withRequest)
      · exact h

theorem rampSlotEmptied (h : Kept g s) : Kept g s.rampSlotEmptied := by
  have howed := offerOwedCancels Config.owedCancelSize h
  simp only [State.rampSlotEmptied]
  split
  · split
    · exact howed.pickFrom _
    · exact howed
  · exact howed

theorem tuneEnded (h : Kept g s) (q : PickReq) : Kept g (s.tuneEnded q) := by
  unfold State.tuneEnded
  split
  · split
    · exact h
    · exact h.requestPick q
  · split
    · split
      · exact h
      · exact h.requestPick q
    · exact h.requestPick q

theorem startIntent (h : Kept g s) (num : Nat) : Kept g (s.startIntent num) :=
  h.mapIntents rfl fun x hx => by
    split
    · rfl
    · exact hx

theorem failStartCheck (h : Kept g s) : Kept g s.failStartCheck := by
  simp only [State.failStartCheck]
  split
  · exact h.withdrawIntent.pickWithin _ _
  · exact h.withdrawIntent

/-- A record that takes the place of one of its log is no longer log. -/
theorem replaceIntent (h : Kept g s) {x y : Intent} {keep : Intent → Bool} (hy : y ∈ s.rl.intents)
    (hown : y.own = none) (hkeep : keep y = false) : Kept g ((s.filterIntents keep).insertIntent x) := by
  refine (h.filterIntents keep).insertIntent fun hg => .inl ?_
  rcases (RampLog.intentBound_iff _).1 (h.intents hg) with hlen | hall
  · exact Nat.lt_of_lt_of_le (List.length_filter_lt_length_iff_exists.2 ⟨y, hy, by simp [hkeep]⟩) hlen
  · exact absurd (hall y hy) (by simp [hown])

theorem hearIntent (h : Kept g s) (sender num t order : Nat) : Kept g (s.hearIntent sender num t order) := by
  simp only [State.hearIntent]
  split
  · exact h
  · split
    · next hsame =>
      obtain ⟨y, hy, hkey⟩ := List.any_eq_true.1 hsame
      simp only [Bool.and_eq_true, Option.isNone_iff_eq_none, beq_iff_eq] at hkey
      exact h.replaceIntent hy hkey.1.1 (by simp [hkey])
    · split
      · next hlen => exact h.insertIntent fun _ => .inl hlen
      · split
        · next y hy =>
          obtain ⟨hmem, hown⟩ := latestPeer_some hy
          split
          · exact h
          · exact h.replaceIntent hmem hown (by simp [hown])
        · exact h

theorem hearCancel (h : Kept g s) (sender num : Nat) : Kept g (s.hearCancel sender num) := h.filterIntents _

theorem expireIntents (h : Kept g s) : Kept g s.expireIntents := by
  have hgone : ∀ l : List Intent, Kept g (l.foldl (fun s x => s.hideIntent x.num)
      (s.filterIntents fun x => !s.intentExpired x)) :=
    fun l => (h.filterIntents _).foldl fun x _ _ hu => hu.hideIntent x.num
  simp only [State.expireIntents]
  split
  · exact (hgone _).withRequest
  · exact hgone _

theorem dropPeerIntents (h : Kept g s) (station : Nat) : Kept g (s.dropPeerIntents station) := h.filterIntents _

theorem rampLinkFault (h : Kept g s) : Kept g s.rampLinkFault :=
  (h.mapPlans (f := fun p => { p with intent := none }) (v := { s.cp with
    plans := s.cp.plans.map fun p => { p with intent := none } }) rfl
    fun _ => ⟨rfl, rfl, rfl, rfl, rfl, id⟩).withRl (RampLog.intentBound_filter rfl)

/-! ## State changes of the sequencer -/

theorem retime (h : Kept g s) : Kept g s.retime := h.withTimers

/-- The sequencer enters a state other than RAMPING and ON-AIR. -/
theorem setSeq (h : Kept g s) {st : SeqState} (hst : st ≠ .ramping ∧ st ≠ .onAir) : Kept g (s.setSeq st) :=
  ((h.withState (.inl hst)).retime).releaseTest

theorem send (h : Kept g s) (m : TxMsg) : Kept g (s.send m) := h.withTimers

theorem dropTrips (h : Kept g s) : Kept g s.dropTrips := h.withTimers

theorem enterLockout (h : Kept g s) : Kept g s.enterLockout :=
  ((Kept.cancelPick ((h.send .down).withTimers)).setSeq (by decide)).report _

theorem enterTripped (h : Kept g s) : Kept g s.enterTripped := ((h.withTimers).setSeq (by decide)).report _

theorem trip (h : Kept g s) (c : TripCause) : Kept g (s.trip c) := by
  have hlogged := (((h.withTimers (v := s.ts.stopTimers)).dropTrips).withTimers
    (v := { (s.withTs s.ts.stopTimers).dropTrips.ts with
      tripLog := (s.withTs s.ts.stopTimers).dropTrips.ts.tripLog ++ [((s.withTs s.ts.stopTimers).dropTrips.now, c)] }))
  simp only [State.trip]
  split
  · exact hlogged.enterLockout
  · exact hlogged.enterTripped

theorem tripHold (h : Kept g s) : Kept g s.tripHold := by
  simp only [State.tripHold]
  split
  · exact h.trip _
  · exact (h.trip _).send _

theorem permitTest (h : Kept g s) : Kept g s.permitTest := by
  have hpermit : ∀ b : Bool, Kept g (if b then s else s.trip .permitLoss) := by
    intro b
    split
    · exact h
    · exact h.trip _
  unfold State.permitTest
  split
  · exact hpermit _
  · exact hpermit _
  · exact hpermit _
  · exact hpermit _
  · exact h

/-! ## Tune, ramp-up, ramp-down -/

/-- A tune command sets aside what UP had been sent for (R160, R162). -/
theorem commandTune (h : Kept g s) (freq program t : Nat) (pos : Option (Nat × Nat × Nat)) :
    Kept g (s.commandTune freq program t pos) := by
  have htuned : ∀ u : State, Kept g u → u.ts.state = .idle → Kept g (((u.withTs { u.ts with
      tuneT := some (t + u.cfg.tGRC), tuneFailed := false, upSent := false }).setSeq .tuning).report [.permitTest]) := by
    intro u hu hidle
    refine ((hu.withTs (v := { u.ts with
      tuneT := some (t + u.cfg.tGRC), tuneFailed := false, upSent := false }) (fun hg => hu.power hg)
      fun _ hv => ?_).setSeq (by decide)).report _
    rw [hidle] at hv
    simp at hv
  unfold State.commandTune
  split
  · next hidle =>
    cases pos with
    | some x => exact htuned _ (((h.send _).send _).send _) hidle
    | none => exact htuned _ ((h.send _).send _) hidle
  · exact h
  · exact h.report _

theorem takeTuned (h : Kept g s) (tune load band : Nat) : Kept g (s.takeTuned tune load band) := by
  have htuned : Kept g ((s.withTs { s.ts with tuneT := none }).setSeq .tuned) := (h.withTimers).setSeq (by decide)
  simp only [State.takeTuned]
  split
  · split
    · exact (htuned.storeTune _ _ _ _ _).report _
    · exact htuned.report _
  · exact h

theorem takeTuneFail (h : Kept g s) (code : Nat) : Kept g (s.takeTuneFail code) := by
  unfold State.takeTuneFail
  split
  · exact (h.withTimers).report _
  · exact h

theorem tuneTimeout (h : Kept g s) : Kept g s.tuneTimeout := by
  unfold State.tuneTimeout
  split
  · exact (h.withTimers).report _
  · exact h

/-- The sequencer enters a state with P held at or above PFLR. -/
theorem setSeqHeld (h : Kept g s) (st : SeqState) (hp : g.floor → g.cfg.pFlr ≤ s.ts.p) : Kept g (s.setSeq st) :=
  ((h.withTs (v := { s.ts with state := st }) (fun hg => h.power hg) fun hg _ => hp hg).retime).releaseTest

theorem sendUp (h : Kept g s) (hp : g.floor → g.cfg.pFlr ≤ s.ts.p) : Kept g s.sendUp :=
  ((h.send _).withTs (v := { (s.send (.up s.ts.p)).ts with atpT := some (s.cfg.tRMP + s.cfg.tGRC), upSent := true })
    (fun hg => h.power hg) fun hg _ => hp hg).setSeqHeld .ramping hp

/-- UP under a power at or above PFLR (R162). -/
theorem rampUp (h : Kept g s) (power : Nat) (hpower : g.floor → g.cfg.pFlr ≤ power) : Kept g (s.rampUp power) := by
  by_cases htuned : s.ts.state = .tuned
  · rw [s.rampUp_tuned power htuned]
    refine Kept.sendUp ?_ ?_ <;> unfold State.rampFrom <;> split
    · exact h
    · exact h.withTs (fun _ => decide_eq_true (Nat.le_refl _)) fun hg _ => hpower hg
    · next hsent => exact fun hg => (h.floor hg).2.2.1 (.inr (.inr hsent))
    · exact hpower
  · rw [State.rampUp, if_neg htuned]
    exact h

theorem rampDown (h : Kept g s) : Kept g s.rampDown := by
  have hdown : Kept g (((s.send .down).withTs { (s.send .down).ts.stopTimers with
      rfoffT := some (s.send .down).offLimit, rfOffTaken := false }).setSeq .down) :=
    ((h.send _).withTimers).setSeq (by decide)
  unfold State.rampDown
  split
  · exact hdown
  · exact hdown
  · exact hdown
  · exact hdown
  · exact h

theorem downTest (h : Kept g s) : Kept g s.downTest := by
  unfold State.downTest
  split
  · exact (h.withTimers).setSeq (by decide)
  · exact h

theorem takeRfOff (h : Kept g s) : Kept g s.takeRfOff := by
  unfold State.takeRfOff
  split
  · exact (h.withTimers).downTest
  · exact h

theorem lineError (h : Kept g s) : Kept g s.lineError := h.withTimers

theorem rfOffTimeout (h : Kept g s) : Kept g s.rfOffTimeout := by
  unfold State.rfOffTimeout
  split
  · split
    · exact h.tripHold
    · exact (Kept.lineError (h.withTimers)).setSeq (by decide)
  · exact h

/-! ## Fold-back and recovery -/

/-- A fold from above PFLR lands at or above PFLR and not above P (R168). -/
theorem fold (h : Kept g s) (hp : s.cfg.pFlr < s.ts.p) : Kept g s.fold := by
  have hfolded : ∀ v : Sequencer, v.p = max s.cfg.pFlr (s.ts.p - foldStep s.ts.p s.cfg.fold) →
      v.ceiling = s.ts.ceiling → Kept g (s.withTs v) := by
    intro v hv hc
    refine h.withTs (fun hg => ?_) fun hg _ => ?_
    · have hbound := of_decide_eq_true (h.power hg)
      exact decide_eq_true (by rw [hv, hc]; omega)
    · rw [hv, (h.floor hg).1]
      exact Nat.le_max_left _ _
  simp only [State.fold]
  split
  · exact (Kept.send (hfolded { s.ts with
      p := max s.cfg.pFlr (s.ts.p - foldStep s.ts.p s.cfg.fold), foldCount := min 65535 (s.ts.foldCount + 1)
      foldT := some s.cfg.tFLD, recT := none } rfl rfl) _).updPlan
  · exact Kept.send (hfolded { s.ts with
      p := max s.cfg.pFlr (s.ts.p - foldStep s.ts.p s.cfg.fold), foldCount := min 65535 (s.ts.foldCount + 1)
      foldT := some s.cfg.tFLD, recT := none } rfl rfl) _

theorem foldRules (h : Kept g s) (q : Nat) : Kept g (s.foldRules q) := by
  simp only [State.foldRules]
  split
  · split
    · next hp =>
      split
      · exact Kept.fold (h.withTimers) hp
      · exact h.withTimers
    · exact h.withTimers
  · split
    · exact h.withTimers
    · split
      · exact h.withTimers
      · exact h.withTimers

theorem takeMeter (h : Kept g s) (pf pr : Nat) : Kept g (s.takeMeter pf pr) := by
  have hjudged : ∀ u : State, Kept g u → Kept g (if u.cfg.pfMin ≤ pf then
      if u.cfg.qTrp ≤ reflectedRatio pf pr then u.trip .reflected
      else if u.ts.state = .tuning then u else u.foldRules (reflectedRatio pf pr)
    else if u.cfg.prAbs ≤ pr then u.trip .reflectedAbs
    else u.withTs { u.ts with floorT := none, recT := none }) := by
    intro u hu
    split
    · split
      · exact hu.trip _
      · split
        · exact hu
        · exact hu.foldRules _
    · split
      · exact hu.trip _
      · exact hu.withTimers
  unfold State.takeMeter
  split
  · exact hjudged _ h.withTimers
  · exact h

theorem meterLoss (h : Kept g s) : Kept g s.meterLoss := by
  unfold State.meterLoss
  split
  · split
    · exact h.withTimers
    · exact h
  · exact h

theorem meterTimeout (h : Kept g s) : Kept g s.meterTimeout := by
  unfold State.meterTimeout
  split
  · split
    · exact h.trip _
    · exact h
  · exact h

/-- A recovery step raises P, at most to its ceiling (R170). -/
theorem recover (h : Kept g s) : Kept g s.recover := by
  simp only [State.recover]
  split
  · refine Kept.send (h.withTs (fun _ => decide_eq_true (Nat.min_le_left _ _)) fun hg hv => ?_) _
    have hfloor := (h.floor hg).2.2.1 hv
    have hbound := of_decide_eq_true (h.power (g.powerOfFloor hg))
    show g.cfg.pFlr ≤ min s.ts.ceiling (s.ts.p + foldStep s.ts.p s.cfg.fold)
    omega
  · exact h

theorem takeFault (h : Kept g s) (c : FaultCause) : Kept g (s.takeFault c) := by
  have hfault : Kept g (s.withTs { s.ts with lastFault := some (c, s.now) }) := h.withTimers
  simp only [State.takeFault]
  split
  · exact hfault.trip _
  · exact hfault.trip _
  · exact hfault.trip _
  · exact hfault.trip _
  · exact hfault

theorem strayTimeout (h : Kept g s) : Kept g s.strayTimeout := by
  simp only [State.strayTimeout]
  split
  · split
    · exact (Kept.send (h.withTimers) _).retime
    · exact Kept.tripHold (h.withTimers)
  · exact h

/-! ## Restart, RF-sense, program select -/

theorem abandonRestart (h : Kept g s) : Kept g s.abandonRestart := (h.withTimers).report _

theorem restartTest (h : Kept g s) : Kept g s.restartTest := by
  unfold State.restartTest
  split
  · split
    · split
      · exact h.abandonRestart
      · split
        · split
          · exact h.abandonRestart
          · split
            · exact Kept.requestPick (h.withTimers) _
            · exact h
        · exact h.abandonRestart
    · exact h.abandonRestart
  · exact h

theorem restartDelayEnds (h : Kept g s) : Kept g s.restartDelayEnds := by
  unfold State.restartDelayEnds
  split
  · exact Kept.restartTest (h.withTimers)
  · exact h

theorem restartPicked (h : Kept g s) (plan : Nat) : Kept g (s.restartPicked plan) := by
  unfold State.restartPicked
  split
  · split
    · exact (Kept.setSeq (h.withTimers) (by decide)).report _
    · exact h
  · exact h

theorem leaveTripped (h : Kept g s) : Kept g s.leaveTripped := by
  unfold State.leaveTripped
  extract_lets done
  split
  · exact Kept.setSeq (h.withTimers) (by decide)
  · exact h

theorem rfSense (h : Kept g s) (high : Bool) : Kept g (s.rfSense high) := by
  unfold State.rfSense
  split
  · exact h
  · exact (((h.withPins _).retime).releaseTest.downTest).report _

theorem selectProgram (h : Kept g s) (program : Nat) : Kept g (s.selectProgram program) := h.withTimers

/-- A commanded power at or above PFLR is handed over (R179). -/
theorem handPower (h : Kept g s) (power : Nat) (hpower : g.floor → g.cfg.pFlr ≤ power) :
    Kept g (s.handPower power) := by
  have hhanded : Kept g (s.withTs { s.ts with ceiling := power, p := min s.ts.p power, foldCount := 0 }) :=
    h.withTs (fun _ => decide_eq_true (Nat.min_le_right _ _)) fun hg hv =>
      Nat.le_min.2 ⟨(h.floor hg).2.2.1 hv, hpower hg⟩
  simp only [State.handPower]
  split
  · exact hhanded.send _
  · exact hhanded

theorem clearLockout (h : Kept g s) : Kept g s.clearLockout := by
  unfold State.clearLockout
  split
  · exact Kept.setSeq (h.withTimers) (by decide)
  · exact h

theorem tsRestart (h : Kept g s) : Kept g s.tsRestart := by
  refine Kept.retime (h.withTs (fun _ => rfl) fun _ hv => ?_)
  cases hst : s.ts.state <;> rw [hst] at hv <;> simp at hv
  split at hv <;> simp at hv

end Kept
end Sys2Proof.Machine
end

section
/-! SUPPORT. What leaves the planner's record as it is, and the planner's operations keep the forms. -/

namespace Sys2Proof.Machine

-- Each pending proof holds a stack of its own: they are checked one after the other.
set_option Elab.async false

open Sys2Proof

/-! ## The planner is left as it is -/

section
variable (s : State)

@[simp] theorem State.offer_cp (f : Frame) : (s.offer f).1.cp = s.cp := by rw [s.offer_other]; rfl

@[simp] theorem State.updOwn_cp (num : Nat) (f : OwnBooking → OwnBooking) : (s.updOwn num f).cp = s.cp := rfl

@[simp] theorem State.offerRelease_cp (num : Nat) : (s.offerRelease num).cp = s.cp := by
  simp only [State.offerRelease]
  (repeat' split) <;> simp

@[simp] theorem State.removeOwn_cp (b : OwnBooking) (release : Bool) : (s.removeOwn b release).cp = s.cp := by
  simp only [State.removeOwn]
  (repeat' split) <;> simp

@[simp] theorem State.endOwn_cp (b : OwnBooking) (w : Told) : (s.endOwn b w).cp = s.cp := by
  simp [State.endOwn, State.tell]

theorem foldl_cp {α : Type} {f : State → α → State} (hf : ∀ u x, (f u x).cp = u.cp) (l : List α) :
    ∀ s : State, (l.foldl f s).cp = s.cp := by
  induction l with
  | nil => exact fun _ => rfl
  | cons x l ih => exact fun s => (ih _).trans (hf s x)

@[simp] theorem State.releaseTest_cp : s.releaseTest.cp = s.cp := by
  unfold State.releaseTest
  split
  · rfl
  · exact foldl_cp (fun u b => u.endOwn_cp b _) _ _

@[simp] theorem State.releaseBooking_cp (num : Nat) : (s.releaseBooking num).cp = s.cp := by
  unfold State.releaseBooking
  split
  · rfl
  · split <;> simp

@[simp] theorem State.requestBooking_cp (req : Requester) (d : Desc) : (s.requestBooking req d).1.cp = s.cp := by
  simp only [State.requestBooking]
  split
  · rfl
  · split <;> simp

@[simp] theorem State.judgeOne_cp (b : OwnBooking) : (s.judgeOne b).cp = s.cp := by
  unfold State.judgeOne
  (repeat' split) <;> simp [State.tell]

@[simp] theorem State.handOver_cp (pred cont : Nat) : (s.handOver pred cont).1.cp = s.cp := by
  simp only [State.handOver, State.offerAir]
  (repeat' split) <;> simp

@[simp] theorem State.retime_cp : s.retime.cp = s.cp := rfl

@[simp] theorem State.setSeq_cp (st : SeqState) : (s.setSeq st).cp = s.cp := by simp [State.setSeq]

@[simp] theorem State.rampDown_cp : s.rampDown.cp = s.cp := by
  unfold State.rampDown
  split <;> simp [State.send]

@[simp] theorem State.releasePin_cp (i w : Nat) : (s.releasePin i w).cp = s.cp := rfl

@[simp] theorem State.logRecord_cp (r : AirRecord) : (s.logRecord r).cp = s.cp := by
  unfold State.logRecord
  split <;> rfl

theorem State.logRecord_withCp (r : AirRecord) (v : Planner) :
    (s.logRecord r).withCp v = (s.withCp v).logRecord r := by
  unfold State.logRecord
  by_cases hroom : s.sp.airLog.length < Config.airLogSize
  · rw [if_pos hroom, if_pos (show (s.withCp v).sp.airLog.length < Config.airLogSize from hroom)]
    rfl
  · rw [if_neg hroom, if_neg (show ¬ (s.withCp v).sp.airLog.length < Config.airLogSize from hroom)]
    rfl

/-- A plan put into the queue is the only one under its id. -/
theorem State.eq_of_mem_putPlan {s : State} {p q : Plan} (hq : q ∈ (s.putPlan p).cp.plans) (hid : q.id = p.id) :
    q = p := by
  obtain ⟨x, -, rfl⟩ := List.mem_map.1 hq
  split at hid
  · next he => rw [if_pos he]
  · next he => exact absurd hid he

/-- The current plan is one of the queue. -/
theorem State.currentPlan_some {s : State} {p : Plan} (h : s.currentPlan = some p) :
    p ∈ s.cp.plans ∧ p.state.current = true :=
  ⟨List.mem_of_find?_eq_some h, List.find?_some (p := fun p : Plan => p.state.current) h⟩

theorem State.currentPlan_none {s : State} (h : s.currentPlan = none) :
    ∀ q ∈ s.cp.plans, ¬ q.state.current = true := List.find?_eq_none.1 h

theorem State.id_ne_freePlanId (hroom : s.cp.plans.length < Config.planQueueSize) :
    ∀ q ∈ s.cp.plans, q.id ≠ s.freePlanId :=
  fun q hq => by simpa using List.find?_eq_none.1 (s.plan_freePlanId hroom) q hq

/-- On a serviceable route a plan that can be aired commands a power at or above PFLR (R133, R140). -/
theorem State.le_routePower {g : Given} {s : State} {p : Plan} {steps : List (Nat × Nat)} (hcfg : s.cfg = g.cfg)
    (hant : s.ed.antennas = g.antennas) (hairs : g.airs p) (hserves : s.serviceable p.ant steps = true) :
    g.cfg.pFlr ≤ s.routePower p steps := by
  unfold Given.airs at hairs
  simp only [State.serviceable, Bool.and_eq_true, List.all_eq_true, decide_eq_true_eq] at hserves
  simp only [le_leastOf, State.routePower, State.antenna, hcfg, hant, List.mem_cons, List.not_mem_nil, or_false,
    forall_eq_or_imp, forall_eq] at hairs ⊢
  refine ⟨hairs.1, hairs.2.1, hairs.2.2, fun x hx => ?_⟩
  obtain ⟨st, hst, rfl⟩ := List.mem_map.1 hx
  exact hcfg ▸ (hserves.2 st hst).2

/-- A plan set on such a route commands a power at or above PFLR. -/
theorem State.planOn_powered {g : Given} {s : State} {p : Plan} {steps : List (Nat × Nat)} (id : Nat)
    (hcfg : s.cfg = g.cfg) (hant : s.ed.antennas = g.antennas) (hairs : g.airs p)
    (hserves : s.serviceable p.ant steps = true) : g.powered (s.planOn p id steps).1 :=
  ⟨hairs, _, rfl, State.le_routePower hcfg hant hairs hserves⟩

theorem State.serviceable_of_routeFree {s : State} {p : Plan} {steps : List (Nat × Nat)} {start : Nat}
    (h : s.routeFree p steps start = true) : s.serviceable p.ant steps = true := by
  simp only [State.routeFree, Bool.and_eq_true] at h
  exact h.1.1.1.1

end

/-- Where the bound of STOPPING was given, the station is not in it. -/
def Going (g : Given) (s : State) : Prop := g.stop → s.sp.phase ≠ .stopping

theorem Going.of_clock {g : Given} {s t : State} (h : Going g s) (ht : t.clock = s.clock := by simp) : Going g t :=
  fun hg => State.phase_of_clock ht ▸ h hg

namespace Kept
variable {g : Given} {s : State}

/-! ## Records and plans that leave -/

theorem logRecord (h : Kept g s) (r : AirRecord) : Kept g (s.logRecord r) := by
  unfold State.logRecord
  split
  · exact h.withSp (.inl rfl)
  · exact (h.withSp (v := { s.sp with airLog := s.sp.airLog.drop 1 ++ [r], hold := false }) (.inl rfl)).withFlags _

theorem withAdhoc (h : Kept g s) {v : Schedule} (hv : keysRise s.ss.adhoc = true → keysRise v.adhoc = true)
    (ha : v.active.entries = s.ss.active.entries := by rfl) (hp : v.pending.entries = s.ss.pending.entries := by rfl) :
    Kept g (s.withSs v) :=
  h.withSs fun ht => by
    simp only [State.tablesForm, Bool.and_eq_true] at ht ⊢
    obtain ⟨⟨hrest, hpending⟩, hadhoc⟩ := ht
    refine ⟨⟨?_, hp ▸ hpending⟩, hv hadhoc⟩
    exact ha ▸ hrest

/-- A plan leaves a queue that keeps the bounds without it. -/
theorem planLeaves_of {p : Plan}
    (h : Kept g (s.withCp { s.cp with plans := s.cp.plans.filter fun x => x.id != p.id })) :
    Kept g (s.planLeaves p) := by
  simp only [State.planLeaves]
  refine Kept.report ?_ _
  split
  · exact h.withAdhoc (keysRise_dropKey _ _)
  · exact h

theorem planLeaves (h : Kept g s) (p : Plan) : Kept g (s.planLeaves p) := planLeaves_of h.filterPlans

theorem dropPin (h : Kept g s) (p : Plan) : Kept g (s.dropPin p) := by
  unfold State.dropPin
  split
  · exact (h.releasePin _ _).updPlan
  · exact h

theorem dropBooking (h : Kept g s) (p : Plan) : Kept g (s.dropBooking p) := by
  unfold State.dropBooking
  split
  · exact (h.updPlan (f := fun p => { p with booking := none })
      fun _ => ⟨rfl, rfl, rfl, rfl, rfl, fun _ => rfl⟩).releaseBooking _
  · exact h

theorem dropPlan (h : Kept g s) (p : Plan) (out : Option (AirOutcome × Option AirCause)) :
    Kept g (s.dropPlan p out) := by
  have hgone := (h.dropBooking p).dropPin p
  simp only [State.dropPlan]
  split
  · exact (hgone.logRecord _).planLeaves p
  · exact hgone.planLeaves p

/-! ## Route choice (R140, R141) -/

theorem blockPlan (h : Kept g s) {p : Plan} (hgo : Going g s) (hp : g.floor → g.canAir p) :
    Kept g (s.blockPlan p) :=
  h.putWaiting hgo rfl fun hg => (hp hg).of_waiting rfl rfl rfl fun _ => ⟨.inr rfl, fun e => e⟩

/-- The plan just put into the queue takes its booking. -/
theorem updBooked (h : Kept g s) {p : Plan} (hput : ∀ q ∈ s.cp.plans, q.id = p.id → q = p) (hgo : Going g s)
    (hp : g.floor → g.powered p) {f : Plan → Plan} (hid : ∀ q, (f q).id = q.id) (hw : (f p).state.waiting = true)
    (hf : g.powered p → g.powered (f p)) : Kept g (s.updPlan p.id f) :=
  h.changePlan (fun q _ => hid q) (fun hg hphase => absurd hphase (hgo hg))
    (fun _ q hq he => .inl (hput q hq he ▸ hw))
    fun hg q hq he => (hput q hq he ▸ hf (hp hg)).canAir

theorem claimFor (h : Kept g s) {p : Plan} (d : Desc) (hput : ∀ q ∈ s.cp.plans, q.id = p.id → q = p)
    (hgo : Going g s) (hp : g.floor → g.powered p) : Kept g (s.claimFor p d) := by
  have hasked := h.requestBooking (.plan p.id) d
  have hgone : Going g (s.requestBooking (.plan p.id) d).1 := hgo.of_clock
  simp only [State.claimFor]
  split
  · refine hasked.updBooked ?_ hgone hp (fun _ => rfl) rfl fun e => e
    rw [State.requestBooking_cp]
    exact hput
  · exact hasked.report _
  · exact hasked.report _
  · exact hasked.blockPlan hgone fun hg => (hp hg).canAir

theorem chooseRoute (h : Kept g s) {p : Plan} (hgo : Going g s) (hp : g.floor → g.canAir p) :
    Kept g (s.chooseRoute p) := by
  simp only [State.chooseRoute]
  split
  · exact h.blockPlan hgo fun hg => (hp hg).alike ⟨rfl, rfl, rfl, rfl, rfl, fun e => e⟩
  · split
    · next x hx =>
      obtain ⟨hmem, hfree⟩ := List.mem_filter.1 (List.mem_of_find?_eq_some hx)
      obtain ⟨r, -, rfl⟩ := List.mem_map.1 hmem
      have hpowered : g.floor → g.powered (s.planOn p r.1 r.2.steps).1 := fun hg =>
        State.planOn_powered _ (h.floor hg).1 (h.floor hg).2.1 (hp hg).airs (State.serviceable_of_routeFree hfree)
      exact Kept.claimFor ((h.putWaiting hgo rfl fun hg => (hpowered hg).canAir).report _) _
        (fun q hq hid => State.eq_of_mem_putPlan hq hid) hgo.of_clock hpowered
    · split
      · exact h.blockPlan hgo hp
      · exact h.dropPlan p _

theorem chooseFor (h : Kept g s) (id : Nat) : Kept g (s.chooseFor id) := by
  unfold State.chooseFor
  split
  · next p hp =>
    have hmem := State.mem_of_plan hp
    split
    · next hopen =>
      obtain ⟨hstate, -⟩ := hopen
      exact h.chooseRoute (h.going hmem (by rcases hstate with e | e <;> simp [e])) (h.canAir hmem)
    · exact h
  · exact h

theorem retryBlocked (h : Kept g s) : Kept g s.retryBlocked := h.foldl fun id _ _ hu => hu.chooseFor id

theorem recompute (h : Kept g s) (id : Nat) : Kept g (s.recompute id) := by
  unfold State.recompute
  split
  · next p hp =>
    split
    · exact h
    · split
      · exact h.chooseFor id
      · split
        · simp only
          split
          · exact h.dropPlan p _
          · exact h.putAlike (State.mem_of_plan hp) ⟨rfl, rfl, rfl, rfl, rfl, fun e => e⟩
        · exact h
  · exact h

theorem recomputeAll (h : Kept g s) : Kept g s.recomputeAll := h.foldl fun id _ _ hu => hu.recompute id

theorem voidPin (h : Kept g s) (set way : Nat) : Kept g (s.voidPin set way) :=
  Kept.foldl (fun id _ _ hu => hu.recompute id) (h.foldl fun _ _ _ hu => hu.updPlan)

/-! ## Creation (R132–R135) -/

theorem planFresh (h : Kept g s) {p : Plan} (hw : p.state.waiting = true) (hgo : Going g s)
    (hp : g.floor → g.canAir p) : Kept g (s.planFresh p) := by
  have hlooked := h.lookup p.freq p.ant
  have hp' : g.floor → g.canAir (s.lookupFor p).2 := fun hg => (hp hg).alike ⟨rfl, rfl, rfl, rfl, rfl, fun e => e⟩
  exact (hlooked.putWaiting (p := (s.lookupFor p).2) hgo.of_clock hw hp').chooseRoute hgo.of_clock hp'

theorem stopContinuation (h : Kept g s) {p : Plan} (hgo : Going g s) (hp : g.floor → g.airs p) :
    Kept g (s.stopContinuation p) :=
  (h.dropBooking p).planFresh rfl hgo.of_clock fun hg => .inr ⟨hp hg, rfl, .inl rfl, rfl⟩

theorem planContinuation (h : Kept g s) {p q : Plan} (hw : p.state.waiting = true) (hgo : Going g s)
    (hp : g.floor → g.airs p) (hserves : s.serviceable p.ant (s.routeSteps q) = true) :
    Kept g (s.planContinuation p q) := by
  unfold State.planContinuation
  extract_lets steps power p' u r
  have hpowered : g.floor → g.powered p' := fun hg =>
    ⟨hp hg, _, rfl, State.le_routePower (h.floor hg).1 (h.floor hg).2.1 (hp hg) hserves⟩
  have hput : Kept g u := h.putWaiting hgo hw fun hg => (hpowered hg).canAir
  have hasked : Kept g r.1 := hput.requestBooking _ _
  have hgone : Going g r.1 := hgo.of_clock (by simp [r, u])
  split
  · refine hasked.updBooked (p := p') (fun x hx hid => ?_) hgone hpowered (fun _ => rfl) hw fun e => e
    exact State.eq_of_mem_putPlan (by rwa [State.requestBooking_cp] at hx) hid
  · exact hasked.stopContinuation hgone hp

/-- A new plan that can be aired enters the queue. -/
theorem insertPlan (h : Kept g s) {o : Offer} (hgo : Going g s)
    (hroom : s.cp.plans.length < Config.planQueueSize) (hp : g.floor → g.airs (s.newPlan s.freePlanId o)) :
    Kept g (s.withCp { s.cp with plans := insertBy planBefore (s.newPlan s.freePlanId o) s.cp.plans }) := by
  refine h.withCp (fun hg hphase => absurd hphase (hgo hg)) (fun hg => ?_) fun hg q hq => ?_
  · exact (h.plans hg).insertBy hroom (s.id_ne_freePlanId hroom) rfl
  · rcases (mem_insertBy ..).1 hq with rfl | hq
    · exact .inr ⟨hp hg, rfl, .inl rfl, rfl⟩
    · exact h.canAir hq hg

/-- A new plan that cannot be aired leaves at once. -/
theorem filterInserted (h : Kept g s) {o : Offer} (hgo : Going g s)
    (hroom : s.cp.plans.length < Config.planQueueSize) :
    Kept g (s.withCp { s.cp with plans :=
      (insertBy planBefore (s.newPlan s.freePlanId o) s.cp.plans).filter fun x => x.id != s.freePlanId }) := by
  refine h.withCp (fun hg hphase => absurd hphase (hgo hg)) (fun hg => ?_) fun hg q hq => ?_
  · exact ((h.plans hg).insertBy hroom (s.id_ne_freePlanId hroom) rfl).filter _
  · obtain ⟨hmem, hne⟩ := List.mem_filter.1 hq
    rcases (mem_insertBy ..).1 hmem with rfl | hmem
    · simp [State.newPlan] at hne
    · exact h.canAir hmem hg

theorem takeOffer (h : Kept g s) (o : Offer) (hgo : Going g s) : Kept g (s.takeOffer o).1 := by
  unfold State.takeOffer
  split
  · exact h.logRecord _
  · split
    · exact h
    · next hroom =>
      have hroom' : s.cp.plans.length < Config.planQueueSize := Nat.lt_of_not_le hroom
      simp only
      split
      · refine planLeaves_of ?_
        rw [State.logRecord_cp, State.logRecord_withCp]
        exact (h.filterInserted (o := o) hgo hroom').logRecord _
      · next hleast =>
        have hairs : g.floor → g.airs (s.newPlan s.freePlanId o) := fun hg => by
          unfold Given.airs
          rw [← (h.floor hg).1, ← (h.floor hg).2.1]
          exact Nat.le_of_not_lt hleast
        have hnew := h.insertPlan hgo hroom' hairs
        split
        · next q hq =>
          obtain ⟨-, hcont⟩ := Option.filter_eq_some_iff.1 hq
          exact hnew.planContinuation rfl hgo hairs (State.serviceable_of_routeFree (Bool.and_eq_true_iff.1 hcont).2)
        · exact hnew.planFresh rfl hgo fun hg => .inr ⟨hairs hg, rfl, .inl rfl, rfl⟩

/-- A fold of operations that need the station not in STOPPING and leave its phase. -/
theorem foldl_going {α : Type} {f : State → α → State} (hclock : ∀ u x, (f u x).clock = u.clock)
    (hf : ∀ x u, Kept g u → Going g u → Kept g (f u x)) (l : List α) :
    ∀ {s : State}, Kept g s → Going g s → Kept g (l.foldl f s) := by
  induction l with
  | nil => exact fun h _ => h
  | cons x l ih => exact fun h hgo => ih (hf x _ h hgo) (hgo.of_clock (hclock _ _))

theorem contCheck (h : Kept g s) : Kept g s.contCheck := by
  unfold State.contCheck
  by_cases hnone : (s.cp.plans.filter fun p => p.cont && p.state.waiting) = []
  · rw [hnone]
    exact h
  · obtain ⟨p, hp⟩ := List.exists_mem_of_ne_nil _ hnone
    obtain ⟨hmem, hw⟩ := List.mem_filter.1 hp
    have hne : p.state ≠ .ending := fun e => by simp [e, PlanState.waiting] at hw
    refine foldl_going (fun u id => ?_) (fun id u hu hgo => ?_) _ h (h.going hmem hne)
    · (repeat' split) <;> simp
    · split
      · next q hq =>
        split
        · exact hu
        · exact hu.stopContinuation hgo fun hg => (hu.canAir (State.mem_of_plan hq) hg).airs
      · exact hu

end Kept
end Sys2Proof.Machine
end

section
/-! SUPPORT. The planner from the end of a plan to the phases keeps the forms. -/

namespace Sys2Proof.Machine

-- Each pending proof holds a stack of its own: they are checked one after the other.
set_option Elab.async false

open Sys2Proof

/-! ## The entry to ENDING in its parts (R153) -/

/-- A plan as it goes to ENDING: its lost-air interval closes, and its record's outcome and cause are settled. -/
def Plan.toEnding (p : Plan) (now : Nat) (out : Option (AirOutcome × AirCause)) : Plan :=
  { p.closeLost now with
    state := .ending
    pendOut := match out with
      | some (o, _) => some o
      | none => if (p.closeLost now).firstFull.isNone then some .missed else none
    cause := match out with
      | some (_, c) => some c
      | none => if (p.closeLost now).firstFull.isNone then some .lateLimit else none }

/-- The plan stands in ENDING, and the station ramps down for it. -/
def State.goesDown (s : State) (p : Plan) : State :=
  (((s.putPlan p).withCp { (s.putPlan p).cp with owedMoves := [] }).rampDown.cancelPick).report
    [.contCheck, .leaveTripped]

/-- The plan's booking is given up; a plan without one finishes. -/
def State.givesUp (s : State) (p : Plan) : State :=
  match p.booking.bind s.ownBooking with
  | some b => s.releaseBooking b.desc.num
  | none =>
    match s.plan p.id with
    | some p => s.finishPlan p
    | none => s

theorem State.enterEnding_eq (s : State) (p : Plan) (out : Option (AirOutcome × AirCause)) (h : p.state ≠ .ending) :
    s.enterEnding p out = (s.goesDown (p.toEnding s.now out)).givesUp (p.toEnding s.now out) := by
  unfold State.enterEnding
  rw [if_neg h]
  rfl

theorem State.enterEnding_ending (s : State) (p : Plan) (out : Option (AirOutcome × AirCause)) (h : p.state = .ending) :
    s.enterEnding p out = s := if_pos h

theorem Plan.closeLost_eq (p : Plan) (now : Nat) :
    ∃ (lost : Option Nat) (air : Nat), p.closeLost now = { p with lostOpen := lost, lostAir := air } := by
  unfold Plan.closeLost
  split
  · exact ⟨_, _, rfl⟩
  · exact ⟨p.lostOpen, p.lostAir, rfl⟩

/-- The end of a plan changes neither its id nor its power and booking. -/
theorem Plan.toEnding_eq (p : Plan) (now : Nat) (out : Option (AirOutcome × AirCause)) :
    ∃ (lost : Option Nat) (air : Nat) (pend : Option AirOutcome) (cause : Option AirCause), p.toEnding now out =
      { p with lostOpen := lost, lostAir := air, state := .ending, pendOut := pend, cause := cause } := by
  obtain ⟨lost, air, hclose⟩ := p.closeLost_eq now
  unfold Plan.toEnding
  rw [hclose]
  exact ⟨_, _, _, _, rfl⟩

namespace Kept
variable {g : Given} {s : State}

/-! ## Ending (R150, R153) -/

theorem finishPlan (h : Kept g s) (p : Plan) : Kept g (s.finishPlan p) := ((h.dropPin p).logRecord _).planLeaves p

theorem planReleased (h : Kept g s) (p : Plan) : Kept g (s.planReleased p) := (h.withPlanner).finishPlan p

theorem goesDown (h : Kept g s) {p : Plan} (hp : Leads g s p) (hstate : p.state = .ending) : Kept g (s.goesDown p) :=
  ((((h.putCurrent hp fun _ _ => hstate) (by rw [hstate]; rfl)).withPlanner).rampDown.cancelPick).report _

theorem givesUp (h : Kept g s) (p : Plan) : Kept g (s.givesUp p) := by
  unfold State.givesUp
  split
  · exact h.releaseBooking _
  · split
    · exact h.finishPlan _
    · exact h

theorem enterEnding (h : Kept g s) {p : Plan} (hp : Leads g s p) (out : Option (AirOutcome × AirCause)) :
    Kept g (s.enterEnding p out) := by
  by_cases hstate : p.state = .ending
  · rw [s.enterEnding_ending p out hstate]
    exact h
  · rw [s.enterEnding_eq p out hstate]
    obtain ⟨lost, air, pend, cause, hq⟩ := p.toEnding_eq s.now out
    rw [hq]
    exact (h.goesDown (hp.of_same rfl) rfl).givesUp _

/-! ## Tune start (R147) -/

theorem readAtTune (h : Kept g s) (p : Plan) : Kept g (s.readAtTune p).1 := by
  simp only [State.readAtTune]
  split
  · split
    · exact h.releasePin _ _
    · exact h.releasePin _ _
    · exact h.releasePin _ _
  · exact h

end Kept

/-- The tune-start read changes of a plan only what it was to be tuned with. -/
theorem State.readAtTune_plan (s : State) (p : Plan) : ∃ (pin : Option (Nat × Nat)) (preset : PresetOutcome) (t : Nat),
    (s.readAtTune p).2.1 = { p with pin := pin, preset := preset, t := t } := by
  simp only [State.readAtTune]
  split
  · split <;> exact ⟨_, _, _, rfl⟩
  · exact ⟨p.pin, p.preset, p.t, rfl⟩

@[simp] theorem State.readAtTune_cp (s : State) (p : Plan) : (s.readAtTune p).1.cp = s.cp := by
  simp only [State.readAtTune]
  split
  · split <;> rfl
  · rfl

namespace Kept
variable {g : Given} {s : State}

theorem startTune (h : Kept g s) {p : Plan} (hgo : Going g s) (hp : Leads g s p) : Kept g (s.startTune p) := by
  unfold State.startTune
  extract_lets x cp u p0 p1 q p2 v
  have hu : Kept g u := (h.readAtTune p).withPlanner
  have hlead : Leads g u p2 := by
    obtain ⟨pin, preset, t, hread⟩ := s.readAtTune_plan p
    refine hp.of_same (show x.1.cp.plans = s.cp.plans from congrArg Planner.plans (s.readAtTune_cp p)) ?_ ?_
    · show (s.readAtTune p).2.1.id = p.id
      rw [hread]
    · show g.powered p → g.powered (s.readAtTune p).2.1
      rw [hread]
      exact fun e => e
  have hv : Kept g v := hu.putCurrent hlead
    (fun hg hphase => absurd hphase ((hgo.of_clock (t := u) (by simp [u, x])) hg)) rfl
  split
  · exact hv.enterEnding hlead.put _
  · exact (hv.commandTune _ _ _ _).requestPick _

theorem planTold (h : Kept g s) (id num : Nat) (what : Told) : Kept g (s.planTold id num what) := by
  unfold State.planTold
  split
  · next p hp =>
    have hmem := State.mem_of_plan hp
    have hwait : p.state.waiting = true → Going g s := fun hw =>
      h.going hmem fun e => by simp [e, PlanState.waiting] at hw
    have hbare : Kept g (s.putPlan { p with booking := none }) :=
      h.putAlike hmem ⟨rfl, rfl, rfl, rfl, rfl, fun _ => rfl⟩
    have hagain : p.state.waiting = true → Kept g (if p.cont = true then
        (s.putPlan { p with booking := none, state := .routing }).stopContinuation
          { p with booking := none, state := .routing }
        else (s.putPlan { p with booking := none, state := .routing }).report [.routeChoice id]) := fun hw => by
      have hrouting : Kept g (s.putPlan { p with booking := none, state := .routing }) :=
        h.putWaiting (hwait hw) rfl fun hg =>
          (h.canAir hmem hg).of_waiting rfl rfl rfl fun _ => ⟨.inl rfl, fun _ => rfl⟩
      split
      · exact hrouting.stopContinuation (hwait hw) fun hg => (h.canAir hmem hg).airs
      · exact hrouting.report _
    split
    · exact h
    · next hbooking =>
      have hsome : p.booking ≠ none := fun e => hbooking (e ▸ (Option.some_ne_none num).symm)
      split
      · split
        · next hstate =>
          exact h.putWaiting (hwait (by simp [hstate, PlanState.waiting])) rfl fun hg =>
            Given.powered.canAir ((h.canAir hmem hg).powered (.inl hsome))
        · exact h
      · split
        · next hw => exact hagain hw
        · exact h
      · split
        · next hw => exact hagain hw
        · exact h
      · split
        · next hw => exact hagain hw
        · exact h
      · split
        · exact hbare.dropPlan _ _
        · exact h
      · split
        · exact h.planReleased p
        · exact h
      · exact hbare
      · split
        · next hstate =>
          have hc : p.state.current = true := by rw [hstate]; rfl
          exact h.startTune (h.going hmem (by simp [hstate])) (h.leads hmem hc)
        · exact h
      · exact h
  · exact h

/-! ## Switching (R144–R146) -/

theorem moveItem (h : Kept g s) (num : Nat) (m : ItemKind × Nat × Nat) : Kept g (s.moveItem num m) := by
  simp only [State.moveItem]
  split
  · exact h.request _ _
  · split
    · exact h.offer _
    · exact h.withPlanner

theorem startSwitching (h : Kept g s) {p : Plan} (hmem : p ∈ s.cp.plans) (hready : p.state = .ready)
    (hnone : s.currentPlan = none) : Kept g (s.startSwitching p) := by
  have hgo : Going g s := h.going hmem (by simp [hready])
  have hlead : Leads g s p := ⟨fun _ q hq hc => absurd hc (State.currentPlan_none hnone q hq), fun hg =>
    (h.canAir hmem hg).powered (.inr (by simp [hready]))⟩
  unfold State.startSwitching
  extract_lets p1 q
  have hlead1 : Leads g s (p1.showing q) := hlead.of_same rfl
  split
  · exact Kept.enterEnding (h.putWaiting hgo (by simp [p1, Plan.showing, hready, PlanState.waiting]) fun hg =>
      (hlead1.powered hg).canAir) hlead1.put _
  · have hs1 : Kept g (s.putPlan ({ p1 with switchedAt := some s.now, state := .switching }.showing q)) :=
      h.putCurrent (hlead.of_same rfl) (fun hg hphase => absurd hphase (hgo hg)) rfl
    split
    · simp only
      split
      · exact (hs1.beginMoving _).foldl fun m _ _ hu => hu.moveItem _ m
      · exact h
    · exact h

theorem offerMoves (num : Nat) (l : List (ItemKind × Nat × Nat)) :
    ∀ {s : State}, Kept g s → Kept g (s.offerMoves num l) := by
  induction l with
  | nil => exact fun h => h
  | cons m l ih =>
    intro s h
    simp only [State.offerMoves]
    split
    · split
      · exact ih ((h.offer _).withPlanner)
      · exact h
    · exact ih h

theorem cpSlotEmptied (h : Kept g s) : Kept g s.cpSlotEmptied := by
  unfold State.cpSlotEmptied
  split
  · split
    · exact offerMoves _ _ h
    · exact h
  · exact h

theorem moveDropped (h : Kept g s) (kind item num target : Nat) : Kept g (s.moveDropped kind item num target) := by
  unfold State.moveDropped
  extract_lets k
  split
  · split
    · exact h.moveItem _ _
    · exact h
  · exact h

theorem routeFault (h : Kept g s) {p : Plan} (hmem : p ∈ s.cp.plans) (hstate : p.state = .switching) :
    Kept g (s.routeFault p) := by
  unfold State.routeFault
  extract_lets u cp v
  have hu : Kept g u := h.putWaiting (h.going hmem (by simp [hstate])) rfl fun hg =>
    Given.powered.canAir ((h.canAir hmem hg).powered (.inr (by simp [hstate])))
  have hv : Kept g v := hu.withPlanner
  exact (hv.dropBooking p).report _

theorem planMoveRefused (h : Kept g s) (num : Nat) (kind : ItemKind) (item reason : Nat) :
    Kept g (s.planMoveRefused num kind item reason) := by
  unfold State.planMoveRefused
  split
  · next p hp =>
    split
    · next hcond => exact h.routeFault (State.currentPlan_some hp).1 hcond.1
    · exact h
  · exact h

theorem planViewChanged (h : Kept g s) (kind : ItemKind) (item : Nat) : Kept g (s.planViewChanged kind item) := by
  unfold State.planViewChanged
  split
  · next p hp =>
    split
    · next hcond => exact h.routeFault (State.currentPlan_some hp).1 hcond.1
    · exact h
  · exact h

theorem planHomeGone (h : Kept g s) (kind : ItemKind) (item : Nat) : Kept g (s.planHomeGone kind item) := by
  unfold State.planHomeGone
  split
  · next p hp =>
    split
    · next hcond => exact h.routeFault (State.currentPlan_some hp).1 hcond.1
    · exact h
  · exact h

/-! ## Tuning, ramp, air (R148, R149, R151) -/

/-- The current plan goes from one state to another in which it is current. -/
theorem advance (h : Kept g s) {p q : Plan} (hp : s.currentPlan = some p) (hne : p.state ≠ .ending)
    (hid : q.id = p.id) (hc : q.state.current = true) (hq : g.powered p → g.powered q) : Kept g (s.putPlan q) :=
  have hcurrent := State.currentPlan_some hp
  h.putCurrent ((h.leads hcurrent.1 hcurrent.2).of_same rfl hid hq)
    (fun hg hphase => absurd hphase (h.going hcurrent.1 hne hg)) hc

theorem planTuned (h : Kept g s) : Kept g s.planTuned := by
  unfold State.planTuned
  split
  · next p hp =>
    split
    · next hstate =>
      have hwait : Kept g (s.putPlan { p with state := .rampWait }) :=
        h.advance hp (by simp [hstate]) rfl rfl fun e => e
      exact hwait.tuneEnded _
    · exact h
  · exact h

/-- The current plan goes to ENDING. -/
theorem endCurrent (h : Kept g s) {p : Plan} (hp : s.currentPlan = some p) (out : Option (AirOutcome × AirCause)) :
    Kept g (s.enterEnding p out) :=
  have hcurrent := State.currentPlan_some hp
  h.enterEnding (h.leads hcurrent.1 hcurrent.2) out

theorem planTuneFailed (h : Kept g s) : Kept g s.planTuneFailed := by
  unfold State.planTuneFailed
  split
  · next p hp =>
    split
    · exact h.endCurrent hp _
    · exact h
  · exact h

theorem planPickRefused (h : Kept g s) (id : Nat) : Kept g (s.planPickRefused id) := by
  unfold State.planPickRefused
  split
  · next p hp =>
    split
    · next hstate =>
      exact h.enterEnding (h.leads (State.mem_of_plan hp) (by rcases hstate with e | e <;> rw [e] <;> rfl)) _
    · exact h
  · exact h

theorem startCheck (h : Kept g s) {p : Plan} {x : Intent} (hready : s.checkReady = some (p, x)) :
    Kept g (s.startCheck p x) := by
  obtain ⟨hp, hstate⟩ : s.currentPlan = some p ∧ p.state = .rampWait := by
    unfold State.checkReady at hready
    split at hready
    · next p' x' hp hx =>
      split at hready
      · next hcond =>
        obtain ⟨rfl, rfl⟩ := Prod.mk.inj (Option.some.inj hready)
        exact ⟨hp, hcond.1⟩
      · cases hready
    · cases hready
  obtain ⟨hmem, hc⟩ := State.currentPlan_some hp
  have hramping : Kept g ((s.startIntent x.num).updPlan p.id fun p => { p with state := .ramping }) := by
    refine (h.startIntent x.num).changePlan (fun _ _ => rfl)
      (fun hg hphase => absurd hphase (h.going hmem (by simp [hstate]) hg)) (fun hg q hq he => .inr ⟨rfl, ?_⟩)
      fun hg q hq he => ?_
    · exact (h.plans hg).eq_of_id hmem hq he ▸ hc
    · rw [(h.plans (g.plansOfFloor hg)).eq_of_id hmem hq he]
      have hpowered := h.powered hmem hc hg
      exact .inl hpowered
  unfold State.startCheck
  split
  · have hup := hramping.rampUp (p.cmdPower.getD 0) fun hg => by
      obtain ⟨-, k, hk, hle⟩ := h.powered hmem hc hg
      rw [hk]
      exact hle
    simp only
    split
    · exact hup.beginAir _
    · exact hup
  · exact h.failStartCheck

theorem handProgram (h : Kept g s) (p : Plan) : Kept g (s.handProgram p) := (h.updPlan).selectProgram _

theorem atPower (h : Kept g s) : Kept g s.atPower := by
  unfold State.atPower
  split
  · next hramping =>
    extract_lets ts u
    have hu : Kept g u := (h.withTimers).setSeqHeld .onAir fun hg => (h.floor hg).2.2.1 (.inl hramping)
    split
    · next p hp =>
      split
      · next hstate =>
        extract_lets pl p1 v
        have hv : Kept g v := by
          obtain ⟨lost, air, hclose⟩ := p.closeLost_eq u.now
          refine Kept.report (hu.advance hp (by simp [hstate]) ?_ rfl ?_) _
          · show (p.closeLost u.now).id = p.id
            rw [hclose]
          · show g.powered p → g.powered (p.closeLost u.now)
            rw [hclose]
            exact fun e => e
        split
        · exact hv.handProgram _
        · exact hv
      · exact hu
    · exact hu
  · exact h

/-! ## A hand-over (R151, R152) -/

/-- The continuation takes the place of the current plan, which leaves. -/
theorem passOn (h : Kept g s) {p c d : Plan} (hp : p ∈ s.cp.plans) (hpc : p.state.current = true) (hc : c ∈ s.cp.plans)
    (hready : c.state = .ready) (hd : d.state.current = true) (hpower : g.powered c → g.powered d) :
    Kept g ((s.putPlan d).planLeaves p) := by
  have hdpower : g.floor → g.powered d := fun hg => hpower ((h.canAir hc hg).powered (.inr (by simp [hready])))
  have hput : (s.putPlan d).cp.plans.filter (fun x => x.id != p.id)
      = (s.cp.plans.filter fun x => x.id != p.id).map fun x => if x.id = d.id then d else x := by
    show (s.cp.plans.map fun x => if x.id = d.id then d else x).filter _ = _
    rw [List.filter_map]
    congr 1
    refine List.filter_congr fun x _ => ?_
    simp only [Function.comp]
    split
    · next he => rw [he]
    · rfl
  have hset (l : List Plan) : (s.putPlan d).withCp { (s.putPlan d).cp with plans := l }
      = s.withCp { s.cp with plans := l } := rfl
  refine planLeaves_of ((hset _).symm ▸ h.withCp (fun hg hphase => absurd hphase (h.going hc (by simp [hready]) hg))
    (fun hg => ?_) fun hg q hq => ?_)
  · show Plan.Queue ((s.putPlan d).cp.plans.filter fun x => x.id != p.id)
    rw [hput]
    refine ((h.plans hg).filter _).promote hd fun q hq hqc => ?_
    obtain ⟨hmem, hne⟩ := List.mem_filter.1 hq
    exact absurd (congrArg Plan.id ((h.plans hg).eq_of_current hp hmem hpc hqc)) (by simpa using hne)
  · obtain ⟨hmem, -⟩ := List.mem_filter.1 hq
    obtain ⟨x, hx, rfl⟩ := List.mem_map.1 hmem
    split
    · exact (hdpower hg).canAir
    · exact h.canAir hx hg

theorem airEnd (h : Kept g s) {p : Plan} (hp : s.currentPlan = some p) : Kept g (s.airEnd p) := by
  unfold State.airEnd
  extract_lets next
  split
  · next c n m hnext hbooking hbooked =>
    split
    · next hair =>
      simp only
      split
      · have hfound := List.find?_some hnext
        simp only [Bool.and_eq_true, beq_iff_eq] at hfound
        obtain ⟨⟨-, hready⟩, -⟩ := hfound
        obtain ⟨hmem, hcurrent⟩ := State.currentPlan_some hp
        have hc : c ∈ s.cp.plans := List.mem_of_find?_eq_some hnext
        have hpowered : g.floor → g.powered c := fun hg => (h.canAir hc hg).powered (.inr (by simp [hready]))
        have hlogged : Kept g ((s.handOver n m).1.logRecord (p.record p.ending.1 p.ending.2)) :=
          (h.handOver n m).logRecord _
        have hplans : ((s.handOver n m).1.logRecord (p.record p.ending.1 p.ending.2)).cp = s.cp := by simp
        have hpassed := hlogged.passOn (d := { c with state := .onAir, firstFull := some c.a })
          (hplans ▸ hmem) hcurrent (hplans ▸ hc) hready rfl fun e => e
        have hhanded := hpassed.handProgram { c with state := .onAir, firstFull := some c.a }
        refine Kept.report ?_ _
        split
        · exact hhanded
        · refine hhanded.handPower _ fun hg => ?_
          obtain ⟨-, k, hk, hle⟩ := hpowered hg
          rw [hk]
          exact hle
      · exact h.endCurrent hp _
    · exact h.endCurrent hp _
  · exact h.endCurrent hp _

/-! ## Trips, lockout, no restart (R150, R155) -/

theorem planTripped (h : Kept g s) : Kept g s.planTripped := by
  have hwait : ∀ p q : Plan, s.currentPlan = some p → p.state ≠ .ending → q.id = p.id → q.state = .rampWait →
      (g.powered p → g.powered q) → Kept g ((s.putPlan q).cancelPick) := fun p q hp hne hid hq hpower =>
    (h.advance hp hne hid (by rw [hq]; rfl) hpower).cancelPick
  unfold State.planTripped
  split
  · next p hp =>
    split
    · exact h.endCurrent hp _
    · next hstate => exact hwait p _ hp (by simp [hstate]) rfl rfl fun e => e
    · next hstate => exact hwait p _ hp (by simp [hstate]) rfl rfl fun e => e
    · next hstate => exact hwait p _ hp (by simp [hstate]) rfl rfl fun e => e
    · exact h
  · exact h

theorem planLockedOut (h : Kept g s) : Kept g s.planLockedOut := by
  have hdropped : ∀ u, Kept g u → Kept g ((u.cp.plans.filter fun p => p.state.waiting).foldl
      (fun s p => s.dropPlan p (some (.missed, some .lockout))) u) :=
    fun _ hu => hu.foldl fun p _ _ hv => hv.dropPlan p _
  unfold State.planLockedOut
  split
  · next p hp => exact hdropped _ (h.endCurrent hp _)
  · exact hdropped _ h

theorem planNoRestart (h : Kept g s) : Kept g s.planNoRestart := by
  unfold State.planNoRestart
  split
  · next p hp =>
    split
    · split
      · exact h.endCurrent hp _
      · exact h.endCurrent hp _
    · exact h
  · exact h

theorem planRestart (h : Kept g s) : Kept g s.planRestart := by
  have hfinished : Kept g (s.cp.plans.foldl (fun s p => s.finishPlan p) s) := h.foldl fun p _ _ hu => hu.finishPlan p
  refine hfinished.withCp (fun _ _ _ hp => ?_) (fun _ => ⟨by simp, by simp, by simp, by simp⟩) fun _ _ hp => ?_
  all_goals cases hp

end Kept
end Sys2Proof.Machine
end

section
/-! SUPPORT. Plans that are ended together, the schedule store, and the station's phases keep the forms. -/

namespace Sys2Proof.Machine

-- Each pending proof holds a stack of its own: they are checked one after the other.
set_option Elab.async false

open Sys2Proof

/-! ## Where the plans of a queue come from -/

/-- Every plan of one queue stands in another with its id and its state. -/
def State.PlansOf (s t : State) : Prop := ∀ q ∈ t.cp.plans, ∃ x ∈ s.cp.plans, x.id = q.id ∧ x.state = q.state

theorem State.PlansOf.of_cp {s t : State} (h : t.cp.plans = s.cp.plans) : s.PlansOf t :=
  fun q hq => ⟨q, h ▸ hq, rfl, rfl⟩

theorem State.PlansOf.trans {s t u : State} (h : s.PlansOf t) (h' : t.PlansOf u) : s.PlansOf u := fun q hq => by
  obtain ⟨y, hy, hid, hstate⟩ := h' q hq
  obtain ⟨x, hx, hxid, hxstate⟩ := h y hy
  exact ⟨x, hx, hxid.trans hid, hxstate.trans hstate⟩

theorem State.PlansOf.map {s t : State} {f : Plan → Plan} (h : t.cp.plans = s.cp.plans.map f)
    (hf : ∀ p, (f p).id = p.id ∧ (f p).state = p.state) : s.PlansOf t := fun q hq => by
  obtain ⟨x, hx, rfl⟩ := List.mem_map.1 (h ▸ hq)
  exact ⟨x, hx, (hf x).1.symm, (hf x).2.symm⟩

theorem State.plansOf_updPlan (s : State) (id : Nat) {f : Plan → Plan}
    (hf : ∀ p, (f p).id = p.id ∧ (f p).state = p.state) : s.PlansOf (s.updPlan id f) :=
  .map rfl fun p => by
    split
    · exact hf p
    · exact ⟨rfl, rfl⟩

theorem State.plansOf_planLeaves (s : State) (p : Plan) : s.PlansOf (s.planLeaves p) := fun q hq => by
  have hplans : (s.planLeaves p).cp.plans = s.cp.plans.filter fun x => x.id != p.id := by
    simp only [State.planLeaves]
    split <;> rfl
  exact ⟨q, (List.mem_filter.1 (hplans ▸ hq)).1, rfl, rfl⟩

theorem State.plansOf_dropPin (s : State) (p : Plan) : s.PlansOf (s.dropPin p) := by
  unfold State.dropPin
  split
  · exact State.plansOf_updPlan (s.releasePin _ _) _ fun _ => ⟨rfl, rfl⟩
  · exact .of_cp rfl

theorem State.plansOf_dropBooking (s : State) (p : Plan) : s.PlansOf (s.dropBooking p) := by
  unfold State.dropBooking
  split
  · exact (s.plansOf_updPlan p.id (f := fun p => { p with booking := none }) fun _ => ⟨rfl, rfl⟩).trans
      (.of_cp (by simp))
  · exact .of_cp rfl

theorem State.plansOf_finishPlan (s : State) (p : Plan) : s.PlansOf (s.finishPlan p) :=
  ((s.plansOf_dropPin p).trans (.of_cp (by simp))).trans (State.plansOf_planLeaves _ _)

theorem State.plansOf_dropPlan (s : State) (p : Plan) (out : Option (AirOutcome × Option AirCause)) :
    s.PlansOf (s.dropPlan p out) := by
  have hgone := (s.plansOf_dropBooking p).trans (State.plansOf_dropPin _ p)
  simp only [State.dropPlan]
  split
  · exact (hgone.trans (.of_cp (by simp))).trans (State.plansOf_planLeaves _ _)
  · exact hgone.trans (State.plansOf_planLeaves _ _)

/-- A dropped plan is in the queue no more. -/
theorem State.id_ne_of_mem_dropPlan {s : State} {p q : Plan} {out : Option (AirOutcome × Option AirCause)}
    (hq : q ∈ (s.dropPlan p out).cp.plans) : q.id ≠ p.id := by
  have hplans : ∀ u : State, (u.planLeaves p).cp.plans = u.cp.plans.filter fun x => x.id != p.id := fun u => by
    simp only [State.planLeaves]
    split <;> rfl
  simp only [State.dropPlan, hplans] at hq
  simpa using (List.mem_filter.1 hq).2

theorem State.plansOf_withdrawIntent (s : State) : s.PlansOf s.withdrawIntent := by
  have hhidden : ∀ (u : State) (num : Nat), u.PlansOf (u.hideIntent num) := fun u num =>
    .map (f := fun p => match p.intent with
      | some (n, _) => if n = num then { p with intent := none } else p
      | none => p) rfl fun p => by
        split
        · split <;> exact ⟨rfl, rfl⟩
        · exact ⟨rfl, rfl⟩
  simp only [State.withdrawIntent]
  split
  · exact .of_cp rfl
  · next x _ =>
    split
    · exact hhidden (s.filterIntents fun y => !y.isPending) x.num
    · refine State.PlansOf.trans (hhidden (s.filterIntents fun y => !y.isPending) x.num) (.of_cp ?_)
      simp only [State.offerCancel]
      split <;> simp

theorem State.plansOf_givesUp (s : State) (p : Plan) : s.PlansOf (s.givesUp p) := by
  unfold State.givesUp
  split
  · exact .of_cp (by simp)
  · split
    · exact s.plansOf_finishPlan _
    · exact .of_cp rfl

/-- After the entry to ENDING the plans of the ended one's id are ENDING, and the others are those of before. -/
theorem State.mem_enterEnding {s : State} {p q : Plan} {out : Option (AirOutcome × AirCause)} (hp : p.state ≠ .ending)
    (hq : q ∈ (s.enterEnding p out).cp.plans) :
    (q.id = p.id ∧ q.state = .ending) ∨ q.id ≠ p.id ∧ ∃ x ∈ s.cp.plans, x.id = q.id ∧ x.state = q.state := by
  obtain ⟨lost, air, pend, cause, he⟩ := p.toEnding_eq s.now out
  have hof : (s.putPlan (p.toEnding s.now out)).PlansOf (s.enterEnding p out) := by
    rw [s.enterEnding_eq p out hp]
    refine State.PlansOf.trans ?_ (State.plansOf_givesUp _ _)
    refine State.PlansOf.trans (t := ((s.putPlan (p.toEnding s.now out)).withCp
      { (s.putPlan (p.toEnding s.now out)).cp with owedMoves := [] }).rampDown) (.of_cp (by simp)) ?_
    exact State.plansOf_withdrawIntent _
  obtain ⟨x, hx, hid, hstate⟩ := hof q hq
  obtain ⟨y, hy, rfl⟩ := List.mem_map.1 hx
  rw [he] at hid hstate
  split at hid
  · next heq =>
    rw [if_pos heq] at hstate
    exact .inl ⟨hid.symm, hstate.symm⟩
  · next heq =>
    rw [if_neg heq] at hstate
    exact .inr ⟨fun e => heq (hid.trans e), y, hy, hid, hstate⟩

/-! ## Plans ended together -/

namespace Kept
variable {g : Given} {s : State}

/-- Plans of one queue are dropped or ended one after the other. -/
theorem foldl_end (h : Kept g s) {f : State → Plan → State} (l : List Plan)
    (hl : ∀ p ∈ l, p ∈ s.cp.plans ∧ ∀ u : State, (∃ out, f u p = u.dropPlan p out)
      ∨ ¬ p.state.waiting = true ∧ ∃ out, f u p = u.enterEnding p out) : Kept g (l.foldl f s) := by
  suffices hall : ∀ (l : List Plan) (u : State), (∀ p ∈ l, p ∈ s.cp.plans ∧ ∀ u : State,
        (∃ out, f u p = u.dropPlan p out) ∨ ¬ p.state.waiting = true ∧ ∃ out, f u p = u.enterEnding p out) →
      Kept g u →
      (g.plans → ∀ q ∈ u.cp.plans, q.state.current = true → ∃ x ∈ s.cp.plans, x.id = q.id ∧ x.state.current = true) →
      Kept g (l.foldl f u) from hall l s hl h fun _ q hq hc => ⟨q, hq, rfl, hc⟩
  intro l
  induction l with
  | nil => exact fun _ _ hu _ => hu
  | cons p l ih =>
    intro u hl hu hfrom
    obtain ⟨hp, hf⟩ := hl p List.mem_cons_self
    refine ih (f u p) (fun x hx => hl x (List.mem_cons_of_mem _ hx)) ?_ ?_
    all_goals rcases hf u with ⟨out, he⟩ | ⟨hw, out, he⟩ <;> rw [he]
    · exact hu.dropPlan p out
    · refine hu.enterEnding ⟨fun hg q hq hc => ?_, fun hg => (h.canAir hp hg).powered (.inr ⟨fun e => ?_, fun e => ?_⟩)⟩ out
      · obtain ⟨x, hx, hid, hxc⟩ := hfrom hg q hq hc
        rw [← hid, (h.plans hg).eq_of_current hp hx (((h.plans hg).kind p hp).resolve_right hw) hxc]
      · simp [e, PlanState.waiting] at hw
      · simp [e, PlanState.waiting] at hw
    · intro hg q hq hc
      obtain ⟨y, hy, hid, hstate⟩ := u.plansOf_dropPlan p out q hq
      obtain ⟨x, hx, hxid, hxc⟩ := hfrom hg y hy (hstate ▸ hc)
      exact ⟨x, hx, hxid.trans hid, hxc⟩
    · intro hg q hq hc
      have hpc := ((h.plans hg).kind p hp).resolve_right hw
      by_cases hpe : p.state = .ending
      · rw [u.enterEnding_ending p out hpe] at hq
        exact hfrom hg q hq hc
      · rcases State.mem_enterEnding hpe hq with ⟨hid, -⟩ | ⟨-, y, hy, hid, hstate⟩
        · exact ⟨p, hp, hid.symm, hpc⟩
        · obtain ⟨x, hx, hxid, hxc⟩ := hfrom hg y hy (hstate ▸ hc)
          exact ⟨x, hx, hxid.trans hid, hxc⟩

theorem cancelPlans (h : Kept g s) (l : List Plan) (hl : ∀ p ∈ l, p ∈ s.cp.plans) :
    Kept g (l.foldl State.cancelPlan s) := by
  refine h.foldl_end l fun p hp => ⟨hl p hp, fun u => ?_⟩
  unfold State.cancelPlan
  split
  · exact .inl ⟨_, rfl⟩
  · next hw =>
    split
    · next he => exact .inr ⟨hw, none, (u.enterEnding_ending p none he).symm⟩
    · exact .inr ⟨hw, _, rfl⟩

end Kept

/-- After the waiting plans have been dropped no plan of the queue waits. -/
theorem State.not_waiting_of_dropped (s : State) (out : Option (AirOutcome × Option AirCause)) :
    ∀ q ∈ ((s.cp.plans.filter fun p => p.state.waiting).foldl (fun s p => s.dropPlan p out) s).cp.plans,
      ¬ q.state.waiting = true := by
  have hall : ∀ (l : List Plan) (u : State), s.PlansOf u →
      s.PlansOf (l.foldl (fun s p => s.dropPlan p out) u)
        ∧ ∀ q ∈ (l.foldl (fun s p => s.dropPlan p out) u).cp.plans, ∀ p ∈ l, q.id ≠ p.id := by
    intro l
    induction l with
    | nil => exact fun u hu => ⟨hu, fun _ _ _ hp => absurd hp List.not_mem_nil⟩
    | cons p l ih =>
      intro u hu
      have hgone : ∀ (l : List Plan) (v : State), v.PlansOf (l.foldl (fun s p => s.dropPlan p out) v) := by
        intro l
        induction l with
        | nil => exact fun v => .of_cp rfl
        | cons p l ih => exact fun v => (v.plansOf_dropPlan p out).trans (ih _)
      obtain ⟨hof, hne⟩ := ih _ (hu.trans (u.plansOf_dropPlan p out))
      refine ⟨hof, fun q hq x hx => ?_⟩
      rcases List.mem_cons.1 hx with rfl | hx
      · obtain ⟨y, hy, hid, -⟩ := hgone l _ q hq
        exact hid ▸ State.id_ne_of_mem_dropPlan hy
      · exact hne q hq x hx
  intro q hq hw
  obtain ⟨hof, hne⟩ := hall _ s (.of_cp rfl)
  obtain ⟨x, hx, hid, hstate⟩ := hof q hq
  exact hne q hq x (List.mem_filter.2 ⟨hx, hstate ▸ hw⟩) hid.symm

/-- Once the plans of a queue have gone to ENDING, every plan left is there. -/
theorem State.ending_of_ended (out : Option (AirOutcome × AirCause)) (l : List Plan) : ∀ s : State,
    (∀ q ∈ s.cp.plans, q.state = .ending ∨ ∃ p ∈ l, p.id = q.id ∧ p.state = q.state) →
    ∀ q ∈ (l.foldl (fun s p => s.enterEnding p out) s).cp.plans, q.state = .ending := by
  induction l with
  | nil => exact fun s h q hq => (h q hq).elim (fun e => e) fun ⟨_, hp, _⟩ => absurd hp List.not_mem_nil
  | cons p l ih =>
    intro s h
    refine ih _ fun q (hq : q ∈ (s.enterEnding p out).cp.plans) => ?_
    have hleft : ∀ x ∈ s.cp.plans, x.id = q.id → x.state = q.state → (x.id ≠ p.id ∨ p.state = .ending) →
        q.state = .ending ∨ ∃ p ∈ l, p.id = q.id ∧ p.state = q.state := fun x hx hid hstate hp => by
      rcases h x hx with he | ⟨y, hy, hyid, hystate⟩
      · exact .inl (hstate ▸ he)
      · rcases List.mem_cons.1 hy with rfl | hy
        · exact hp.elim (fun hne => absurd hyid.symm hne) fun he => .inl (hstate ▸ hystate ▸ he)
        · exact .inr ⟨y, hy, hyid.trans hid, hystate.trans hstate⟩
    by_cases hpe : p.state = .ending
    · rw [s.enterEnding_ending p out hpe] at hq
      exact hleft q hq rfl rfl (.inr hpe)
    · rcases State.mem_enterEnding hpe hq with ⟨-, he⟩ | ⟨hne, x, hx, hid, hstate⟩
      · exact .inl he
      · exact hleft x hx hid hstate (.inl (hid ▸ hne))

theorem State.planStop_ending (s : State) (c : AirCause) : ∀ q ∈ (s.planStop c).cp.plans, q.state = .ending :=
  State.ending_of_ended _ _ _ fun q hq => .inr ⟨q, hq, rfl, rfl⟩

/-! ## The schedule store -/

namespace Kept
variable {g : Given} {s : State}

theorem planStop (h : Kept g s) (c : AirCause) : Kept g (s.planStop c) := by
  have hdropped : Kept g ((s.cp.plans.filter fun p => p.state.waiting).foldl
      (fun s p => s.dropPlan p (some (.aborted, some c))) s) := h.foldl fun p _ _ hu => hu.dropPlan p _
  exact hdropped.foldl_end _ fun p hp => ⟨hp, fun _ => .inr ⟨s.not_waiting_of_dropped _ p hp, _, rfl⟩⟩

theorem withPendingEntries (h : Kept g s) {v : Schedule}
    (hv : keysRise s.ss.pending.entries = true → keysRise v.pending.entries = true)
    (ha : v.active.entries = s.ss.active.entries := by rfl) (hd : v.adhoc = s.ss.adhoc := by rfl) :
    Kept g (s.withSs v) :=
  h.withSs fun ht => by
    simp only [State.tablesForm, Bool.and_eq_true] at ht ⊢
    obtain ⟨⟨hrest, hpending⟩, hadhoc⟩ := ht
    refine ⟨⟨?_, hv hpending⟩, hd ▸ hadhoc⟩
    exact ha ▸ hrest

theorem withActive (h : Kept g s) {v : Schedule}
    (hv : keysRise s.ss.active.entries = true → keysRise v.active.entries = true)
    (hp : v.pending.entries = s.ss.pending.entries := by rfl) (hd : v.adhoc = s.ss.adhoc := by rfl) :
    Kept g (s.withSs v) :=
  h.withSs fun ht => by
    simp only [State.tablesForm, Bool.and_eq_true] at ht ⊢
    obtain ⟨⟨⟨hrest, hactive⟩, hpending⟩, hadhoc⟩ := ht
    exact ⟨⟨⟨hrest, hv hactive⟩, hp ▸ hpending⟩, hd ▸ hadhoc⟩

/-- A change of the schedule store that leaves its tables. -/
theorem withDue (h : Kept g s) {v : Schedule} (ha : v.active.entries = s.ss.active.entries := by rfl)
    (hp : v.pending.entries = s.ss.pending.entries := by rfl) (hd : v.adhoc = s.ss.adhoc := by rfl) :
    Kept g (s.withSs v) := h.withAdhoc (fun e => hd ▸ e) ha hp

theorem loadEntry (h : Kept g s) (e : Entry) : Kept g (s.loadEntry e).1 := by
  unfold State.loadEntry
  (repeat' split) <;> try exact h
  exact h.withPendingEntries (keysRise_putKey _ _ _)

theorem clearPending (h : Kept g s) : Kept g s.clearPending := h.withPendingEntries fun _ => rfl

theorem markEntry (h : Kept g s) (idx abs : Nat) : Kept g (s.markEntry idx abs) :=
  h.withActive (keysRise_map _ (fun p => by split <;> rfl) _)

theorem markAdhoc (h : Kept g s) (slot : Nat) : Kept g (s.markAdhoc slot) :=
  h.withAdhoc (keysRise_map _ (fun p => by split <;> rfl) _)

theorem offerOcc (h : Kept g s) (o : OccRef) (hgo : Going g s) : Kept g (s.offerOcc o) := by
  unfold State.offerOcc
  split
  · split
    · split
      · simp only
        split
        · exact (h.logRecord _).markEntry _ _
        · split
          · exact (h.takeOffer _ hgo).markEntry _ _
          · exact h
      · exact h
    · exact h
  · split
    · split
      · simp only
        split
        · exact (h.takeOffer _ hgo).markAdhoc _
        · exact h
      · exact h
    · exact h

theorem openTest (h : Kept g s) : Kept g s.openTest := by
  unfold State.openTest
  split
  · next hrunning =>
    refine foldl_going State.offerOcc_clock (fun o u hu hgo => hu.offerOcc o hgo) _ h fun _ hstopping => ?_
    rw [show s.sp.phase = .running from hrunning] at hstopping
    cases hstopping
  · exact h

theorem missOcc (h : Kept g s) (o : OccRef) : Kept g (s.missOcc o) := by
  unfold State.missOcc
  split
  · split
    · split
      · exact (h.logRecord _).markEntry _ _
      · exact h
    · split
      · exact (h.logRecord _).withAdhoc (keysRise_dropKey _ _)
      · exact h
  · exact h

theorem lateLimits (h : Kept g s) : Kept g s.lateLimits := by
  have htaken : Kept g (s.withSs { s.ss with lateDue := [] }) := h.withDue
  simp only [State.lateLimits]
  split
  · exact htaken.foldl fun o _ _ hu => hu.missOcc o
  · exact htaken

theorem adhocEnds (h : Kept g s) : Kept g s.adhocEnds := h.withAdhoc (keysRise_filter _ _)

theorem placeAdhoc (h : Kept g s) (slot : Nat) (x : AdHoc) : Kept g (s.placeAdhoc slot x) := by
  have hdropped : ∀ (u : State) (l : List Plan), Kept g u →
      Kept g (l.foldl (fun s p => s.dropPlan p (some (.suppressed, none))) u) :=
    fun _ _ hu => hu.foldl fun p _ _ hv => hv.dropPlan p _
  unfold State.placeAdhoc
  extract_lets y ss v ss' w
  have hv : Kept g v := h.withAdhoc (keysRise_putKey _ _ _)
  have hw : Kept g w := by
    simp only [w]
    split
    · exact hv.withDue
    · exact hv
  split
  · exact (hdropped _ _ hw).report _
  · exact hv

theorem swapAt (h : Kept g s) (instant : Nat) : Kept g (s.swapAt instant) := by
  unfold State.swapAt
  extract_lets late ss pending v ss' w x cp
  have hv : Kept g v := h.withSs fun ht => by
    simp only [State.tablesForm, Bool.and_eq_true] at ht ⊢
    obtain ⟨⟨⟨hrest, hactive⟩, hpending⟩, hadhoc⟩ := ht
    exact ⟨⟨⟨hrest, hpending⟩, hactive⟩, hadhoc⟩
  have hw : Kept g w := by
    simp only [w]
    split
    · exact hv.withDue
    · exact hv
  have hx : Kept g x := hw.foldl fun p _ _ hu => hu.dropPlan p none
  refine Kept.report (hx.mapPlans (f := fun p => match p.src with
    | .table _ i => { p with src := .table false i }
    | .adhoc _ => p) rfl fun p => ?_) _
  split
  · exact ⟨rfl, rfl, rfl, rfl, rfl, fun e => e⟩
  · exact ⟨rfl, rfl, rfl, rfl, rfl, fun e => e⟩

theorem armTest (h : Kept g s) : Kept g s.armTest := by
  unfold State.armTest
  split
  · split
    · exact h.swapAt _
    · exact h
  · exact h

theorem cancelTable (h : Kept g s) (idx : Nat) (e : Entry) : Kept g (s.cancelTable idx e) := by
  unfold State.cancelTable
  split
  · exact h
  · extract_lets opened ss active u v
    have hu : Kept g u := h.withActive (keysRise_map _ (fun p => by split <;> rfl) _)
    have hv : Kept g v := hu.cancelPlans _ fun p hp => (List.mem_filter.1 hp).1
    refine hv.foldl fun o _ w hw => ?_
    split
    · exact (hw.logRecord _).markEntry _ _
    · exact hw

theorem cancelAdhoc (h : Kept g s) (slot : Nat) (x : AdHoc) : Kept g (s.cancelAdhoc slot x) := by
  unfold State.cancelAdhoc
  split
  · exact h.cancelPlans _ fun p hp => (List.mem_filter.1 hp).1
  · refine Kept.withAdhoc ?_ (keysRise_dropKey _ _)
    split
    · exact h.logRecord _
    · exact h

/-! ## Peers (R31) -/

theorem absenceEffects (h : Kept g s) (station : Nat) : Kept g (s.absenceEffects station) :=
  (((h.dropPeerRecs station).dropPeerIntents station).markStation station true).removeOffset station

theorem peerAbsent (h : Kept g s) (station : Nat) : Kept g (s.peerAbsent station) :=
  (h.setPeer station _).absenceEffects station

theorem beaconPresence (h : Kept g s) (sender : Nat) (b : BeaconBody) : Kept g (s.beaconPresence sender b) := by
  have hheard : Kept g (s.hearPeer sender b.phase b.seq) := h.setPeer _ _
  simp only [State.beaconPresence]
  split <;> split
  · exact hheard
  · exact hheard.withFlags _
  · exact hheard.markStation _ _
  · exact (hheard.markStation _ _).withFlags _

/-! ## RESTART, JOINING, RUNNING (R32, R189, R191) -/

theorem blocksRestart (h : Kept g s) : Kept g s.blocksRestart := by
  have hplans := h.planRestart
  have hmap : Kept g (s.planRestart.withCm s.planRestart.cm.restart) := hplans.withCm (fun _ => rfl) fun _ => rfl
  have hlog : Kept g ((s.planRestart.withCm s.planRestart.cm.restart).withRl s.planRestart.rl.restart) :=
    hmap.withRl fun _ => rfl
  exact (((hlog.withPd _).withTb _).withHlc fun _ => rfl).tsRestart

theorem enterJoining (h : Kept g s) : Kept g s.enterJoining := by
  have hphase : Kept g (s.withSp { s.sp with
      phase := .joining, restartMark := false, cpStopped := false, cmStopped := false }) :=
    h.withSp (.inr fun e => by cases e)
  exact ((hphase.retime.beaconNow.withLink).edJoin).armTest

theorem restartJoining (h : Kept g s) : Kept g s.restartJoining := h.blocksRestart.enterJoining

theorem enterRunning (h : Kept g s) : Kept g s.enterRunning := by
  have hphase : Kept g (s.setPhase .running) := h.withSp (.inr fun e => by cases e)
  exact ((hphase.withLink).withDue).report _

/-! ## STOPPING and HALTED (R82, R96, R157, R190) -/

theorem enterHalted (h : Kept g s) : Kept g s.enterHalted := by
  have hphase : Kept g (s.withSp { s.sp with
      phase := .halted, restartMark := false, cpStopped := false, cmStopped := false }) :=
    h.withSp (.inr fun e => by cases e)
  exact (hphase.withLink).edStop

theorem stopTest (h : Kept g s) : Kept g s.stopTest := by
  simp only [State.stopTest]
  split
  · have htested : Kept g (s.withSp { s.sp with
        cpStopped := s.sp.cpStopped || s.cp.plans.isEmpty
        cmStopped := s.sp.cmStopped || (s.cm.own.isEmpty && s.cm.owedRel.isEmpty) }) := h.withSp (.inl rfl)
    split
    · split
      · exact htested.restartJoining
      · exact htested.enterHalted
    · exact htested
  · exact h

end Kept

/-- What was given but the bound of STOPPING, which does not hold as the station enters it. -/
def Given.unstopped (g : Given) : Given := { g with stop := False }

/-- The bounds but that of STOPPING outlast any change of phase. -/
theorem Kept.unstopped {g : Given} {s : State} (h : Kept g s) (v : Port) : Kept g.unstopped (s.withSp v) :=
  ⟨h.queued, h.map, h.tables, fun hg => hg.elim, h.plans, h.own, h.intents, h.power, h.floor⟩

/-- Where every plan of the queue is ENDING, the bound of STOPPING holds again. -/
theorem Kept.stopped {g : Given} {s : State} (h : Kept g.unstopped s) (hend : ∀ p ∈ s.cp.plans, p.state = .ending) :
    Kept g s :=
  ⟨h.queued, h.map, h.tables, fun _ _ => hend, h.plans, h.own, h.intents, h.power, h.floor⟩

theorem State.PlansOf.ending {s t : State} (h : s.PlansOf t) (hend : ∀ p ∈ s.cp.plans, p.state = .ending) :
    ∀ p ∈ t.cp.plans, p.state = .ending := fun q hq => by
  obtain ⟨x, hx, -, hstate⟩ := h q hq
  exact hstate ▸ hend x hx

@[simp] theorem State.cmStop_cp (s : State) : s.cmStop.cp = s.cp := foldl_cp (fun u b => u.endOwn_cp b _) _ _

namespace Kept
variable {g : Given} {s : State}

theorem enterStopping (h : Kept g s) (restart : Bool) : Kept g (s.enterStopping restart) := by
  unfold State.enterStopping
  extract_lets sp u v
  have hu : Kept g.unstopped u := h.unstopped _
  have hv : Kept g.unstopped v := (hu.planStop _).cmStop
  have hend : ∀ p ∈ v.cp.plans, p.state = .ending := by
    rw [State.cmStop_cp]
    exact u.planStop_ending _
  exact Kept.stopped (hv.cancelPick.report _) (v.plansOf_withdrawIntent.ending hend)

/-! ## LINK-FAULT (R22) -/

theorem allAbsent (h : Kept g s) : Kept g s.allAbsent := by
  have hmarked : Kept g (s.withHlc { s.hlc with
      presence := s.hlc.presence.map fun e => { e with present := false, absence := none } }) := h.withLink
  exact ((hmarked.foldl fun n _ _ hu => hu.absenceEffects n).emptyMap).filterIntents _

theorem enterLinkFault (h : Kept g s) : Kept g s.enterLinkFault := by
  have hphase : Kept g (s.withSp { s.sp with
      phase := .linkFault, restartMark := false, cpStopped := false, cmStopped := false }) :=
    h.withSp (.inr fun e => by cases e)
  have hlink : Kept g ((s.withSp { s.sp with
      phase := .linkFault, restartMark := false, cpStopped := false, cmStopped := false }).withHlc s.hlc.linkFault) :=
    hphase.withHlc fun _ => rfl
  exact ((hlink.rampDown.planStop _).cmLinkFault).rampLinkFault.edStop.allAbsent

end Kept
end Sys2Proof.Machine
end

section
/-! SUPPORT. Reports and commands keep the forms. -/

namespace Sys2Proof.Machine

-- Each pending proof holds a stack of its own: they are checked one after the other.
set_option Elab.async false

open Sys2Proof

namespace Kept
variable {g : Given} {s : State}

/-! ## Delivery -/

theorem deliver (h : Kept g s) (r : Report) : Kept g (Machine.deliver r s) := by
  cases r with
  | told req num what =>
    cases req with
    | plan id => exact h.planTold id num what
    | exercise => exact h.exerciseTold num what
  | permitTest => exact h.permitTest
  | viewChanged kind item => exact (h.planViewChanged kind item).report _
  | homeGone kind item => exact h.planHomeGone kind item
  | retryBlocked => exact h.retryBlocked
  | routeChoice id => exact h.chooseFor id
  | planLeft => exact h.recomputeAll.report _
  | contCheck => exact h.contCheck
  | moveRefused num kind item reason =>
    simp only [Machine.deliver, State.moveRefused]
    split
    · split
      · exact h.exerciseStops item
      · exact h.planMoveRefused num kind item reason
    · exact h.planMoveRefused num kind item reason
  | peerRefused num kind item reason => exact h.planMoveRefused num kind item reason
  | elementSet item => exact h.exerciseSet item
  | elementFault item => exact h.exerciseStops item
  | pickMade plan bySeq =>
    simp only [Machine.deliver, State.pickMade]
    split
    · exact h.restartPicked plan
    · exact h
  | pickRefused plan bySeq =>
    simp only [Machine.deliver, State.pickRefused]
    split
    · exact h.abandonRestart
    · exact h.planPickRefused plan
  | tuned => exact h.planTuned
  | tuneFailed => exact h.planTuneFailed
  | tripped => exact h.planTripped
  | lockedOut => exact h.planLockedOut
  | noRestart => exact h.planNoRestart
  | voidPin set way => exact h.voidPin set way
  | restartTest => exact h.restartTest
  | leaveTripped => exact h.leaveTripped
  | stopTest => exact h.stopTest
  | openTest => exact h.openTest

theorem drain (h : Kept g s) (n : Nat) : Kept g (Machine.drain n s) :=
  drain_induct (P := Kept g) (fun _ l hu => hu.withReports l) (fun r _ hu => hu.deliver r) n s h

/-! ## The events of bookings and ramp intents -/

theorem startChecked (h : Kept g s) : Kept g s.startChecked := by
  unfold State.startChecked
  split
  · next hready => exact h.startCheck hready
  · exact h

/-! ## The events of sending -/

theorem frameReported (h : Kept g s) (f : Frame) (seq : Nat) : Kept g (s.frameReported f seq) := by
  unfold State.frameReported
  split
  · exact h.claimSent _
  · exact h.intentSent _ _
  · exact h

theorem frameDropped (h : Kept g s) (f : Frame) : Kept g (s.frameDropped f) := by
  unfold State.frameDropped
  split
  · exact h.claimDropped _
  · exact h.withOwed
  · exact h.updOwn fun b => by split <;> rfl
  · exact h.positionDropped _
  · exact h.moveDropped _ _ _ _
  · exact h.intentDropped _
  · exact h

/-- A change of the link whose queue holds no frame it did not hold, in the order it had. -/
theorem withFewer (h : Kept g s) {v : Link}
    (hq : (v.queue.map QFrame.frame).Sublist (s.hlc.queue.map QFrame.frame))
    (hs : v.slots = s.hlc.slots := by rfl) : Kept g (s.withHlc v) :=
  h.withHlc fun hl => Link.queued_sublist hl hq (hs ▸ List.Sublist.refl _)

theorem charged_frames (l : Link) (hit : QFrame → Bool) :
    ((l.charge hit).1.queue.map QFrame.frame).Sublist (l.queue.map QFrame.frame) :=
  (l.charge_link hit).1 ▸ chargeFirst_frames hit l.queue

theorem chargeFrame (h : Kept g s) (hit : QFrame → Bool) : Kept g (s.chargeFrame hit) := by
  have hcharged : Kept g (s.withHlc (s.hlc.charge hit).1) :=
    h.withFewer (charged_frames s.hlc hit) (s.hlc.charge_link hit).2
  simp only [State.chargeFrame]
  split
  · exact hcharged.frameDropped _
  · exact hcharged

theorem attemptStart (h : Kept g s) : Kept g s.attemptStart := by
  unfold State.attemptStart Link.startAttempt
  split
  · split
    · exact h
    · next hq => exact h.withFewer (by simp [hq])
  · exact h

theorem ended_frames (l : Link) : l.endAttempt.queue.map QFrame.frame = l.queue.map QFrame.frame := by
  simp [Link.endAttempt, Function.comp_def]

theorem lostArbitration (h : Kept g s) : Kept g s.lostArbitration := by
  unfold State.lostArbitration
  split
  · exact h.withFewer (ended_frames s.hlc ▸ List.Sublist.refl _)
  · exact h

theorem attemptAbort (h : Kept g s) : Kept g s.attemptAbort := by
  have hended : Kept g (s.withHlc (s.hlc.charge QFrame.sending).1.endAttempt) :=
    h.withFewer (ended_frames (s.hlc.charge QFrame.sending).1 ▸ charged_frames s.hlc QFrame.sending)
      (s.hlc.charge_link QFrame.sending).2
  simp only [State.attemptAbort]
  split
  · split
    · exact hended.frameDropped _
    · exact hended
  · exact h

theorem busyTimeout (h : Kept g s) : Kept g s.busyTimeout := by
  unfold State.busyTimeout
  split
  · exact h.chargeFrame _
  · exact h

theorem linkFaultEntry (h : Kept g s) : Kept g s.linkFaultEntry := by
  unfold State.linkFaultEntry
  split
  · exact h.enterLinkFault
  · exact h

theorem frameSent (h : Kept g s) : Kept g s.frameSent := by
  unfold State.frameSent
  split
  · have hsent : Kept g (s.withHlc s.hlc.succeed) := h.withFewer (List.filter_sublist.map _)
    exact hsent.frameReported _ _
  · exact h

theorem slotEmptied (h : Kept g s) (b : Block) : Kept g (s.slotEmptied b) := by
  cases b with
  | cm => exact h.cmSlotEmptied
  | cp => exact h.cpSlotEmptied
  | ed => exact h.edSlotEmptied
  | rl => exact h.rampSlotEmptied
  | hlc => exact h

theorem slotEnters (h : Kept g s) : Kept g s.slotEnters := by
  unfold State.slotEnters
  split
  · next hroom =>
    split
    · next f rest hpick =>
      refine Kept.slotEmptied (h.withHlc fun hl => ?_) _
      obtain ⟨-, hq, hs, hb⟩ := s.hlc.queued_iff.1 hl
      obtain ⟨-, hrest⟩ := pickSlot_some hpick
      refine (Link.queued_iff _).2 ⟨?_, enqueue_pairwise f hq, hs.sublist hrest, fun k hk => hb k (hrest.subset hk)⟩
      rw [length_enqueue]
      exact hroom
    · exact h
  · exact h

theorem badFrame (h : Kept g s) : Kept g s.badFrame := h.withLink

theorem beaconTimer (h : Kept g s) : Kept g s.beaconTimer := by
  unfold State.beaconTimer
  split
  · exact h.beaconNow
  · exact h

theorem absenceEnds (h : Kept g s) (station : Nat) : Kept g (s.absenceEnds station) := by
  unfold State.absenceEnds
  split
  · exact h.peerAbsent station
  · exact h

theorem joiningEnds (h : Kept g s) : Kept g s.joiningEnds := by
  unfold State.joiningEnds
  split
  · exact h.enterRunning
  · exact h

/-! ## The frames heard -/

theorem followed (h : Kept g s) (f : Frame) : Kept g (s.withHlc (followFrame s.hlc.number f)) := by
  cases f <;> exact h.withLink

theorem receive (h : Kept g s) {hd : Head} {f : Frame} {act : Nat → State → State}
    (hact : ∀ n u, Kept g u → Kept g (act n u)) : Kept g (s.receive hd f act) := by
  simp only [State.receive]
  split
  · split
    · exact hact _ _ (h.followed f)
    · exact h.followed f
  · exact h.badFrame

theorem hearBeacon (h : Kept g s) (hd : Head) (b : BeaconBody) : Kept g (s.hearBeacon hd b) := by
  have hheard := h.followed (.beacon b)
  simp only [State.hearBeacon]
  split
  · split
    · exact ((hheard.beaconPresence _ _).hearList _ _ _).recordOffset hd
    · split
      · exact hheard.beaconPresence _ _
      · exact hheard
  · exact h.badFrame

theorem hearMove (h : Kept g s) (sender kind item num target : Nat) : Kept g (s.hearMove sender kind item num target) := by
  unfold State.hearMove
  split
  · exact h.request _ _
  · exact h.request _ _
  · exact h

/-! ## The instants of the planner -/

theorem changeover (h : Kept g s) : Kept g s.changeover := by
  unfold State.changeover
  split
  · exact h
  · exact h.armTest

theorem switchingStart (h : Kept g s) : Kept g s.switchingStart := by
  unfold State.switchingStart
  split
  · next p hp =>
    unfold State.switchReady at hp
    split at hp
    · next q rest hplans =>
      split at hp
      · next hcond =>
        cases hp
        obtain ⟨hready, -, hnone, -⟩ := hcond
        exact h.startSwitching (hplans ▸ List.mem_cons_self) hready hnone
      · cases hp
    · cases hp
  · exact h

theorem guardEnds (h : Kept g s) : Kept g s.guardEnds := by
  unfold State.guardEnds
  split
  · exact (h.withPlanner).recomputeAll
  · exact h

theorem planLate (h : Kept g s) (id : Nat) : Kept g (s.planLate id) := by
  have hend : ∀ p ∈ s.cp.plans, p.state.current = true → ∀ (c : Bool) (out : Option (AirOutcome × AirCause)),
      Kept g (if c = true then s.enterEnding p out else s) := fun p hp hc c out => by
    split
    · exact h.enterEnding (h.leads hp hc) out
    · exact h
  unfold State.planLate
  split
  · next p hp =>
    split
    · split
      · exact h.dropPlan p _
      · exact h.dropPlan p _
      · next hstate => exact hend p (State.mem_of_plan hp) (by rw [hstate]; rfl) _ _
      · next hstate => exact hend p (State.mem_of_plan hp) (by rw [hstate]; rfl) _ _
      · next hstate => exact hend p (State.mem_of_plan hp) (by rw [hstate]; rfl) _ _
      · exact h
    · exact h
  · exact h

theorem airStart (h : Kept g s) : Kept g s.airStart := by
  unfold State.airStart
  split
  · split
    · exact h.handProgram _
    · exact h
  · exact h

theorem airEnds (h : Kept g s) : Kept g s.airEnds := by
  unfold State.airEnds
  split
  · next hp =>
    split
    · exact h.airEnd hp
    · exact h
  · exact h

/-! ## The sequencer's timers -/

theorem atPowerTimeout (h : Kept g s) : Kept g s.atPowerTimeout := by
  unfold State.atPowerTimeout
  split
  · exact h.trip _
  · exact h

theorem foldIntervalEnds (h : Kept g s) : Kept g s.foldIntervalEnds := by
  unfold State.foldIntervalEnds
  split
  · exact h.withTimers
  · exact h

theorem floorEnds (h : Kept g s) : Kept g s.floorEnds := by
  unfold State.floorEnds
  split
  · exact h.trip _
  · exact h

/-! ## Time -/

theorem countTimers (h : Kept g s) : Kept g s.countTimers := by
  have hlink : Kept g (s.withHlc s.hlc.countTimers) := h.withLink
  have hdrive : Kept g ((s.withHlc s.hlc.countTimers).withEd (s.ed.countTimers (s.phase == .config))) := by
    unfold Drive.countTimers
    split
    · exact hlink.withDrive
    · simp only
      split <;> exact hlink.withDrive
  have hmap : Kept g (((s.withHlc s.hlc.countTimers).withEd (s.ed.countTimers (s.phase == .config))).withCm
      { s.cm with own := s.cm.own.map OwnBooking.count }) :=
    hdrive.withReqs (hr := by simp [Function.comp_def, OwnBooking.count])
  exact (hmap.withPlanner (v := { s.cp with guardT := countDown s.cp.guardT })).withTimers (v := s.ts.countTimers)

theorem secondWork (h : Kept g s) : Kept g s.secondWork := h.exerciseScan.report _

theorem tick (h : Kept g s) : Kept g s.tick := by
  unfold State.tick
  extract_lets missing poor advances flags s1 s2
  have hs2 : Kept g s2 := (((h.withTb _).withFlags _).countTimers).noteInstants _
  split
  · exact hs2.secondWork
  · exact hs2

theorem ppsEdge (h : Kept g s) (cycles : Nat) : Kept g (s.ppsEdge cycles) := by
  have hjudged : ∀ tb : Timebase, Kept g (((s.withTb tb).noteInstants s.absNow).afterGate s) := fun tb =>
    ((h.withTb tb).noteInstants _).afterGate s
  simp only [State.ppsEdge]
  split
  · exact h.withTb _
  · exact (h.withTb _).withFlags _
  · split
    · exact (hjudged _).secondWork
    · exact hjudged _

theorem hourEvent (h : Kept g s) : Kept g s.hourEvent := by
  unfold State.hourEvent
  split
  · exact (h.withTb _).withPd _
  · exact h

/-! ## The schedule port -/

/-- A change of the port that leaves the phase. -/
theorem withPort (h : Kept g s) {v : Port} (hv : v.phase = s.sp.phase := by rfl) : Kept g (s.withSp v) :=
  h.withSp (.inl hv)

theorem commandWindow (h : Kept g s) (code : Nat) (win : List Byte) : Kept g (s.commandWindow code win) := by
  unfold State.commandWindow
  extract_lets sp u
  have hu : Kept g u := h.withPort
  split
  · exact hu.withFlags _
  · simp only
    split
    · have hlost : Kept g (u.withSp { u.sp with response := none, hold := false }) := hu.withPort
      exact (hlost.withFlags _).withPort
    · exact hu.withPort

theorem fetchWindow (h : Kept g s) (count : Nat) : Kept g (s.fetchWindow count) := by
  simp only [State.fetchWindow]
  split
  · exact h
  · split
    · split
      · exact Kept.withPort (h.withPort)
      · exact h.withPort
    · exact h.withPort

theorem clearFlags (h : Kept g s) (mask : Nat) : Kept g (s.clearFlags mask) := by
  simp only [State.clearFlags]
  split
  · exact (h.withFlags _).withPd _
  · exact h.withFlags _

/-- New settings keep the bounds; that of the floor asks that they are the old ones. -/
theorem withCfg (h : Kept g s) {v : Settings} (hv : g.floor → v = s.cfg) : Kept g (s.withCfg v) :=
  ⟨h.queued, h.map, h.tables, h.stop, h.plans, h.own, h.intents, h.power, fun hg =>
    ⟨(hv hg).trans (h.floor hg).1, (h.floor hg).2⟩⟩

/-- New antenna records keep the bounds; that of the floor asks that they are the old ones. -/
theorem withAntennas (h : Kept g s) {v : Drive} (ht : s.tablesForm = true → (s.withEd v).tablesForm = true)
    (hv : g.floor → v.antennas = s.ed.antennas) : Kept g (s.withEd v) :=
  ⟨h.queued, h.map, fun hg => ht (h.tables hg), h.stop, h.plans, h.own, h.intents, h.power, fun hg =>
    ⟨(h.floor hg).1, (hv hg).trans (h.floor hg).2.1, (h.floor hg).2.2⟩⟩

end Kept
end Sys2Proof.Machine
end

section
/-! SUPPORT. Completed commands keep the forms, and with them every step. -/

namespace Sys2Proof.Machine

-- Each pending proof holds a stack of its own: they are checked one after the other.
set_option Elab.async false

open Sys2Proof

namespace Kept
variable {g : Given} {s : State}

/-- Of the home tables only the antennas are read by the bound of the floor. -/
theorem withTables (h : Kept g s) {v : Drive} (ha : v.antennas = s.ed.antennas := by rfl)
    (he : keysRise s.ed.elements = true → keysRise v.elements = true)
    (hr : keysRise s.ed.routes = true → keysRise v.routes = true)
    (hev : keysRise s.ed.elView = true → keysRise v.elView = true) (hav : v.anView = s.ed.anView := by rfl) :
    Kept g (s.withEd v) :=
  h.withEd (fun ht => by
    simp only [State.tablesForm, Bool.and_eq_true] at ht ⊢
    obtain ⟨⟨⟨⟨⟨⟨⟨h1, h2⟩, h3⟩, h4⟩, h5⟩, h6⟩, h7⟩, h8⟩ := ht
    exact ⟨⟨⟨⟨⟨⟨⟨he h1, ha ▸ h2⟩, hr h3⟩, hev h4⟩, hav ▸ h5⟩, h6⟩, h7⟩, h8⟩) ha

theorem doLoadElement (h : Kept g s) (l : List Byte) : Kept g (s.doLoadElement l).state := by
  simp only [State.doLoadElement]
  split
  · exact h
  · split
    · exact h
    · split
      · exact h
      · exact h.withTables (he := keysRise_putKey _ _ _) (hr := fun e => e) (hev := keysRise_putKey _ _ _)

theorem doLoadRoute (h : Kept g s) (l : List Byte) : Kept g (s.doLoadRoute l).state := by
  simp only [State.doLoadRoute]
  split
  · exact h
  · split
    · exact h
    · exact h.withTables (he := fun e => e) (hr := keysRise_putKey _ _ _) (hev := fun e => e)

theorem doLoadAntenna (h : Kept g s) (l : List Byte)
    (hsame : g.floor → (s.doLoadAntenna l).state.ed.antennas = s.ed.antennas) : Kept g (s.doLoadAntenna l).state := by
  simp only [State.doLoadAntenna] at hsame ⊢
  split
  · exact h
  · next hok =>
    split
    · exact h
    · next hroom =>
      rw [if_neg hok, if_neg hroom] at hsame
      refine h.withAntennas (fun ht => ?_) hsame
      simp only [State.tablesForm, Bool.and_eq_true] at ht ⊢
      obtain ⟨⟨⟨⟨⟨⟨⟨h1, h2⟩, h3⟩, h4⟩, h5⟩, h6⟩, h7⟩, h8⟩ := ht
      exact ⟨⟨⟨⟨⟨⟨⟨h1, keysRise_putKey _ _ _ h2⟩, h3⟩, h4⟩, keysRise_putKey _ _ _ h5⟩, h6⟩, h7⟩, h8⟩

theorem doSetStation (h : Kept g s) (l : List Byte) (hsame : g.floor → (s.doSetStation l).state.cfg = s.cfg) :
    Kept g (s.doSetStation l).state := by
  have hload : ∀ (u : State) (c : Settings), Kept g u → u.cfg = s.cfg → u.sp.phase = s.sp.phase →
      (g.floor → c = s.cfg) → Kept g ((u.withCfg c).withSp { s.sp with stationLoaded := true }) :=
    fun u c hu hcfg hphase hc => (hu.withCfg fun hg => (hc hg).trans hcfg.symm).withPort hphase.symm
  unfold State.doSetStation at hsame ⊢
  split
  · exact h
  · next hid =>
    rw [if_neg hid] at hsame
    refine hload _ _ ?_ ?_ ?_ hsame <;> split
    · exact h
    · exact (h.withTb _).withFreeCtr _
    · rfl
    · rfl
    · rfl
    · rfl

theorem doSetTiming (h : Kept g s) (l : List Byte) (hsame : g.floor → (s.doSetTiming l).state.cfg = s.cfg) :
    Kept g (s.doSetTiming l).state := (h.withCfg hsame).withPort

/-- The effect of a command keeps the bounds; that of the floor asks of a load of settings or antennas that it leaves
them. -/
theorem effect (h : Kept g s) (code : Nat) (l : List Byte) (hsame : code = 1 ∨ code = 2 ∨ code = 4 → g.floor →
      (s.effect code l).state.cfg = s.cfg ∧ (s.effect code l).state.ed.antennas = s.ed.antennas) :
    Kept g (s.effect code l).state := by
  unfold State.effect
  split
  · exact h.doSetStation l fun hg => (hsame (.inl rfl) hg).1
  · exact h.doSetTiming l fun hg => (hsame (.inr (.inl rfl)) hg).1
  · exact h.doLoadElement l
  · exact h.doLoadAntenna l fun hg => (hsame (.inr (.inr rfl)) hg).2
  · exact h.doLoadRoute l
  · simp only [State.doSetTime]
    split
    · exact h
    · exact (h.withTb _).noteInstants _
  · unfold State.doStart
    split
    · exact h.enterJoining
    · exact h
  · exact h
  · exact h.clearFlags _
  · exact h.withPort
  · simp only [State.doReadPreset]
    split <;> exact h
  · simp only [State.doWritePreset]
    split
    · exact h
    · split
      · exact h
      · exact h.withPd _
  · unfold State.doReadPlan
    split <;> exact h
  · unfold State.doReadBooking
    split <;> exact h
  · simp only [State.doReadElement]
    (repeat' split) <;> exact h
  · simp only [State.doLoadEntry]
    split
    · exact h.loadEntry _
    · exact h
  · exact h.clearPending
  · simp only [State.doArm]
    split
    · exact h
    · exact h.withDue
  · exact h.swapAt _
  · simp only [State.doLoadAdhoc]
    split
    · exact h
    · split
      · exact h.placeAdhoc _ _
      · exact h
  · simp only [State.doCancel]
    split
    · split
      · exact h.cancelTable _ _
      · exact h
    · split
      · exact h.cancelAdhoc _ _
      · exact h
    · exact h
  · have hact : ∀ kind : ItemKind, Kept g (if s.isHome kind (field l 1 1) = false ∨ 1 < field l 2 1 then s.answer .badArg
        else if field l 2 1 = 0 then (s.serviceOut kind (field l 1 1)).answer .ok
        else (s.serviceIn kind (field l 1 1)).answer .ok).state := fun kind => by
      split
      · exact h
      · split
        · exact h.serviceOut _ _
        · exact h.serviceIn _ _
    simp only [State.doService]
    split
    · exact hact _
    · exact hact _
    · exact h
  · simp only [State.doPresetMode]
    split
    · exact h
    · exact h.withPd _
  · simp only [State.doSetWindow]
    split
    · exact h
    · exact h.withPd _
  · exact h.clearLockout
  · unfold State.doStop
    split
    · exact h.enterHalted
    · exact h.enterStopping false
    · exact h
  · unfold State.doRestart
    split
    · exact h.enterStopping true
    · exact h.restartJoining
    · exact h.restartJoining
    · exact h
  · exact h

end Kept

/-- The loads of settings and antennas report nothing. -/
theorem State.load_reports (s : State) (l : List Byte) {code : Nat} (hcode : code = 1 ∨ code = 2 ∨ code = 4) :
    (s.effect code l).state.reports = s.reports := by
  rcases hcode with rfl | rfl | rfl
  · simp only [State.effect, State.doSetStation]
    split
    · rfl
    · split <;> rfl
  · rfl
  · simp only [State.effect, State.doLoadAntenna]
    split
    · rfl
    · split <;> rfl

namespace Kept
variable {g : Given} {s : State}

theorem complete (h : Kept g s) (hsame : s.complete.reports = s.reports → g.floor →
      s.complete.cfg = s.cfg ∧ s.complete.ed.antennas = s.ed.antennas) : Kept g s.complete := by
  unfold State.complete at hsame ⊢
  split
  · next t hresp htaken =>
    rw [hresp, htaken] at hsame
    simp only [State.judge] at hsame ⊢
    split
    · exact h.withPort
    · next hanswer =>
      rw [hanswer] at hsame
      exact (h.effect _ _ fun hcode => hsame (s.load_reports _ hcode)).withPort
  · exact h

/-- Pin reset gives a state within its bounds; that of the floor asks that the settings and the antennas were those of
reset. -/
theorem pinReset (s : State) (hcfg : g.floor → State.reset.cfg = g.cfg)
    (hant : g.floor → State.reset.ed.antennas = g.antennas) : Kept g s.pinReset where
  queued _ := rfl
  map _ := rfl
  tables _ := rfl
  stop _ hphase := by cases hphase
  plans _ := (State.reset.planBound_iff).1 rfl
  own _ := rfl
  intents _ := rfl
  power _ := rfl
  floor hg := by
    refine ⟨hcfg hg, hant hg, fun hv => ?_, fun p hp => by cases hp⟩
    rcases hv with e | e | e <;> cases e

/-- Every command keeps the bounds. -/
theorem exec (h : Kept g s) {t : State} {c : Instr} (hstep : Machine.exec c s = .next t)
    (hsame : g.floor → t.cfg = s.cfg ∧ t.ed.antennas = s.ed.antennas) : Kept g t := by
  have ofRun : ∀ f : State → State, (∀ u, Kept g u → Kept g (f u)) → run f s = .next t → Kept g t := by
    intro f hf hrun
    cases hrun
    exact (hf _ (h.withReports [])).drain _
  cases c with
  | pinReset =>
    cases (run_rest State.pinReset s rfl).symm.trans hstep
    exact Kept.pinReset _ (fun hg => (hsame hg).1.trans (h.floor hg).1) fun hg => (hsame hg).2.trans (h.floor hg).2.1
  | commandCompletion =>
    cases hstep
    refine ((h.withReports []).complete fun hnone => ?_).drain _
    rw [drain_rest _ _ hnone] at hsame
    exact hsame
  | unknownCommand code win =>
    refine ofRun (fun s => if code.toNat = 0 ∨ isCommand code.toNat = true then s else s.commandWindow code.toNat win)
      (fun u hu => ?_) hstep
    split
    · exact hu
    · exact hu.commandWindow _ _
  | setTime win | loadElement win | loadAntenna win | loadRoute win | service win | loadEntry win | clearPending win
  | loadAdhoc win | armChangeover win | swapNow win | cancelEntry win | readPreset win | writePreset win
  | presetMode win | setWindow win | readPlan win | clearLockout win | setStation win | setTiming win | start win
  | stop win | restart win | readStatus win | clearFlags win | readLog win | readBooking win | readElement win =>
    exact ofRun _ (fun _ hu => hu.commandWindow _ _) hstep
  | tick => exact ofRun _ (fun _ hu => hu.tick) hstep
  | ppsEdge cycles => exact ofRun _ (fun _ hu => hu.ppsEdge cycles) hstep
  | hourEvent => exact ofRun _ (fun _ hu => hu.hourEvent) hstep
  | idleSecond => exact ofRun _ (fun _ hu => hu.idleEvent) hstep
  | attemptStart => exact ofRun _ (fun _ hu => hu.attemptStart) hstep
  | lostArbitration => exact ofRun _ (fun _ hu => hu.lostArbitration) hstep
  | attemptAbort => exact ofRun _ (fun _ hu => hu.attemptAbort) hstep
  | busyTimeout => exact ofRun _ (fun _ hu => hu.busyTimeout) hstep
  | linkFaultEntry => exact ofRun _ (fun _ hu => hu.linkFaultEntry) hstep
  | frameSent => exact ofRun _ (fun _ hu => hu.frameSent) hstep
  | pendingSlotEmptied => exact ofRun _ (fun _ hu => hu.slotEnters) hstep
  | badFrame => exact ofRun _ (fun _ hu => hu.badFrame) hstep
  | beacon hd b => exact ofRun _ (fun _ hu => hu.hearBeacon hd b) hstep
  | claim hd d => exact ofRun _ (fun _ hu => hu.receive fun _ _ hv => hv.hearClaim d) hstep
  | object hd c n o => exact ofRun _ (fun _ hu => hu.receive fun _ _ hv => hv.hearObject c n) hstep
  | release hd n => exact ofRun _ (fun _ hu => hu.receive fun _ _ hv => hv.hearRelease _ n) hstep
  | air hd n => exact ofRun _ (fun _ hu => hu.receive fun _ _ hv => hv.hearAir _ n) hstep
  | move hd k i n x => exact ofRun _ (fun _ hu => hu.receive fun _ _ hv => hv.hearMove _ k i n x) hstep
  | position hd p => exact ofRun _ (fun _ hu => hu.receive fun _ _ hv => hv.hearPosition _ p) hstep
  | rampIntent hd n x => exact ofRun _ (fun _ hu => hu.receive fun order _ hv => hv.hearIntent _ n x order) hstep
  | rampCancel hd n => exact ofRun _ (fun _ hu => hu.receive fun _ _ hv => hv.hearCancel _ n) hstep
  | beaconTimer => exact ofRun _ (fun _ hu => hu.beaconTimer) hstep
  | peerAbsent n => exact ofRun _ (fun _ hu => hu.absenceEnds n) hstep
  | joiningTimerEnd => exact ofRun _ (fun _ hu => hu.joiningEnds) hstep
  | driveTurn => exact ofRun _ (fun _ hu => hu.driveTurn) hstep
  | targetSensed => exact ofRun _ (fun _ hu => hu.targetSensed) hstep
  | motionTimeout valid code => exact ofRun _ (fun _ hu => hu.motionTimeout valid code) hstep
  | slewTurn => exact ofRun _ (fun _ hu => hu.slewTurn) hstep
  | slewTargetSensed => exact ofRun _ (fun _ hu => hu.slewSensed) hstep
  | slewTimeout code => exact ofRun _ (fun _ hu => hu.slewTimeout code) hstep
  | unbiddenChange kind chan valid code => exact ofRun _ (fun _ hu => hu.unbidden kind chan valid code) hstep
  | listenTimerEnd n => exact ofRun _ (fun _ hu => hu.listenEnds n) hstep
  | confirmTimerEnd n => exact ofRun _ (fun _ hu => hu.confirmEnds n) hstep
  | ownBookingUntil => exact ofRun _ (fun _ hu => hu.ownUntils) hstep
  | peerRecordExpiry => exact ofRun _ (fun _ hu => hu.expireRecs) hstep
  | intentExpiry => exact ofRun _ (fun _ hu => hu.expireIntents) hstep
  | startCheck => exact ofRun _ (fun _ hu => hu.startChecked) hstep
  | changeoverInstant => exact ofRun _ (fun _ hu => hu.changeover) hstep
  | planningInstant => exact ofRun _ (fun _ hu => hu.openTest) hstep
  | occurrenceLateLimit => exact ofRun _ (fun _ hu => hu.lateLimits) hstep
  | adHocEnd => exact ofRun _ (fun _ hu => hu.adhocEnds) hstep
  | switchingStart => exact ofRun _ (fun _ hu => hu.switchingStart) hstep
  | guardTimerEnd => exact ofRun _ (fun _ hu => hu.guardEnds) hstep
  | planLateLimit plan => exact ofRun _ (fun _ hu => hu.planLate plan) hstep
  | airStart => exact ofRun _ (fun _ hu => hu.airStart) hstep
  | airEnd => exact ofRun _ (fun _ hu => hu.airEnds) hstep
  | tuned tune load band => exact ofRun _ (fun _ hu => hu.takeTuned tune load band) hstep
  | tuneFail code => exact ofRun _ (fun _ hu => hu.takeTuneFail code) hstep
  | tuneTimeout => exact ofRun _ (fun _ hu => hu.tuneTimeout) hstep
  | atPower => exact ofRun _ (fun _ hu => hu.atPower) hstep
  | atPowerTimeout => exact ofRun _ (fun _ hu => hu.atPowerTimeout) hstep
  | rfOff => exact ofRun _ (fun _ hu => hu.takeRfOff) hstep
  | rfOffTimeout => exact ofRun _ (fun _ hu => hu.rfOffTimeout) hstep
  | rfSenseChange high => exact ofRun _ (fun _ hu => hu.rfSense high) hstep
  | meter pf pr => exact ofRun _ (fun _ hu => hu.takeMeter pf pr) hstep
  | fault cause => exact ofRun _ (fun _ hu => hu.takeFault cause) hstep
  | txReportDiscarded why => exact ofRun _ (fun _ hu => hu.lineError) hstep
  | meterLost => exact ofRun _ (fun _ hu => hu.meterLoss) hstep
  | meterTimeout => exact ofRun _ (fun _ hu => hu.meterTimeout) hstep
  | foldIntervalEnd => exact ofRun _ (fun _ hu => hu.foldIntervalEnds) hstep
  | foldFloor => exact ofRun _ (fun _ hu => hu.floorEnds) hstep
  | recovery => exact ofRun _ (fun _ hu => hu.recover) hstep
  | strayRfTimeout => exact ofRun _ (fun _ hu => hu.strayTimeout) hstep
  | restartDelayEnd => exact ofRun _ (fun _ hu => hu.restartDelayEnds) hstep
  | tripLogExpiry => exact ofRun _ (fun _ hu => hu.dropTrips) hstep
  | fetch count => exact ofRun _ (fun _ hu => hu.fetchWindow count) hstep

end Kept

/-! ## What a step is given -/

/-- The bounds of a state before a step; the floor's where the step leaves the settings and the antennas. -/
def State.given (s : State) (same : Prop) : Given where
  forms    := s.formsKept = true
  stop     := s.stopEnds = true
  plans    := s.planBound = true
  own      := s.cm.ownBound = true
  intents  := s.rl.intentBound = true
  power    := s.ts.powerBound = true
  floor    := same ∧ s.planBound = true ∧ s.ts.powerBound = true ∧ s.powerFloor = true
  cfg      := s.cfg
  antennas := s.ed.antennas
  plansOfFloor hg := hg.2.1
  powerOfFloor hg := hg.2.2.1

theorem State.stopEnds_iff (s : State) : s.stopEnds = true ↔
    (s.sp.phase = .stopping → ∀ p ∈ s.cp.plans, p.state = .ending) := by
  simp [State.stopEnds, State.phase, Decidable.imp_iff_not_or]

theorem State.formsKept_iff (s : State) : s.formsKept = true ↔
    s.hlc.queued = true ∧ s.cm.mapForm = true ∧ s.tablesForm = true := by
  simp [State.formsKept, and_assoc]

/-- A state keeps what it is given. -/
theorem State.kept_given (s : State) (same : Prop) : Kept (s.given same) s where
  queued hg := (s.formsKept_iff.1 hg).1
  map hg := (s.formsKept_iff.1 hg).2.1
  tables hg := (s.formsKept_iff.1 hg).2.2
  stop hg := s.stopEnds_iff.1 hg
  plans hg := s.planBound_iff.1 hg
  own hg := hg
  intents hg := hg
  power hg := hg
  floor hg := ⟨rfl, rfl, (s.powerFloor_iff (g := s.given same) rfl rfl).1 hg.2.2.2⟩

end Sys2Proof.Machine
end

section
open Sys2Proof Sys2Proof.Machine

/-- Settles O60: every operation of a command and every report it delivers keeps what the state before was given. -/
theorem formsAreKept : Obligations.FormsAreKept := by
  intro s t h
  have hkept : Kept (s.given (t.cfg = s.cfg ∧ t.ed.antennas = s.ed.antennas)) t := by
    have hs := s.kept_given (t.cfg = s.cfg ∧ t.ed.antennas = s.ed.antennas)
    unfold step at h
    split at h
    · cases h
      exact hs
    · exact (hs.withPending _).exec h fun hg => hg.1
  refine ⟨fun hg => t.formsKept_iff.2 ⟨hkept.queued hg, hkept.map hg, hkept.tables hg⟩,
    fun hg => t.stopEnds_iff.2 (hkept.stop hg), fun hg => t.planBound_iff.2 (hkept.plans hg), hkept.own,
    ClaimMap.length_own, hkept.intents, hkept.power, fun hcfg hant hplans hpower hfloor => ?_⟩
  obtain ⟨hc, ha, hheld⟩ := hkept.floor ⟨⟨hcfg, hant⟩, hplans, hpower, hfloor⟩
  exact (t.powerFloor_iff hc ha).2 hheld

end

section
/-! SUPPORT. Frames heard that are bad, or good and kept from acting (R15, R25, R26, R27, R200). -/

namespace Sys2Proof.Machine

open Sys2Proof

section
variable {s : State} {hd : Head} {f : Frame} {act : Nat → State → State}

theorem State.receive_bad (hbad : s.goodFrame hd f = false) : s.receive hd f act = s.badFrame := by
  unfold State.receive
  rw [if_neg (by simp [hbad])]

/-- A good frame that its phase or its header tick keeps from acting is numbered, and its stamp is followed. -/
theorem State.receive_unread (hgood : s.goodFrame hd f = true) (hidle : (dispatchesIn s.phase && headReadable hd) = false) :
    s.receive hd f act = s.withHlc (followFrame s.hlc.number f) := by
  unfold State.receive
  rw [if_pos hgood]
  exact if_neg (by simpa [State.phase] using hidle)

theorem State.hearBeacon_bad {b : BeaconBody} (hbad : s.goodFrame hd (.beacon b) = false) :
    s.hearBeacon hd b = s.badFrame := by
  unfold State.hearBeacon
  rw [if_neg (by simp [hbad])]

/-- In CONFIG and LINK-FAULT a good BEACON is numbered, and its counter is followed. -/
theorem State.hearBeacon_unread {b : BeaconBody} (hgood : s.goodFrame hd (.beacon b) = true)
    (hphase : s.sp.phase = .config ∨ s.sp.phase = .linkFault) :
    s.hearBeacon hd b = s.withHlc (followFrame s.hlc.number (.beacon b)) := by
  unfold State.hearBeacon
  rw [if_pos hgood]
  rcases hphase with hp | hp <;> simp [State.phase, hp, dispatchesIn]

/-- A frame that is no BEACON is received for its kind's block. -/
theorem exec_frame_receive (hf : isBeacon f = false) :
    ∃ act : Nat → State → State, exec (frameCommand hd f) s = run (fun u => u.receive hd f act) s := by
  cases f with
  | beacon b => cases hf
  | _ => exact ⟨_, rfl⟩

/-- A bad frame of any kind is only counted. -/
theorem exec_frame_bad (hbad : s.goodFrame hd f = false) :
    exec (frameCommand hd f) s = .next (s.withReports []).badFrame := by
  have hbad' : (s.withReports []).goodFrame hd f = false := hbad
  cases hf : isBeacon f with
  | true =>
    cases f with
    | beacon b =>
      have he := State.hearBeacon_bad hbad'
      exact (run_rest (fun u => u.hearBeacon hd b) s (congrArg State.reports he)).trans (congrArg _ he)
    | _ => cases hf
  | false =>
    obtain ⟨act, he⟩ := exec_frame_receive (s := s) (hd := hd) hf
    rw [he, run_rest _ s (congrArg State.reports (State.receive_bad hbad')), State.receive_bad hbad']

/-- A good frame kept from acting is only numbered and its stamp followed. -/
theorem exec_frame_unread (hgood : s.goodFrame hd f = true) (hidle : s.sp.phase = .config ∨ s.sp.phase = .linkFault
      ∨ (isBeacon f = false ∧ (s.sp.phase = .halted ∨ 60480000 ≤ hd.tick))) :
    exec (frameCommand hd f) s = .next ((s.withReports []).withHlc (followFrame s.hlc.number f)) := by
  have hgood' : (s.withReports []).goodFrame hd f = true := hgood
  cases hf : isBeacon f with
  | true =>
    cases f with
    | beacon b =>
      have he := State.hearBeacon_unread hgood' (by simpa [isBeacon] using hidle)
      exact (run_rest (fun u => u.hearBeacon hd b) s (congrArg State.reports he)).trans (congrArg _ he)
    | _ => cases hf
  | false =>
    have hunread : (dispatchesIn (s.withReports []).phase && headReadable hd) = false := by
      rcases hidle with hp | hp | ⟨-, hp | htick⟩
      · simp [State.phase, hp, dispatchesIn]
      · simp [State.phase, hp, dispatchesIn]
      · simp [State.phase, hp, dispatchesIn]
      · simp [headReadable, Config.weekTicks, Nat.not_lt.2 htick]
    obtain ⟨act, he⟩ := exec_frame_receive (s := s) (hd := hd) hf
    rw [he, run_rest _ s (congrArg State.reports (State.receive_unread hgood' hunread)),
      State.receive_unread hgood' hunread]
    rfl

end
end Sys2Proof.Machine
end

section
open Sys2Proof Sys2Proof.Machine

/-- Settles O13: a bad frame goes to the error count alone, and a good one that is kept from acting to the link alone. -/
theorem badFramesCountGoodFramesNumber : Obligations.BadFramesCountGoodFramesNumber := by
  refine ⟨fun s h f => ⟨run_rest State.badFrame s rfl, exec_frame_bad⟩, fun s h f hgood hidle => ?_⟩
  rw [exec_frame_unread hgood hidle]
  cases f <;> rfl

end

section
/-! SUPPORT. What the reports of one step leave alone as they are acted on: the peers' presence, records, intents and marks,
the link's numbers, the pending table and the items' records; and the drive, where no report is for the exercise. -/

namespace Sys2Proof.Machine

-- Each pending proof holds a stack of its own: they are checked one after the other.
set_option Elab.async false

open Sys2Proof

/-- A report that asks nothing of the element drive's exercise. -/
def Report.calm : Report → Bool
  | .told req _ what => decide (req ≠ .exercise) || decide (what = .released)
  | .moveRefused _ _ _ _ | .elementSet _ | .elementFault _ => false
  | _ => true

/-- What a state keeps of an earlier one as reports are acted on; under `quiet` every report is calm and the drive is as
it was. -/
structure Spared (quiet : Prop) (s t : State) : Prop where
  phase    : t.sp.phase = s.sp.phase
  presence : t.hlc.presence = s.hlc.presence
  joiningT : t.hlc.joiningT = s.hlc.joiningT
  seq      : t.hlc.seq = s.hlc.seq
  stamp    : s.hlc.stamp ≤ 4294967295 → s.hlc.stamp ≤ t.hlc.stamp ∧ t.hlc.stamp ≤ 4294967295
  map      : t.cm.map = s.cm.map
  horizon  : t.cm.horizon = s.cm.horizon
  intents  : ∀ x ∈ t.rl.intents, x.own = none → x ∈ s.rl.intents
  pending  : t.ss.pending = s.ss.pending
  mismatch : t.flags.profileMismatch = s.flags.profileMismatch
  elements : t.ed.elements = s.ed.elements
  antennas : t.ed.antennas = s.ed.antennas
  elAbsent : ∀ i, (t.elv i).homeAbsent = (s.elv i).homeAbsent
  anAbsent : ∀ i, (t.anv i).homeAbsent = (s.anv i).homeAbsent
  calm     : quiet → t.ed = s.ed ∧ ∀ r ∈ t.reports, r.calm = true

theorem Spared.refl {quiet : Prop} (s : State) (hs : quiet → ∀ r ∈ s.reports, r.calm = true) : Spared quiet s s :=
  ⟨rfl, rfl, rfl, rfl, fun h => ⟨Nat.le_refl _, h⟩, rfl, rfl, fun _ hx _ => hx, rfl, rfl, rfl, rfl, fun _ => rfl,
    fun _ => rfl, fun hq => ⟨rfl, hs hq⟩⟩

/-- A taken offer changes the queue and the slots alone. -/
theorem Link.offer_some {l l' : Link} {f : Frame} (h : l.offer f = some l') :
    ∃ (queue : List QFrame) (slots : List Frame), l' = { l with queue := queue, slots := slots } := by
  unfold Link.offer at h
  split at h
  · exact ⟨_, l.slots, (Option.some.inj h).symm⟩
  · split at h
    · exact ⟨l.queue, l.slots, (Option.some.inj h).symm⟩
    · split at h
      · cases h
      · split at h
        · exact ⟨_, l.slots, (Option.some.inj h).symm⟩
        · exact ⟨l.queue, _, (Option.some.inj h).symm⟩

theorem State.offer_stamp (s : State) (f : Frame) : (s.offer f).1.hlc.stamp = s.hlc.stamp := by
  rcases s.offer_cases f with e | ⟨l, -, hl, e⟩ <;> rw [e]
  obtain ⟨q, slots, rfl⟩ := Link.offer_some hl
  rfl

namespace Spared

variable {quiet : Prop} {s0 s : State}

/-! ## Setters -/

theorem withHlc (h : Spared quiet s0 s) {v : Link} (hp : v.presence = s.hlc.presence := by rfl)
    (hj : v.joiningT = s.hlc.joiningT := by rfl) (hn : v.seq = s.hlc.seq := by rfl)
    (ht : s.hlc.stamp ≤ 4294967295 → s.hlc.stamp ≤ v.stamp ∧ v.stamp ≤ 4294967295 := by
      exact fun h => ⟨Nat.le_refl _, h⟩) : Spared quiet s0 (s.withHlc v) :=
  { h with
    presence := hp.trans h.presence, joiningT := hj.trans h.joiningT, seq := hn.trans h.seq
    stamp := fun h0 =>
      have hs := h.stamp h0
      ⟨Nat.le_trans hs.1 (ht hs.2).1, (ht hs.2).2⟩ }

theorem withCm (h : Spared quiet s0 s) {v : ClaimMap} (hm : v.map = s.cm.map := by rfl)
    (hh : v.horizon = s.cm.horizon := by rfl) : Spared quiet s0 (s.withCm v) :=
  { h with map := hm.trans h.map, horizon := hh.trans h.horizon }

theorem withRl (h : Spared quiet s0 s) {v : RampLog}
    (hv : ∀ x ∈ v.intents, x.own = none → x ∈ s.rl.intents := by exact fun _ hx _ => hx) :
    Spared quiet s0 (s.withRl v) :=
  { h with intents := fun x hx hown => h.intents x (hv x hx hown) hown }

theorem withCp (h : Spared quiet s0 s) (v : Planner) : Spared quiet s0 (s.withCp v) := { h with }

theorem withTs (h : Spared quiet s0 s) (v : Sequencer) : Spared quiet s0 (s.withTs v) := { h with }

theorem withPd (h : Spared quiet s0 s) (v : Directory) : Spared quiet s0 (s.withPd v) := { h with }

theorem withSs (h : Spared quiet s0 s) {v : Schedule} (hv : v.pending = s.ss.pending := by rfl) :
    Spared quiet s0 (s.withSs v) :=
  { h with pending := hv.trans h.pending }

theorem withSp (h : Spared quiet s0 s) {v : Port} (hv : v.phase = s.sp.phase := by rfl) : Spared quiet s0 (s.withSp v) :=
  { h with phase := hv.trans h.phase }

theorem withFlags (h : Spared quiet s0 s) {v : Flags} (hv : v.profileMismatch = s.flags.profileMismatch := by rfl) :
    Spared quiet s0 (s.withFlags v) :=
  { h with mismatch := hv.trans h.mismatch }

theorem report (h : Spared quiet s0 s) {rs : List Report}
    (hrs : quiet → ∀ r ∈ rs, r.calm = true := by exact fun _ => by simp [Report.calm]) :
    Spared quiet s0 (s.report rs) :=
  { h with calm := fun hq => ⟨(h.calm hq).1, fun r hr =>
      (List.mem_append.1 hr).elim ((h.calm hq).2 r) (hrs hq r)⟩ }

/-- A change of the drive that leaves the home absent marks; no quiet one. -/
theorem withEd (h : Spared quiet s0 s) (hq : ¬ quiet) {v : Drive}
    (he : ∀ i, ((s.withEd v).elv i).homeAbsent = (s.elv i).homeAbsent := by exact fun _ => rfl)
    (ha : ∀ i, ((s.withEd v).anv i).homeAbsent = (s.anv i).homeAbsent := by exact fun _ => rfl)
    (hel : v.elements = s.ed.elements := by rfl) (han : v.antennas = s.ed.antennas := by rfl) :
    Spared quiet s0 (s.withEd v) :=
  { h with
    elements := hel.trans h.elements, antennas := han.trans h.antennas
    elAbsent := fun i => (he i).trans (h.elAbsent i), anAbsent := fun i => (ha i).trans (h.anAbsent i)
    calm := fun hq' => absurd hq' hq }

theorem loud (h : Spared quiet s0 s) (hq : ¬ quiet) {rs : List Report} : Spared quiet s0 (s.report rs) :=
  h.report fun hq' => absurd hq' hq

theorem foldl {α : Type} {f : State → α → State} (hf : ∀ u x, Spared quiet s0 u → Spared quiet s0 (f u x)) (l : List α) :
    ∀ {s : State}, Spared quiet s0 s → Spared quiet s0 (l.foldl f s) := by
  induction l with
  | nil => exact fun h => h
  | cons x l ih => exact fun h => ih (hf _ x h)

/-! ## The link and own bookings -/

theorem offer (h : Spared quiet s0 s) (f : Frame) : Spared quiet s0 (s.offer f).1 := by
  rcases s.offer_cases f with e | ⟨l, -, hl, e⟩ <;> rw [e]
  · exact h
  · obtain ⟨q, slots, rfl⟩ := Link.offer_some hl
    exact h.withHlc

theorem updOwn (h : Spared quiet s0 s) (num : Nat) (f : OwnBooking → OwnBooking) : Spared quiet s0 (s.updOwn num f) :=
  h.withCm

theorem offerRelease (h : Spared quiet s0 s) (num : Nat) : Spared quiet s0 (s.offerRelease num) := by
  simp only [State.offerRelease]
  split
  · exact h
  · split
    · exact h.offer _
    · exact h.withCm

theorem removeOwn (h : Spared quiet s0 s) (b : OwnBooking) (release : Bool) : Spared quiet s0 (s.removeOwn b release) := by
  have hgone : Spared quiet s0 (s.withCm { s.cm with own := s.cm.own.filter fun x => x.desc.num != b.desc.num }) :=
    h.withCm
  simp only [State.removeOwn]
  refine Spared.report ?_
  split
  · exact hgone
  · split
    · exact hgone.withCm
    · split
      · exact hgone.offerRelease _
      · exact hgone

theorem released (h : Spared quiet s0 s) (b : OwnBooking) : Spared quiet s0 (s.endOwn b .released) :=
  (h.removeOwn b true).report

theorem releaseTest (h : Spared quiet s0 s) : Spared quiet s0 s.releaseTest := by
  unfold State.releaseTest
  split
  · exact h
  · exact foldl (fun u b hu => hu.released b) _ h

theorem releaseBooking (h : Spared quiet s0 s) (num : Nat) : Spared quiet s0 (s.releaseBooking num) := by
  unfold State.releaseBooking
  split
  · exact h
  · split
    · exact h.released _
    · exact ((h.updOwn _ _).report).releaseTest

theorem requestBooking (h : Spared quiet s0 s) (req : Requester) (d : Desc) :
    Spared quiet s0 (s.requestBooking req d).1 := by
  simp only [State.requestBooking]
  split
  · exact h
  · have hoffered := h.offer (.claim { d with
      holder := s.cfg.stationId, num := nextNumber s.cm.numCtr s.bookingNumbersUsed, stamp := s.hlc.nextStamp })
    split
    · refine Spared.withCm (hoffered.withHlc (ht := fun hle => ?_))
      rw [State.offer_stamp] at hle ⊢
      exact ⟨Nat.le_min.2 ⟨hle, Nat.le_succ _⟩, Nat.min_le_left _ _⟩
    · exact h

theorem judgeOne (h : Spared quiet s0 s) (hq : ¬ quiet) (b : OwnBooking) : Spared quiet s0 (s.judgeOne b) := by
  unfold State.judgeOne
  split
  · exact h
  · split
    · split
      · exact h.updOwn _ _
      · exact h
    · split
      · exact h.updOwn _ _
      · exact (h.updOwn _ _).loud hq
      · exact (h.updOwn _ _).loud hq
      · exact h

theorem judgeItem (h : Spared quiet s0 s) (hq : ¬ quiet) (kind : ItemKind) (item : Nat) :
    Spared quiet s0 (s.judgeItem kind item) :=
  (foldl (fun _ b hu => hu.judgeOne hq b) _ h).loud hq

theorem beginMoving (h : Spared quiet s0 s) (hq : ¬ quiet) (num : Nat) : Spared quiet s0 (s.beginMoving num).1 := by
  simp only [State.beginMoving]
  split
  · split
    · have hmoving : Spared quiet s0 ((s.updOwn num fun b => { b with state := .moving }).report [.permitTest]) :=
        (h.updOwn _ _).report
      simp only
      split
      · exact hmoving.judgeOne hq _
      · exact hmoving
    · exact h
  · exact h

end Spared
end Sys2Proof.Machine
end

section
/-! SUPPORT. What the drive, the ramp log and the sequencer spare as they act on reports. -/

namespace Sys2Proof.Machine

-- Each pending proof holds a stack of its own: they are checked one after the other.
set_option Elab.async false

open Sys2Proof

/-- A view entry put under a key is the one read there. -/
theorem State.elv_putElv (s : State) (id i : Nat) (v : ElView) :
    (s.putElv id v).elv i = if i = id then v else s.elv i := by
  show (lookupKey i (putKey id v s.ed.elView)).getD ElView.fresh = _
  split
  · next he => rw [he, lookupKey_putKey_self]; rfl
  · next he => rw [lookupKey_putKey_other _ _ _ _ he]; rfl

theorem State.anv_putAnv (s : State) (id i : Nat) (v : AnView) :
    (s.putAnv id v).anv i = if i = id then v else s.anv i := by
  show (lookupKey i (putKey id v s.ed.anView)).getD AnView.fresh = _
  split
  · next he => rw [he, lookupKey_putKey_self]; rfl
  · next he => rw [lookupKey_putKey_other _ _ _ _ he]; rfl

namespace Spared

variable {quiet : Prop} {s0 s : State}

/-! ## The element drive -/

theorem putElv (h : Spared quiet s0 s) (hq : ¬ quiet) {id : Nat} {v : ElView}
    (hv : v.homeAbsent = (s.elv id).homeAbsent := by rfl) : Spared quiet s0 (s.putElv id v) :=
  h.withEd hq (he := fun i => by
    show ((s.putElv id v).elv i).homeAbsent = _
    rw [s.elv_putElv]
    split
    · next e => rw [e, hv]
    · rfl)

theorem putAnv (h : Spared quiet s0 s) (hq : ¬ quiet) {id : Nat} {v : AnView}
    (hv : v.homeAbsent = (s.anv id).homeAbsent := by rfl) : Spared quiet s0 (s.putAnv id v) :=
  h.withEd hq (ha := fun i => by
    show ((s.putAnv id v).anv i).homeAbsent = _
    rw [s.anv_putAnv]
    split
    · next e => rw [e, hv]
    · rfl)

theorem owePosition (h : Spared quiet s0 s) (hq : ¬ quiet) (kind : ItemKind) (item : Nat) :
    Spared quiet s0 (s.owePosition kind item) := by
  unfold State.owePosition
  split
  · cases kind
    · exact (h.offer _).putElv hq
    · exact (h.offer _).putAnv hq
  · exact h

theorem viewChange (h : Spared quiet s0 s) (hq : ¬ quiet) (kind : ItemKind) (item : Nat) :
    Spared quiet s0 (s.viewChange kind item) := (h.judgeItem hq kind item).loud hq

theorem changeElv (h : Spared quiet s0 s) (hq : ¬ quiet) {id : Nat} {v : ElView}
    (hv : v.homeAbsent = (s.elv id).homeAbsent := by rfl) : Spared quiet s0 (s.changeElv id v) := by
  have hput : Spared quiet s0 (s.putElv id v) := h.putElv hq hv
  simp only [State.changeElv]
  split
  · split
    · exact hput
    · exact hput.loud hq
  · exact hput.viewChange hq _ _

theorem changeAnv (h : Spared quiet s0 s) (hq : ¬ quiet) {id : Nat} {v : AnView}
    (hv : v.homeAbsent = (s.anv id).homeAbsent := by rfl) : Spared quiet s0 (s.changeAnv id v) := by
  have hput : Spared quiet s0 (s.putAnv id v) := h.putAnv hq hv
  simp only [State.changeAnv]
  split
  · exact hput
  · exact hput.viewChange hq _ _

theorem homeElv (h : Spared quiet s0 s) (hq : ¬ quiet) (id : Nat) (state : ViewState) (pos : Option Nat) (motion : Nat) :
    Spared quiet s0 (s.homeElv id state pos motion) := (h.changeElv hq).owePosition hq _ _

theorem homeAnv (h : Spared quiet s0 s) (hq : ¬ quiet) (id : Nat) (state : ViewState) (az : Option Nat) :
    Spared quiet s0 (s.homeAnv id state az) := (h.changeAnv hq).owePosition hq _ _

theorem withQueue (h : Spared quiet s0 s) (hq : ¬ quiet) (kind : ItemKind) (q : List Request) :
    Spared quiet s0 (s.withQueue kind q) := by
  cases kind
  · exact h.withEd hq
  · exact h.withEd hq

theorem refuse (h : Spared quiet s0 s) (hq : ¬ quiet) (kind : ItemKind) (r : Request) (reason : Nat) :
    Spared quiet s0 (s.refuse kind r reason) := by
  simp only [State.refuse]
  split
  · exact h.loud hq
  · split
    · exact h.offer _
    · exact h.withEd hq

theorem answerAt (h : Spared quiet s0 s) (hq : ¬ quiet) (kind : ItemKind) (item target : Nat) :
    Spared quiet s0 (s.answerAt kind item target) := by
  cases kind
  · exact (h.homeElv hq _ _ _ _).loud hq
  · exact h.homeAnv hq _ _ _

theorem accept (h : Spared quiet s0 s) (hq : ¬ quiet) (kind : ItemKind) (r : Request) :
    Spared quiet s0 (s.accept kind r) := by
  simp only [State.accept]
  split
  · exact h.withQueue hq _ _
  · exact (h.withQueue hq _ _).answerAt hq _ _ _
  · exact h.answerAt hq _ _ _
  · exact h
  · exact h.withQueue hq _ _

theorem request (h : Spared quiet s0 s) (hq : ¬ quiet) (kind : ItemKind) (r : Request) :
    Spared quiet s0 (s.request kind r) := by
  unfold State.request
  split
  · split
    · exact h.refuse hq _ _ _
    · exact h.accept hq _ _
  · exact h

theorem abandonExercise (h : Spared quiet s0 s) (hq : ¬ quiet) : Spared quiet s0 s.abandonExercise := by
  unfold State.abandonExercise
  split
  · exact (h.withEd hq).releaseBooking _
  · exact h

/-- The exercise acts on what it is told; a release it takes without effect. -/
theorem exerciseTold (h : Spared quiet s0 s) (num : Nat) {what : Told} (hq : ¬ quiet ∨ what = .released) :
    Spared quiet s0 (s.exerciseTold num what) := by
  rcases hq with hq | rfl
  · simp only [State.exerciseTold]
    split
    · split
      · split
        · split
          · exact ((h.beginMoving hq _).withEd hq).request hq _ _
          · exact h
        · exact h.abandonExercise hq
        · exact h.abandonExercise hq
        · exact h.abandonExercise hq
        · exact h.abandonExercise hq
        · exact h.abandonExercise hq
        · exact h
      · exact h
    · exact h
  · rw [s.exerciseTold_released num]
    exact h

theorem exerciseSet (h : Spared quiet s0 s) (hq : ¬ quiet) (el : Nat) : Spared quiet s0 (s.exerciseSet el) := by
  unfold State.exerciseSet
  split
  · split
    · split
      · exact h
      · exact (h.withEd hq).request hq _ _
      · exact (h.withEd hq).releaseBooking _
    · exact h
  · exact h

theorem exerciseStops (h : Spared quiet s0 s) (hq : ¬ quiet) (el : Nat) : Spared quiet s0 (s.exerciseStops el) := by
  unfold State.exerciseStops
  split
  · split
    · exact h.abandonExercise hq
    · exact h
  · exact h

/-! ## The ramp log -/

theorem updPlan (h : Spared quiet s0 s) (id : Nat) (f : Plan → Plan) : Spared quiet s0 (s.updPlan id f) := h.withCp _

theorem filterIntents (h : Spared quiet s0 s) (keep : Intent → Bool) : Spared quiet s0 (s.filterIntents keep) :=
  h.withRl fun _ hx _ => (List.mem_filter.1 hx).1

theorem insertIntent (h : Spared quiet s0 s) {x : Intent} (hx : x.own ≠ none) : Spared quiet s0 (s.insertIntent x) :=
  h.withRl fun y hy hown => by
    rcases (mem_insertBy ..).1 hy with rfl | hy
    · exact absurd hown hx
    · exact hy

theorem offerCancel (h : Spared quiet s0 s) (num : Nat) : Spared quiet s0 (s.offerCancel num) := by
  simp only [State.offerCancel]
  split
  · exact h.offer _
  · exact h.withRl

theorem withdrawIntent (h : Spared quiet s0 s) : Spared quiet s0 s.withdrawIntent := by
  simp only [State.withdrawIntent]
  split
  · exact h
  · split
    · exact ((h.filterIntents _).withCp _).withRl
    · exact ((h.filterIntents _).withCp _).offerCancel _

theorem cancelPick (h : Spared quiet s0 s) : Spared quiet s0 s.cancelPick := h.withdrawIntent.withRl

theorem roomForOwn (h : Spared quiet s0 s) : Spared quiet s0 s.roomForOwn := by
  unfold State.roomForOwn
  split
  · exact h
  · split
    · exact h.filterIntents _
    · exact h

theorem offerIntent (h : Spared quiet s0 s) (q : PickReq) (t : Nat) : Spared quiet s0 (s.offerIntent q t) := by
  simp only [State.offerIntent]
  split
  · exact Spared.report ((Spared.withRl ((h.offer _).roomForOwn.insertIntent (Option.some_ne_none _))).updPlan _ _)
  · exact (h.withRl).updPlan _ _

theorem pickWithin (h : Spared quiet s0 s) (q search : PickReq) : Spared quiet s0 (s.pickWithin q search) := by
  cases hfind : s.findTick (search.raise s.now) with
  | some t =>
    rw [s.pickWithin_some q search t hfind]
    exact h.offerIntent q t
  | none =>
    rw [s.pickWithin_none q search hfind]
    exact (h.withRl).report

theorem requestPick (h : Spared quiet s0 s) (q : PickReq) : Spared quiet s0 (s.requestPick q) := by
  unfold State.requestPick
  split
  · exact h.withdrawIntent.pickWithin q q
  · exact h.report

theorem tuneEnded (h : Spared quiet s0 s) (q : PickReq) : Spared quiet s0 (s.tuneEnded q) := by
  unfold State.tuneEnded
  split
  · split
    · exact h
    · exact h.requestPick q
  · split
    · split
      · exact h
      · exact h.requestPick q
    · exact h.requestPick q

/-! ## The sequencer -/

theorem setSeq (h : Spared quiet s0 s) (st : SeqState) : Spared quiet s0 (s.setSeq st) :=
  ((h.withTs _).withTs _).releaseTest

theorem send (h : Spared quiet s0 s) (m : TxMsg) : Spared quiet s0 (s.send m) := h.withTs _

theorem trip (h : Spared quiet s0 s) (c : TripCause) : Spared quiet s0 (s.trip c) := by
  have hlogged := ((h.withTs s.ts.stopTimers).withTs (s.withTs s.ts.stopTimers).dropTrips.ts).withTs
    { (s.withTs s.ts.stopTimers).dropTrips.ts with
      tripLog := (s.withTs s.ts.stopTimers).dropTrips.ts.tripLog ++ [((s.withTs s.ts.stopTimers).dropTrips.now, c)] }
  simp only [State.trip]
  split
  · exact ((((hlogged.send _).withTs _).cancelPick).setSeq _).report
  · exact ((hlogged.withTs _).setSeq _).report

theorem permitTest (h : Spared quiet s0 s) : Spared quiet s0 s.permitTest := by
  have hpermit : ∀ b : Bool, Spared quiet s0 (if b then s else s.trip .permitLoss) := fun b => by
    split
    · exact h
    · exact h.trip _
  unfold State.permitTest
  split
  · exact hpermit _
  · exact hpermit _
  · exact hpermit _
  · exact hpermit _
  · exact h

theorem commandTune (h : Spared quiet s0 s) (freq program t : Nat) (pos : Option (Nat × Nat × Nat)) :
    Spared quiet s0 (s.commandTune freq program t pos) := by
  unfold State.commandTune
  split
  · cases pos with
    | some x => exact (((((h.send _).send _).send _).withTs _).setSeq _).report
    | none => exact ((((h.send _).send _).withTs _).setSeq _).report
  · exact h
  · exact h.report

theorem rampDown (h : Spared quiet s0 s) : Spared quiet s0 s.rampDown := by
  have hdown : Spared quiet s0 (((s.send .down).withTs { (s.send .down).ts.stopTimers with
      rfoffT := some (s.send .down).offLimit, rfOffTaken := false }).setSeq .down) := ((h.send _).withTs _).setSeq _
  unfold State.rampDown
  split
  · exact hdown
  · exact hdown
  · exact hdown
  · exact hdown
  · exact h

theorem abandonRestart (h : Spared quiet s0 s) : Spared quiet s0 s.abandonRestart := (h.withTs _).report

theorem restartTest (h : Spared quiet s0 s) : Spared quiet s0 s.restartTest := by
  unfold State.restartTest
  split
  · split
    · split
      · exact h.abandonRestart
      · split
        · split
          · exact h.abandonRestart
          · split
            · exact (h.withTs _).requestPick _
            · exact h
        · exact h.abandonRestart
    · exact h.abandonRestart
  · exact h

theorem restartPicked (h : Spared quiet s0 s) (plan : Nat) : Spared quiet s0 (s.restartPicked plan) := by
  unfold State.restartPicked
  split
  · split
    · exact ((h.withTs _).setSeq _).report
    · exact h
  · exact h

theorem leaveTripped (h : Spared quiet s0 s) : Spared quiet s0 s.leaveTripped := by
  unfold State.leaveTripped
  extract_lets done
  split
  · exact (h.withTs _).setSeq _
  · exact h

end Spared
end Sys2Proof.Machine
end

section
/-! SUPPORT. What the planner and the schedule store spare as they act on reports, and so what a delivery and a whole drain
spare. -/

namespace Sys2Proof.Machine

-- Each pending proof holds a stack of its own: they are checked one after the other.
set_option Elab.async false

open Sys2Proof

namespace Spared

variable {quiet : Prop} {s0 s : State}

/-! ## The directory, records and plans that leave -/

theorem dualMatch (h : Spared quiet s0 s) (f a : Nat) : Spared quiet s0 (s.dualMatch f a) := by
  unfold State.dualMatch
  extract_lets i x t u pd v
  have ht : Spared quiet s0 t := h.withPd _
  have hu : Spared quiet s0 u := ht.report fun _ r hr => by
    obtain ⟨w, -, rfl⟩ := List.mem_map.1 hr
    rfl
  have hv : Spared quiet s0 v := by
    simp only [v]
    split
    · exact hu.withPd _
    · exact hu.withPd _
  exact hv.withFlags

theorem lookup (h : Spared quiet s0 s) (f a : Nat) : Spared quiet s0 (s.lookup f a).1 := by
  simp only [State.lookup]
  split
  · exact h
  · split
    · exact h.withPd _
    · split
      · exact h.dualMatch f a
      · split
        · exact h.withPd _
        · exact h

theorem logRecord (h : Spared quiet s0 s) (r : AirRecord) : Spared quiet s0 (s.logRecord r) := by
  unfold State.logRecord
  split
  · exact h.withSp
  · exact (h.withSp).withFlags

theorem planLeaves (h : Spared quiet s0 s) (p : Plan) : Spared quiet s0 (s.planLeaves p) := by
  simp only [State.planLeaves]
  refine Spared.report ?_
  split
  · exact (h.withCp _).withSs
  · exact h.withCp _

theorem dropPin (h : Spared quiet s0 s) (p : Plan) : Spared quiet s0 (s.dropPin p) := by
  unfold State.dropPin
  split
  · exact Spared.updPlan (h.withPd _) _ _
  · exact h

theorem dropBooking (h : Spared quiet s0 s) (p : Plan) : Spared quiet s0 (s.dropBooking p) := by
  unfold State.dropBooking
  split
  · exact (h.updPlan _ _).releaseBooking _
  · exact h

theorem dropPlan (h : Spared quiet s0 s) (p : Plan) (out : Option (AirOutcome × Option AirCause)) :
    Spared quiet s0 (s.dropPlan p out) := by
  have hgone := (h.dropBooking p).dropPin p
  simp only [State.dropPlan]
  split
  · exact (hgone.logRecord _).planLeaves p
  · exact hgone.planLeaves p

theorem dropPlans (h : Spared quiet s0 s) (out : Option (AirOutcome × Option AirCause)) (l : List Plan) :
    Spared quiet s0 (l.foldl (fun s p => s.dropPlan p out) s) :=
  foldl (fun _ p hu => hu.dropPlan p out) l h

/-! ## Route choice and recomputation -/

theorem putPlan (h : Spared quiet s0 s) (p : Plan) : Spared quiet s0 (s.putPlan p) := h.withCp _

theorem claimFor (h : Spared quiet s0 s) (p : Plan) (d : Desc) : Spared quiet s0 (s.claimFor p d) := by
  have hasked := h.requestBooking (.plan p.id) d
  simp only [State.claimFor]
  split
  · exact hasked.updPlan _ _
  · exact hasked.report
  · exact hasked.report
  · exact hasked.putPlan _

theorem chooseRoute (h : Spared quiet s0 s) (p : Plan) : Spared quiet s0 (s.chooseRoute p) := by
  simp only [State.chooseRoute]
  split
  · exact h.putPlan _
  · split
    · exact ((h.putPlan _).report).claimFor _ _
    · split
      · exact h.putPlan _
      · exact h.dropPlan p _

theorem chooseFor (h : Spared quiet s0 s) (id : Nat) : Spared quiet s0 (s.chooseFor id) := by
  unfold State.chooseFor
  split
  · split
    · exact h.chooseRoute _
    · exact h
  · exact h

theorem retryBlocked (h : Spared quiet s0 s) : Spared quiet s0 s.retryBlocked := foldl (fun _ id hu => hu.chooseFor id) _ h

theorem recompute (h : Spared quiet s0 s) (id : Nat) : Spared quiet s0 (s.recompute id) := by
  unfold State.recompute
  split
  · split
    · exact h
    · split
      · exact h.chooseFor id
      · split
        · simp only
          split
          · exact h.dropPlan _ _
          · exact h.putPlan _
        · exact h
  · exact h

theorem recomputeAll (h : Spared quiet s0 s) : Spared quiet s0 s.recomputeAll := foldl (fun _ id hu => hu.recompute id) _ h

theorem voidPin (h : Spared quiet s0 s) (set way : Nat) : Spared quiet s0 (s.voidPin set way) :=
  foldl (fun _ id hu => hu.recompute id) _ (foldl (fun _ _ hu => hu.updPlan _ _) _ h)

/-! ## Creation and continuations -/

theorem planFresh (h : Spared quiet s0 s) (p : Plan) : Spared quiet s0 (s.planFresh p) :=
  ((h.lookup p.freq p.ant).putPlan _).chooseRoute _

theorem stopContinuation (h : Spared quiet s0 s) (p : Plan) : Spared quiet s0 (s.stopContinuation p) :=
  (h.dropBooking p).planFresh _

theorem planContinuation (h : Spared quiet s0 s) (p q : Plan) : Spared quiet s0 (s.planContinuation p q) := by
  unfold State.planContinuation
  extract_lets steps power p' u r
  have hasked : Spared quiet s0 r.1 := (h.putPlan _).requestBooking _ _
  split
  · exact hasked.updPlan _ _
  · exact hasked.stopContinuation _

theorem takeOffer (h : Spared quiet s0 s) (o : Offer) : Spared quiet s0 (s.takeOffer o).1 := by
  unfold State.takeOffer
  split
  · exact h.logRecord _
  · split
    · exact h
    · extract_lets p cp u least
      have hu : Spared quiet s0 u := h.withCp _
      split
      · exact (hu.logRecord _).planLeaves _
      · split
        · exact hu.planContinuation _ _
        · exact hu.planFresh _

theorem contCheck (h : Spared quiet s0 s) : Spared quiet s0 s.contCheck := by
  refine foldl (fun u id hu => ?_) _ h
  split
  · split
    · exact hu
    · exact hu.stopContinuation _
  · exact hu

/-! ## Ending -/

theorem finishPlan (h : Spared quiet s0 s) (p : Plan) : Spared quiet s0 (s.finishPlan p) :=
  ((h.dropPin p).logRecord _).planLeaves p

theorem givesUp (h : Spared quiet s0 s) (p : Plan) : Spared quiet s0 (s.givesUp p) := by
  unfold State.givesUp
  split
  · exact h.releaseBooking _
  · split
    · exact h.finishPlan _
    · exact h

theorem enterEnding (h : Spared quiet s0 s) (p : Plan) (out : Option (AirOutcome × AirCause)) :
    Spared quiet s0 (s.enterEnding p out) := by
  by_cases hstate : p.state = .ending
  · rw [s.enterEnding_ending p out hstate]
    exact h
  · rw [s.enterEnding_eq p out hstate]
    have hdown : Spared quiet s0 (s.goesDown (p.toEnding s.now out)) :=
      ((((h.putPlan _).withCp _).rampDown).cancelPick).report
    exact hdown.givesUp _

/-! ## From tune start to the end of the air -/

theorem readAtTune (h : Spared quiet s0 s) (p : Plan) : Spared quiet s0 (s.readAtTune p).1 := by
  simp only [State.readAtTune]
  split
  · split
    · exact h.withPd _
    · exact h.withPd _
    · exact h.withPd _
  · exact h

theorem startTune (h : Spared quiet s0 s) (p : Plan) : Spared quiet s0 (s.startTune p) := by
  unfold State.startTune
  extract_lets x cp u p0 p1 q p2 v
  have hv : Spared quiet s0 v := ((h.readAtTune p).withCp _).putPlan _
  split
  · exact hv.enterEnding _ _
  · exact (hv.commandTune _ _ _ _).requestPick _

/-- A waiting plan that lost its booking goes back to its route choice. -/
theorem routesAgain (h : Spared quiet s0 s) (p : Plan) (id : Nat) :
    Spared quiet s0 (if p.state.waiting = true then
      if p.cont = true then
        (s.putPlan { p with booking := none, state := .routing }).stopContinuation
          { p with booking := none, state := .routing }
      else (s.putPlan { p with booking := none, state := .routing }).report [.routeChoice id]
      else s) := by
  split
  · split
    · exact (h.putPlan _).stopContinuation _
    · exact (h.putPlan _).report
  · exact h

theorem planTold (h : Spared quiet s0 s) (id num : Nat) (what : Told) : Spared quiet s0 (s.planTold id num what) := by
  unfold State.planTold
  split
  · next p _ =>
    split
    · exact h
    · split
      · split
        · exact h.putPlan _
        · exact h
      · exact h.routesAgain p id
      · exact h.routesAgain p id
      · exact h.routesAgain p id
      · split
        · exact (h.putPlan _).dropPlan _ _
        · exact h
      · split
        · exact (h.withCp _).finishPlan _
        · exact h
      · exact h.putPlan _
      · split
        · exact h.startTune p
        · exact h
      · exact h
  · exact h

theorem routeFault (h : Spared quiet s0 s) (p : Plan) : Spared quiet s0 (s.routeFault p) :=
  (((h.putPlan _).withCp _).dropBooking p).report

theorem planMoveRefused (h : Spared quiet s0 s) (num : Nat) (kind : ItemKind) (item reason : Nat) :
    Spared quiet s0 (s.planMoveRefused num kind item reason) := by
  unfold State.planMoveRefused
  split
  · split
    · exact h.routeFault _
    · exact h
  · exact h

theorem planViewChanged (h : Spared quiet s0 s) (kind : ItemKind) (item : Nat) :
    Spared quiet s0 (s.planViewChanged kind item) := by
  unfold State.planViewChanged
  split
  · split
    · exact h.routeFault _
    · exact h
  · exact h

theorem planHomeGone (h : Spared quiet s0 s) (kind : ItemKind) (item : Nat) :
    Spared quiet s0 (s.planHomeGone kind item) := by
  unfold State.planHomeGone
  split
  · split
    · exact h.routeFault _
    · exact h
  · exact h

theorem planTuned (h : Spared quiet s0 s) : Spared quiet s0 s.planTuned := by
  unfold State.planTuned
  split
  · split
    · exact (h.putPlan _).tuneEnded _
    · exact h
  · exact h

theorem planTuneFailed (h : Spared quiet s0 s) : Spared quiet s0 s.planTuneFailed := by
  unfold State.planTuneFailed
  split
  · split
    · exact h.enterEnding _ _
    · exact h
  · exact h

theorem planPickRefused (h : Spared quiet s0 s) (id : Nat) : Spared quiet s0 (s.planPickRefused id) := by
  unfold State.planPickRefused
  split
  · split
    · exact h.enterEnding _ _
    · exact h
  · exact h

theorem planTripped (h : Spared quiet s0 s) : Spared quiet s0 s.planTripped := by
  unfold State.planTripped
  split
  · split
    · exact h.enterEnding _ _
    · exact (h.putPlan _).cancelPick
    · exact (h.putPlan _).cancelPick
    · exact (h.putPlan _).cancelPick
    · exact h
  · exact h

theorem planLockedOut (h : Spared quiet s0 s) : Spared quiet s0 s.planLockedOut := by
  unfold State.planLockedOut
  split
  · exact (h.enterEnding _ _).dropPlans _ _
  · exact h.dropPlans _ _

theorem planNoRestart (h : Spared quiet s0 s) : Spared quiet s0 s.planNoRestart := by
  unfold State.planNoRestart
  split
  · split
    · split
      · exact h.enterEnding _ _
      · exact h.enterEnding _ _
    · exact h
  · exact h

/-! ## Open occurrences -/

theorem offerOcc (h : Spared quiet s0 s) (o : OccRef) : Spared quiet s0 (s.offerOcc o) := by
  have hmark : ∀ {u : State} (i abs : Nat), Spared quiet s0 u → Spared quiet s0 (u.markEntry i abs) :=
    fun _ _ hu => hu.withSs
  unfold State.offerOcc
  split
  · split
    · split
      · simp only
        split
        · exact hmark _ _ (h.logRecord _)
        · split
          · exact hmark _ _ (h.takeOffer _)
          · exact h
      · exact h
    · exact h
  · split
    · split
      · simp only
        split
        · exact (h.takeOffer _).withSs
        · exact h
      · exact h
    · exact h

theorem openTest (h : Spared quiet s0 s) : Spared quiet s0 s.openTest := by
  unfold State.openTest
  split
  · exact foldl (fun _ o hu => hu.offerOcc o) _ h
  · exact h

/-! ## Delivery -/

/-- But for the test that ends STOPPING every report leaves what is spared; quietly, where it is calm. -/
theorem deliver (h : Spared quiet s0 s) (r : Report) (hr : ¬ quiet ∨ r.calm = true)
    (hgo : r = .stopTest → s.sp.phase ≠ .stopping) : Spared quiet s0 (deliver r s) := by
  cases r with
  | told req num what =>
    cases req with
    | plan id => exact h.planTold id num what
    | exercise => exact h.exerciseTold num (hr.imp_right fun e => by simpa [Report.calm] using e)
  | permitTest => exact h.permitTest
  | viewChanged kind item => exact (h.planViewChanged kind item).report
  | homeGone kind item => exact h.planHomeGone kind item
  | retryBlocked => exact h.retryBlocked
  | routeChoice id => exact h.chooseFor id
  | planLeft => exact h.recomputeAll.report
  | contCheck => exact h.contCheck
  | moveRefused num kind item reason =>
    have hq : ¬ quiet := hr.resolve_right (by simp [Report.calm])
    simp only [Machine.deliver, State.moveRefused]
    split
    · split
      · exact h.exerciseStops hq item
      · exact h.planMoveRefused _ _ _ _
    · exact h.planMoveRefused _ _ _ _
  | peerRefused num kind item reason => exact h.planMoveRefused num kind item reason
  | elementSet item => exact h.exerciseSet (hr.resolve_right (by simp [Report.calm])) item
  | elementFault item => exact h.exerciseStops (hr.resolve_right (by simp [Report.calm])) item
  | pickMade plan bySeq =>
    simp only [Machine.deliver, State.pickMade]
    split
    · exact h.restartPicked plan
    · exact h
  | pickRefused plan bySeq =>
    simp only [Machine.deliver, State.pickRefused]
    split
    · exact h.abandonRestart
    · exact h.planPickRefused plan
  | tuned => exact h.planTuned
  | tuneFailed => exact h.planTuneFailed
  | tripped => exact h.planTripped
  | lockedOut => exact h.planLockedOut
  | noRestart => exact h.planNoRestart
  | voidPin set way => exact h.voidPin set way
  | restartTest => exact h.restartTest
  | leaveTripped => exact h.leaveTripped
  | stopTest =>
    simp only [Machine.deliver, State.stopTest]
    rw [if_neg (show ¬ s.phase = .stopping from hgo rfl)]
    exact h
  | openTest => exact h.openTest

theorem drain_of (hgo : s0.sp.phase ≠ .stopping) (n : Nat) : ∀ {s : State}, Spared quiet s0 s →
    Spared quiet s0 (drain n s) := by
  induction n with
  | zero => exact fun h => h
  | succ n ih =>
    intro s h
    unfold drain
    split
    · exact h
    · next r rest hrs =>
      have hrest : Spared quiet s0 (s.withReports rest) :=
        { h with calm := fun hq => ⟨(h.calm hq).1, fun x hx => (h.calm hq).2 x (hrs ▸ List.mem_cons_of_mem _ hx)⟩ }
      refine ih (hrest.deliver r ?_ fun _ e => hgo (h.phase ▸ e))
      by_cases hq : quiet
      · exact .inr ((h.calm hq).2 r (hrs ▸ List.mem_cons_self))
      · exact .inl hq

end Spared

/-- Outside STOPPING a whole drain spares the state it starts from. -/
theorem spared_drain (n : Nat) {s : State} (hgo : s.sp.phase ≠ .stopping) : Spared False s (drain n s) :=
  (Spared.refl s fun h => h.elim).drain_of hgo n

/-- Where every report is calm, the drive is left too. -/
theorem spared_drain_quiet (n : Nat) {s : State} (hgo : s.sp.phase ≠ .stopping) (hs : ∀ r ∈ s.reports, r.calm = true) :
    Spared True s (drain n s) :=
  (Spared.refl s fun _ => hs).drain_of hgo n

end Sys2Proof.Machine
end

section
/-! SUPPORT. The timers of the link: a BEACON offered with room, and the end of JOINING. -/

namespace Sys2Proof.Machine

-- Each pending proof holds a stack of its own: they are checked one after the other.
set_option Elab.async false

open Sys2Proof

/-- What goes before nothing in a list is inserted at its end. -/
theorem insertBy_last {α : Type} (before : α → α → Bool) (x : α) (l : List α) (h : ∀ y ∈ l, before x y = false) :
    insertBy before x l = l ++ [x] := by
  induction l with
  | nil => rfl
  | cons y l ih =>
    simp only [insertBy, h y List.mem_cons_self, Bool.false_eq_true, if_false, List.cons_append]
    rw [ih fun z hz => h z (List.mem_cons_of_mem _ hz)]

theorem framePriority_le_beacon (f : Frame) (b : BeaconBody) : framePriority f ≤ framePriority (.beacon b) := by
  cases f <;> simp [framePriority]

/-- A BEACON enters at the end of the queue: no frame has a higher priority number. -/
theorem enqueue_beacon (q : List QFrame) (b : BeaconBody) :
    enqueue q (.beacon b) = q ++ [{ frame := .beacon b, attempts := 0, sending := false }] :=
  insertBy_last _ _ _ fun y _ => decide_eq_false (Nat.not_lt.2 (framePriority_le_beacon y.frame b))

/-- In the phases that offer them, a BEACON offered with room stands at the end of the queue. -/
theorem State.beaconNow_room (s : State)
    (hphase : s.sp.phase = .joining ∨ s.sp.phase = .running ∨ s.sp.phase = .stopping)
    (hroom : s.hlc.queue.length + s.hlc.slots.length < 16) :
    s.beaconNow = s.withHlc { s.hlc with
      beaconT := some s.cfg.tBCN
      queue := s.hlc.queue ++ [{ frame := .beacon s.beaconBody, attempts := 0, sending := false }] } := by
  have hpermit : offerPermitted s.phase (.beacon s.beaconBody) = true := by
    rcases hphase with hp | hp | hp <;> simp [State.phase, hp, offerPermitted]
  unfold State.beaconNow
  rw [s.offer_room _ hpermit hroom, enqueue_beacon]
  rfl

namespace Spared
variable {quiet : Prop} {s0 s : State}

/-! ## The timebase and the watch of the map -/

theorem withTb (h : Spared quiet s0 s) (v : Timebase) : Spared quiet s0 (s.withTb v) := { h with }

theorem afterGate (h : Spared quiet s0 s) (s1 : State) : Spared quiet s0 (s.afterGate s1) := by
  rcases s.afterGate_other s1 with e | e <;> rw [e]
  · exact h
  · exact h.report

theorem noteInstants (h : Spared quiet s0 s) (abs0 : Nat) : Spared quiet s0 (s.noteInstants abs0) := by
  unfold State.noteInstants
  split
  · exact h.withSs
  · exact h.withSs

theorem evaluateOffsets (h : Spared quiet s0 s) : Spared quiet s0 s.evaluateOffsets := by
  rcases s.evaluateOffsets_cases with e | ⟨k, e⟩ | ⟨b, e⟩ <;> rw [e]
  · exact h
  · exact (((h.withTb _).withFlags).noteInstants _).afterGate _
  · exact (h.withTb _).afterGate _

theorem recordOffset (h : Spared quiet s0 s) (hd : Head) : Spared quiet s0 (s.recordOffset hd) := by
  unfold State.recordOffset
  split
  · exact (h.withTb _).evaluateOffsets
  · exact h

theorem removeOffset (h : Spared quiet s0 s) (station : Nat) : Spared quiet s0 (s.removeOffset station) :=
  (h.withTb _).evaluateOffsets

theorem afterMap (h : Spared quiet s0 s) (s1 : State) : Spared quiet s0 (s.afterMap s1) := by
  unfold State.afterMap
  extract_lets key
  split
  · exact h.report
  · exact h

end Spared

/-- The end of the JOINING timer hands over only the test for open occurrences. -/
theorem State.joiningEnds_running {s : State} (hphase : s.sp.phase = .joining) (htimer : s.hlc.joiningT = some 0) :
    s.joiningEnds = s.enterRunning := if_pos ⟨hphase, htimer⟩

end Sys2Proof.Machine
end

section
open Sys2Proof Sys2Proof.Machine

/-- Settles O14: a BEACON goes before no frame of the queue; and of what the entry to RUNNING hands over nothing touches the
peers, the drive or the pending table. -/
theorem beaconAndJoiningTimersEnd : Obligations.BeaconAndJoiningTimersEnd := by
  refine ⟨fun s htimer hphase hroom => ?_, fun s hphase htimer => ?_⟩
  · have he : (s.withReports []).beaconTimer = (s.withReports []).beaconNow := if_pos htimer
    have hnow := (s.withReports []).beaconNow_room hphase hroom
    exact (run_rest State.beaconTimer s (congrArg State.reports (he.trans hnow))).trans
      (congrArg _ (he.trans hnow))
  · have he : (s.withReports []).joiningEnds = (s.withReports []).enterRunning :=
      State.joiningEnds_running hphase htimer
    have hgo : (s.withReports []).enterRunning.sp.phase ≠ .stopping := Phase.noConfusion
    have hclock := drain_clock reportFuel _ hgo
    have hspared := spared_drain_quiet reportFuel hgo fun r hr => by
      rw [show r = .openTest from List.mem_singleton.1 hr]
      rfl
    refine ⟨_, (run_next State.joiningEnds s).trans (by rw [he]), ?_, ?_, ?_, ?_, ?_, ?_, ?_⟩
    · exact congrArg Clock.phase hclock
    · exact hspared.joiningT
    · exact congrArg Clock.tb hclock
    · exact congrArg Clock.cfg hclock
    · exact hspared.presence
    · exact hspared.pending
    · exact congrArg Drive.elView (hspared.calm trivial).1

end

section
/-! SUPPORT. The home absent marks of a station's items, and what a station forgets of a peer that is absent (R31, R39). -/

namespace Sys2Proof.Machine

-- Each pending proof holds a stack of its own: they are checked one after the other.
set_option Elab.async false

open Sys2Proof

/-! ## Home absent marks (R39) -/

/-- What a mark hands over: the BLOCKED plans' retry, and the planner's word of a mark that was set. -/
def Report.ofMark (b : Bool) : Report → Prop
  | .retryBlocked => True
  | .homeGone _ _ => b = true
  | _ => False

/-- What marking absent or present items leaves of a state: all but the views and the reports. -/
structure State.Marked (b : Bool) (s t : State) : Prop where
  rest    : t = (s.withEd t.ed).withReports t.reports
  drive   : t.ed = { s.ed with elView := t.ed.elView, anView := t.ed.anView }
  reports : ∀ r ∈ t.reports, r ∈ s.reports ∨ r.ofMark b
  elv     : ∀ i, (s.elv i).homeAbsent = b → (t.elv i).homeAbsent = b
  anv     : ∀ i, (s.anv i).homeAbsent = b → (t.anv i).homeAbsent = b

theorem State.Marked.refl (b : Bool) (s : State) : s.Marked b s :=
  ⟨rfl, rfl, fun _ h => .inl h, fun _ h => h, fun _ h => h⟩

theorem State.Marked.trans {b : Bool} {s t u : State} (h : s.Marked b t) (h' : t.Marked b u) : s.Marked b u where
  rest := by
    have hu := h'.rest
    rw [h.rest] at hu
    exact hu
  drive := by
    have hu := h'.drive
    rw [h.drive] at hu
    exact hu
  reports r hr := (h'.reports r hr).elim (h.reports r) .inr
  elv i hi := h'.elv i (h.elv i hi)
  anv i hi := h'.anv i (h.anv i hi)

/-- The marks of one item. -/
theorem State.marked_markAbsent (s : State) (b : Bool) (i : ItemKind × Nat) : s.Marked b (s.markAbsent b i) := by
  have hreports : ∀ k : ItemKind, ∀ r ∈ s.reports ++ (if b then [.homeGone k i.2, .retryBlocked] else [.retryBlocked]),
      r ∈ s.reports ∨ r.ofMark b := fun k r hr => by
    refine (List.mem_append.1 hr).imp_right fun hr => ?_
    cases b with
    | false =>
      rw [List.mem_singleton.1 hr]
      trivial
    | true =>
      rcases List.mem_cons.1 hr with rfl | hr
      · rfl
      · rw [List.mem_singleton.1 hr]
        trivial
  obtain ⟨k, item⟩ := i
  cases k <;> simp only [State.markAbsent] <;> split
  case element.isTrue | antenna.isTrue => exact .refl b s
  case element.isFalse =>
    refine ⟨rfl, rfl, hreports _, fun j hj => ?_, fun _ h => h⟩
    show ((s.putElv item _).elv j).homeAbsent = b
    rw [s.elv_putElv]
    split
    · rfl
    · exact hj
  case antenna.isFalse =>
    refine ⟨rfl, rfl, hreports _, fun _ h => h, fun j hj => ?_⟩
    show ((s.putAnv item _).anv j).homeAbsent = b
    rw [s.anv_putAnv]
    split
    · rfl
    · exact hj

theorem State.markAbsent_element (s : State) (b : Bool) (i : Nat) :
    ((s.markAbsent b (.element, i)).elv i).homeAbsent = b := by
  simp only [State.markAbsent]
  split
  · assumption
  · show ((s.putElv i _).elv i).homeAbsent = b
    rw [s.elv_putElv, if_pos rfl]

theorem State.markAbsent_antenna (s : State) (b : Bool) (i : Nat) :
    ((s.markAbsent b (.antenna, i)).anv i).homeAbsent = b := by
  simp only [State.markAbsent]
  split
  · assumption
  · show ((s.putAnv i _).anv i).homeAbsent = b
    rw [s.anv_putAnv, if_pos rfl]

/-- The marks of a list of items: each has it then. -/
theorem State.marked_foldl (b : Bool) (l : List (ItemKind × Nat)) : ∀ s : State,
    s.Marked b (l.foldl (fun s i => s.markAbsent b i) s)
      ∧ (∀ i, (ItemKind.element, i) ∈ l → ((l.foldl (fun s i => s.markAbsent b i) s).elv i).homeAbsent = b)
      ∧ (∀ i, (ItemKind.antenna, i) ∈ l → ((l.foldl (fun s i => s.markAbsent b i) s).anv i).homeAbsent = b) := by
  induction l with
  | nil => exact fun s => ⟨.refl b s, fun _ h => absurd h List.not_mem_nil, fun _ h => absurd h List.not_mem_nil⟩
  | cons x l ih =>
    intro s
    obtain ⟨hmarked, hel, han⟩ := ih (s.markAbsent b x)
    refine ⟨(s.marked_markAbsent b x).trans hmarked, fun i hi => ?_, fun i hi => ?_⟩
    · rcases List.mem_cons.1 hi with rfl | hi
      · exact hmarked.elv i (s.markAbsent_element b i)
      · exact hel i hi
    · rcases List.mem_cons.1 hi with rfl | hi
      · exact hmarked.anv i (s.markAbsent_antenna b i)
      · exact han i hi

theorem State.marked_markStation (s : State) (n : Nat) (b : Bool) : s.Marked b (s.markStation n b) := by
  unfold State.markStation
  split
  · exact .refl b s
  · exact (State.marked_foldl b _ s).1

theorem mem_of_lookupKey {α : Type} {k : Nat} {v : α} {l : List (Nat × α)} (h : lookupKey k l = some v) :
    (k, v) ∈ l := by
  induction l with
  | nil => cases h
  | cons p l ih =>
    simp only [lookupKey] at h
    split at h
    · next hk =>
      rw [hk, ← Option.some.inj h]
      exact List.mem_cons_self
    · exact List.mem_cons_of_mem _ (ih h)

/-- Every item homed at the marked station has the mark. -/
theorem State.markStation_homed (s : State) {n : Nat} (hn : n ≠ s.cfg.stationId) (b : Bool) (i : Nat) :
    (s.homeOf .element i = some n → ((s.markStation n b).elv i).homeAbsent = b)
      ∧ (s.homeOf .antenna i = some n → ((s.markStation n b).anv i).homeAbsent = b) := by
  obtain ⟨-, hel, han⟩ := State.marked_foldl b (s.itemsHomedAt n) s
  unfold State.markStation
  rw [if_neg hn]
  refine ⟨fun h => hel i (List.mem_append_left _ ?_), fun h => han i (List.mem_append_right _ ?_)⟩
  all_goals
    obtain ⟨r, hr, hhome⟩ := Option.map_eq_some_iff.1 h
    exact List.mem_map.2 ⟨(i, r), List.mem_filter.2 ⟨mem_of_lookupKey hr, by simp [hhome]⟩, rfl⟩

/-! ## What is forgotten of an absent peer -/

/-- Peer `n` is absent, and nothing stands of it in map, log and offset table; its items, as the records of `s0` name
them, have the absent mark. -/
structure Forgets (n : Nat) (s0 t : State) : Prop where
  other    : n ≠ t.cfg.stationId
  gone     : (t.peer n).present = false
  map      : ∀ r ∈ t.cm.map, r.desc.holder ≠ n
  intents  : ∀ x ∈ t.rl.intents, x.own = none → x.station ≠ n
  offset   : (t.tb.offsets[n]?).getD none = none
  elements : t.ed.elements = s0.ed.elements
  antennas : t.ed.antennas = s0.ed.antennas
  elAbsent : ∀ i, s0.homeOf .element i = some n → (t.elv i).homeAbsent = true
  anAbsent : ∀ i, s0.homeOf .antenna i = some n → (t.anv i).homeAbsent = true

theorem lookupKey_map {α β : Type} (f : Nat × α → β) (k : Nat) (l : List (Nat × α)) :
    lookupKey k (l.map fun p => (p.1, f p)) = (lookupKey k l).map fun v => f (k, v) := by
  induction l with
  | nil => rfl
  | cons p l ih =>
    simp only [List.map_cons, lookupKey]
    split
    · next hk => subst hk; rfl
    · exact ih

namespace Forgets
variable {n : Nat} {s0 s t : State}

/-- What spares the peers and the clock forgets nothing less. -/
theorem spared (h : Forgets n s0 s) (hs : Spared False s t) (hclock : t.clock = s.clock) : Forgets n s0 t where
  other := fun e => h.other (e.trans (congrArg (fun c : Clock => c.cfg.stationId) hclock))
  gone := by
    unfold State.peer
    rw [hs.presence]
    exact h.gone
  map := hs.map ▸ h.map
  intents x hx hown := h.intents x (hs.intents x hx hown) hown
  offset := (congrArg (fun c : Clock => (c.tb.offsets[n]?).getD none) hclock).trans h.offset
  elements := hs.elements.trans h.elements
  antennas := hs.antennas.trans h.antennas
  elAbsent i hi := (hs.elAbsent i).trans (h.elAbsent i hi)
  anAbsent i hi := (hs.anAbsent i).trans (h.anAbsent i hi)

theorem dropPlans (h : Forgets n s0 s) (out : Option (AirOutcome × Option AirCause)) (l : List Plan) :
    Forgets n s0 (l.foldl (fun s p => s.dropPlan p out) s) := by
  refine h.spared ((Spared.refl s fun e => e.elim).dropPlans out l) ?_
  exact List.foldlRecOn (motive := fun u : State => u.clock = s.clock) _ _ rfl
    fun u hu p _ => (u.dropPlan_clock p out).trans hu

/-! ## The phase changes that end STOPPING -/

theorem planRestart (h : Forgets n s0 s) : Forgets n s0 s.planRestart := by
  have hfinished : Forgets n s0 (s.cp.plans.foldl (fun s p => s.finishPlan p) s) := by
    refine h.spared (Spared.foldl (fun _ p hu => hu.finishPlan p) _ (Spared.refl s fun e => e.elim)) ?_
    exact List.foldlRecOn (motive := fun u : State => u.clock = s.clock) _ _ rfl
      fun u hu p _ => (u.finishPlan_clock p).trans hu
  exact { hfinished with }

theorem blocksRestart (h : Forgets n s0 s) : Forgets n s0 s.blocksRestart := by
  have hmap : Forgets n s0 (s.planRestart.withCm s.planRestart.cm.restart) :=
    { h.planRestart with map := fun _ hr => absurd hr List.not_mem_nil }
  have hlog : Forgets n s0 ((s.planRestart.withCm s.planRestart.cm.restart).withRl s.planRestart.rl.restart) :=
    { hmap with intents := fun _ hx => absurd hx List.not_mem_nil }
  refine { hlog with gone := ?_, offset := ?_ }
  · show ((s.planRestart.hlc.presence.map fun e => { e with present := false, absence := none })[n]?.getD
      PeerEntry.reset).present = false
    rw [List.getElem?_map]
    cases s.planRestart.hlc.presence[n]? <;> rfl
  · show ((List.replicate 16 (none : Option Int))[n]?).getD none = none
    rw [List.getElem?_replicate]
    split <;> rfl

theorem offerPositions (l : List (ItemKind × Nat)) : ∀ {s : State}, Spared False t s →
    Spared False t (s.offerPositions l).1 := by
  induction l with
  | nil => exact fun h => h
  | cons x l ih =>
    intro s h
    obtain ⟨k, i⟩ := x
    simp only [State.offerPositions]
    split
    · refine ih ?_
      cases k
      · exact (h.offer _).putElv fun e => e
      · exact (h.offer _).putAnv fun e => e
    · exact h

/-- At the entry to JOINING the items homed elsewhere are marked absent (R39). -/
theorem edJoin (h : Forgets n s0 s) : Forgets n s0 s.edJoin := by
  have hnothome : ∀ u : State, u.cfg = s.cfg → u.homeHere n = false := fun u hu => by
    unfold State.homeHere
    rw [hu]
    simpa using h.other
  unfold State.edJoin
  extract_lets first ed u ed' v
  have hv : Forgets n s0 v := { h with
    elAbsent := fun i hi => by
      obtain ⟨r, hr, hhome⟩ := Option.map_eq_some_iff.1 hi
      have hlook : lookupKey i s.ed.elements = some r := h.elements ▸ hr
      have hget := lookupKey_map (fun p : Nat × ElementRec =>
        ({ u.joinElv p.1 p.2 with idle := if first then 0 else (u.elv p.1).idle } : ElView)) i s.ed.elements
      rw [hlook] at hget
      refine (congrArg (fun o : Option ElView => (o.getD ElView.fresh).homeAbsent) hget).trans ?_
      show (u.joinElv i r).homeAbsent = true
      simp [State.joinElv, hhome, hnothome u rfl]
    anAbsent := fun i hi => by
      obtain ⟨r, hr, hhome⟩ := Option.map_eq_some_iff.1 hi
      have hlook : lookupKey i s.ed.antennas = some r := h.antennas ▸ hr
      have hget := lookupKey_map (fun p : Nat × AntennaRec => u.joinAnv p.1 p.2) i s.ed.antennas
      rw [hlook] at hget
      refine (congrArg (fun o : Option AnView => (o.getD AnView.fresh).homeAbsent) hget).trans ?_
      show (u.joinAnv i r).homeAbsent = true
      simp [State.joinAnv, hhome, hnothome u rfl] }
  exact hv.spared (offerPositions _ (Spared.refl v fun e => e.elim)) (by simp)

theorem armTest (h : Forgets n s0 s) : Forgets n s0 s.armTest := by
  have hswap : ∀ instant, Forgets n s0 (s.swapAt instant) := fun instant => by
    unfold State.swapAt
    extract_lets late ss pending v ss' w x cp
    have hw : Forgets n s0 w := by
      simp only [w]
      split
      · exact { h with }
      · exact { h with }
    have hx : Forgets n s0 x := hw.dropPlans none _
    exact { hx with }
  unfold State.armTest
  split
  · split
    · exact hswap _
    · exact h
  · exact h

theorem enterJoining (h : Forgets n s0 s) : Forgets n s0 s.enterJoining := by
  unfold State.enterJoining
  extract_lets sp u v
  have hu : Forgets n s0 u.retime := { h with }
  have hv : Forgets n s0 v := hu.spared (((Spared.refl _ fun e => e.elim).offer _).withHlc) (by simp [v])
  exact Forgets.armTest (Forgets.edJoin { hv with })

theorem enterHalted (h : Forgets n s0 s) : Forgets n s0 s.enterHalted := by
  unfold State.enterHalted
  extract_lets sp u
  have hu : Forgets n s0 (u.withHlc u.hlc.halt) := { h with }
  have habandoned : Forgets n s0 (u.withHlc u.hlc.halt).abandonExercise :=
    hu.spared ((Spared.refl _ fun e => e.elim).abandonExercise fun e => e) (by simp)
  unfold State.edStop
  extract_lets v
  have hv : Forgets n s0 v := habandoned
  refine { hv with elAbsent := fun i hi => ?_, anAbsent := fun i hi => ?_ }
  · refine Eq.trans ?_ (hv.elAbsent i hi)
    have hget := lookupKey_map (fun p : Nat × ElView => ({ p.2 with owed := false } : ElView)) i v.ed.elView
    refine (congrArg (fun o : Option ElView => (o.getD ElView.fresh).homeAbsent) hget).trans ?_
    show _ = ((lookupKey i v.ed.elView).getD ElView.fresh).homeAbsent
    cases lookupKey i v.ed.elView <;> rfl
  · refine Eq.trans ?_ (hv.anAbsent i hi)
    have hget := lookupKey_map (fun p : Nat × AnView => ({ p.2 with owed := false } : AnView)) i v.ed.anView
    refine (congrArg (fun o : Option AnView => (o.getD AnView.fresh).homeAbsent) hget).trans ?_
    show _ = ((lookupKey i v.ed.anView).getD AnView.fresh).homeAbsent
    cases lookupKey i v.ed.anView <;> rfl

theorem stopTest (h : Forgets n s0 s) : Forgets n s0 s.stopTest := by
  unfold State.stopTest
  split
  · extract_lets sp u
    have hu : Forgets n s0 u := { h with }
    split
    · split
      · exact hu.blocksRestart.enterJoining
      · exact hu.enterHalted
    · exact hu
  · exact h

/-- No report brings a forgotten peer back. -/
theorem deliver (h : Forgets n s0 s) (r : Report) : Forgets n s0 (deliver r s) := by
  by_cases hr : r = .stopTest
  · rw [hr]
    exact h.stopTest
  · exact h.spared ((Spared.refl s fun e => e.elim).deliver r (.inl fun e => e) fun e => absurd e hr)
      (deliver_clock r s fun e => absurd e hr)

theorem drain (h : Forgets n s0 s) (k : Nat) : Forgets n s0 (drain k s) :=
  drain_induct (P := Forgets n s0) (fun _ _ hu => { hu with }) (fun r _ hu => hu.deliver r) k s h

end Forgets

/-! ## A peer's absence -/

/-- The evaluation of the offset table leaves none where none was held. -/
theorem State.evaluateOffsets_none (s : State) {n : Nat} (h : (s.tb.offsets[n]?).getD none = none) :
    (s.evaluateOffsets.tb.offsets[n]?).getD none = none := by
  rcases s.evaluateOffsets_cases with e | ⟨k, e⟩ | ⟨b, e⟩ <;> rw [e]
  · exact h
  · rw [show (s.timeStep k).tb = s.tb.stepBy k from congrArg Clock.tb (s.timeStep_clock k)]
    show ((List.replicate 16 (none : Option Int))[n]?).getD none = none
    rw [List.getElem?_replicate]
    split <;> rfl
  · rw [show (s.setSkew b).tb = { s.tb with skew := b } from congrArg Clock.tb (s.setSkew_clock b)]
    exact h

/-- What the absence effects leave of a peer that is absent. -/
theorem Forgets.absenceEffects {s : State} {n : Nat} (hn : n ≠ s.cfg.stationId) (hgone : (s.peer n).present = false) :
    Forgets n s (s.absenceEffects n) := by
  have hrecs := (Spared.refl (quiet := False) (s.keepRecs fun r => r.desc.holder != n) fun e => e.elim).afterMap s
  unfold State.absenceEffects
  generalize hu : (s.dropPeerRecs n).dropPeerIntents n = u
  have huclock : u.clock = s.clock := by simp [← hu]
  have hucfg : u.cfg = s.cfg := congrArg Clock.cfg huclock
  have huhlc : u.hlc.presence = s.hlc.presence := by
    rw [← hu]
    exact hrecs.presence
  have humap : ∀ r ∈ u.cm.map, r.desc.holder ≠ n := fun r hr => by
    rw [← hu] at hr
    have hr' : r ∈ (s.keepRecs fun r => r.desc.holder != n).cm.map := hrecs.map ▸ hr
    simpa using (List.mem_filter.1 hr').2
  have huintents : ∀ x ∈ u.rl.intents, x.own = none → x.station ≠ n := fun x hx hown => by
    rw [← hu] at hx
    have hkeep := (List.mem_filter.1 hx).2
    simpa [hown] using hkeep
  have huel : u.ed.elements = s.ed.elements := by
    rw [← hu]
    exact hrecs.elements
  have huan : u.ed.antennas = s.ed.antennas := by
    rw [← hu]
    exact hrecs.antennas
  have hmarked := u.marked_markStation n true
  have hspared : Spared False (u.markStation n true) ((u.markStation n true).removeOffset n) :=
    (Spared.refl _ fun e => e.elim).removeOffset n
  have hhomed := u.markStation_homed (hucfg ▸ hn) true
  have hstate := hmarked.rest
  have hcfg : ((u.markStation n true).removeOffset n).cfg = s.cfg := by
    have hclock : (u.markStation n true).cfg = u.cfg :=
      congrArg Clock.cfg (u.markStation_clock n true)
    have hset : ∀ v : State, v.evaluateOffsets.cfg = v.cfg := fun v => by
      rcases v.evaluateOffsets_cases with e | ⟨k, e⟩ | ⟨b, e⟩ <;> rw [e]
      · exact congrArg Clock.cfg (v.timeStep_clock k)
      · exact congrArg Clock.cfg (v.setSkew_clock b)
    exact (hset _).trans (hclock.trans hucfg)
  exact {
    other := hcfg ▸ hn
    gone := by
      unfold State.peer
      rw [hspared.presence, hstate]
      show (u.hlc.presence[n]?.getD PeerEntry.reset).present = false
      rw [huhlc]
      exact hgone
    map := by
      rw [hspared.map, hstate]
      exact humap
    intents := fun x hx hown => by
      have hx' := hspared.intents x hx hown
      rw [hstate] at hx'
      exact huintents x hx' hown
    offset := by
      refine State.evaluateOffsets_none _ ?_
      show (((u.markStation n true).tb.offsets.set n none)[n]?).getD none = none
      rw [List.getElem?_set]
      simp only [if_true]
      split <;> rfl
    elements := hspared.elements.trans ((congrArg Drive.elements hmarked.drive).trans huel)
    antennas := hspared.antennas.trans ((congrArg Drive.antennas hmarked.drive).trans huan)
    elAbsent := fun i hi => (hspared.elAbsent i).trans ((hhomed i).1 (by
      unfold State.homeOf State.element at hi ⊢
      rw [huel]
      exact hi))
    anAbsent := fun i hi => (hspared.anAbsent i).trans ((hhomed i).2 (by
      unfold State.homeOf State.antenna at hi ⊢
      rw [huan]
      exact hi)) }

end Sys2Proof.Machine
end

section
open Sys2Proof Sys2Proof.Machine

/-- Settles O16: the absence effects forget the peer, and no report that follows them brings it back, not even where one of
them ends STOPPING. -/
theorem absentPeerLosesItsRecords : Obligations.AbsentPeerLosesItsRecords := by
  intro s n hlen hn hpresent htimer
  let u := (s.withReports []).setPeer n { (s.withReports []).peer n with present := false, absence := none }
  have hends : (s.withReports []).absenceEnds n = u.absenceEffects n := if_pos ⟨hpresent, htimer⟩
  have hgone : (u.peer n).present = false := by
    show ((s.hlc.presence.set n _)[n]?.getD PeerEntry.reset).present = false
    rw [List.getElem?_set_self hlen]
    rfl
  have h : Forgets n u (drain reportFuel (u.absenceEffects n)) := (Forgets.absenceEffects (s := u) hn hgone).drain _
  exact ⟨_, (run_next (fun s => s.absenceEnds n) s).trans (by rw [hends]), h.gone, h.map, h.intents, h.offset, h.elAbsent,
    h.anAbsent⟩

end

section
/-! SUPPORT. LINK-FAULT: what its entry puts out, block after block, stays out as the reports of the entry are acted on
(R22, R55, R82, R96, R157). -/

namespace Sys2Proof.Machine

-- Each pending proof holds a stack of its own: they are checked one after the other.
set_option Elab.async false

open Sys2Proof

/-- States in which the transmitter is driven for a plan. -/
def seqDriven : SeqState → Bool
  | .tuning | .tuned | .ramping | .onAir => true
  | _ => false

/-- What the entry to LINK-FAULT has put out once it has gone through the first `k` of planner, ramp log, drive, presence
table, and peers' records; the link and the sequencer go first. -/
structure Quenched (k : Nat) (s : State) : Prop where
  phase  : s.sp.phase = .linkFault
  link   : s.hlc.queue = [] ∧ s.hlc.slots = [] ∧ s.hlc.attempt = none ∧ s.hlc.beaconT = none ∧ s.hlc.joiningT = none
  state  : seqDriven s.ts.state = false
  ending : 1 ≤ k → ∀ p ∈ s.cp.plans, p.state = .ending
  log    : 2 ≤ k → s.rl.request = none ∧ ∀ x ∈ s.rl.intents, x.own = none
  drive  : 3 ≤ k → s.ed.motion = none ∧ s.ed.slew = none ∧ s.ed.driveQ = [] ∧ s.ed.slewQ = [] ∧ s.ed.exercise = none
  absent : 4 ≤ k → ∀ e ∈ s.hlc.presence, e.present = false
  peers  : 5 ≤ k → s.cm.map = [] ∧ s.cm.horizon = none ∧ s.rl.intents = []

/-- In LINK-FAULT nothing is offered (R15). -/
theorem State.offer_linkFault {s : State} (h : s.sp.phase = .linkFault) (f : Frame) : s.offer f = (s, false) := by
  unfold State.offer
  rw [show s.phase = .linkFault from h]
  rfl

namespace Quenched
variable {k : Nat} {s : State}

/-! ## Setters -/

theorem report (h : Quenched k s) (rs : List Report) : Quenched k (s.report rs) := { h with }

theorem withCm (h : Quenched k s) {v : ClaimMap}
    (hv : 5 ≤ k → v.map = s.cm.map ∧ v.horizon = s.cm.horizon := by exact fun _ => ⟨rfl, rfl⟩) :
    Quenched k (s.withCm v) :=
  { h with peers := fun hk => ⟨(hv hk).1.trans (h.peers hk).1, (hv hk).2.trans (h.peers hk).2.1, (h.peers hk).2.2⟩ }

theorem withTs (h : Quenched k s) {v : Sequencer} (hv : v.state = s.ts.state ∨ seqDriven v.state = false := by exact .inl rfl) :
    Quenched k (s.withTs v) :=
  { h with state := hv.elim (fun e => (congrArg seqDriven e).trans h.state) fun e => e }

theorem withCp (h : Quenched k s) {v : Planner} (hv : 1 ≤ k → ∀ p ∈ v.plans, p.state = .ending) :
    Quenched k (s.withCp v) := { h with ending := hv }

theorem withRl (h : Quenched k s) {v : RampLog} (hv : ∀ x ∈ v.intents, x ∈ s.rl.intents := by exact fun _ hx => hx)
    (hq : v.request = s.rl.request ∨ v.request = none := by exact .inl rfl) : Quenched k (s.withRl v) :=
  { h with
    log := fun hk => ⟨hq.elim (fun e => e.trans (h.log hk).1) fun e => e, fun x hx => (h.log hk).2 x (hv x hx)⟩
    peers := fun hk => ⟨(h.peers hk).1, (h.peers hk).2.1, List.eq_nil_iff_forall_not_mem.2 fun x hx => by
      have hmem := hv x hx
      rw [(h.peers hk).2.2] at hmem
      cases hmem⟩ }

theorem withPd (h : Quenched k s) (v : Directory) : Quenched k (s.withPd v) := { h with }

theorem withSs (h : Quenched k s) (v : Schedule) : Quenched k (s.withSs v) := { h with }

theorem withTb (h : Quenched k s) (v : Timebase) : Quenched k (s.withTb v) := { h with }

theorem withFlags (h : Quenched k s) (v : Flags) : Quenched k (s.withFlags v) := { h with }

theorem withSp (h : Quenched k s) {v : Port} (hv : v.phase = s.sp.phase := by rfl) : Quenched k (s.withSp v) :=
  { h with phase := hv.trans h.phase }

theorem foldl {α : Type} {f : State → α → State} (hf : ∀ u x, Quenched k u → Quenched k (f u x)) (l : List α) :
    ∀ {s : State}, Quenched k s → Quenched k (l.foldl f s) := by
  induction l with
  | nil => exact fun h => h
  | cons x l ih => exact fun h => ih (hf _ x h)

/-! ## Own bookings and plans that leave -/

theorem endOwn (h : Quenched k s) (b : OwnBooking) (what : Told) : Quenched k (s.endOwn b what) := by
  have hgone : Quenched k (s.withCm { s.cm with own := s.cm.own.filter fun x => x.desc.num != b.desc.num }) := h.withCm
  refine report ?_ _
  simp only [State.removeOwn]
  refine report ?_ _
  split
  · exact hgone
  · next hne => exact absurd h.phase hne

theorem releaseTest (h : Quenched k s) : Quenched k s.releaseTest := by
  unfold State.releaseTest
  split
  · exact h
  · exact foldl (fun _ b hu => hu.endOwn b _) _ h

theorem releaseBooking (h : Quenched k s) (num : Nat) : Quenched k (s.releaseBooking num) := by
  unfold State.releaseBooking
  split
  · exact h
  · split
    · exact h.endOwn _ _
    · exact releaseTest (report h.withCm _)

theorem updPlan (h : Quenched k s) (id : Nat) {f : Plan → Plan} (hf : ∀ p, p.state = .ending → (f p).state = .ending) :
    Quenched k (s.updPlan id f) :=
  h.withCp fun hk p hp => by
    obtain ⟨x, hx, rfl⟩ := List.mem_map.1 hp
    split
    · exact hf x (h.ending hk x hx)
    · exact h.ending hk x hx

theorem logRecord (h : Quenched k s) (r : AirRecord) : Quenched k (s.logRecord r) := by
  unfold State.logRecord
  split
  · exact h.withSp
  · exact (h.withSp).withFlags _

theorem planLeaves (h : Quenched k s) (p : Plan) : Quenched k (s.planLeaves p) := by
  have hfilter : Quenched k (s.withCp { s.cp with plans := s.cp.plans.filter fun x => x.id != p.id }) :=
    h.withCp fun hk q hq => h.ending hk q (List.mem_filter.1 hq).1
  simp only [State.planLeaves]
  refine report ?_ _
  split
  · exact hfilter.withSs _
  · exact hfilter

theorem dropPin (h : Quenched k s) (p : Plan) : Quenched k (s.dropPin p) := by
  unfold State.dropPin
  split
  · exact updPlan (h.withPd _) _ (f := fun p => { p with pin := none }) fun _ e => e
  · exact h

theorem dropBooking (h : Quenched k s) (p : Plan) : Quenched k (s.dropBooking p) := by
  unfold State.dropBooking
  split
  · exact releaseBooking (updPlan h _ (f := fun p => { p with booking := none }) fun _ e => e) _
  · exact h

theorem dropPlan (h : Quenched k s) (p : Plan) (out : Option (AirOutcome × Option AirCause)) :
    Quenched k (s.dropPlan p out) := by
  have hgone := (h.dropBooking p).dropPin p
  simp only [State.dropPlan]
  split
  · exact (hgone.logRecord _).planLeaves p
  · exact hgone.planLeaves p

theorem finishPlan (h : Quenched k s) (p : Plan) : Quenched k (s.finishPlan p) := ((h.dropPin p).logRecord _).planLeaves p

theorem cancelPick (h : Quenched k s) : Quenched k s.cancelPick := by
  have hhide : ∀ num, Quenched k ((s.filterIntents fun y => !y.isPending).hideIntent num) := fun num =>
    (h.withRl (v := { s.rl with intents := s.rl.intents.filter fun y => !y.isPending })
      fun _ hx => (List.mem_filter.1 hx).1).withCp fun hk p hp => by
        obtain ⟨x, hx, rfl⟩ := List.mem_map.1 hp
        have hend := h.ending hk x hx
        split
        · split
          · exact hend
          · exact hend
        · exact hend
  have hwithdrawn : Quenched k s.withdrawIntent := by
    simp only [State.withdrawIntent]
    split
    · exact h
    · split
      · exact (hhide _).withRl
      · unfold State.offerCancel
        rw [State.offer_linkFault (hhide _).phase]
        exact (hhide _).withRl
  exact hwithdrawn.withRl (hq := .inr rfl)

theorem setSeq (h : Quenched k s) {st : SeqState} (hst : seqDriven st = false) : Quenched k (s.setSeq st) :=
  releaseTest (withTs (h.withTs (hv := .inr hst)))

theorem rampDown (h : Quenched k s) : Quenched k s.rampDown := by
  have hstate := h.state
  unfold State.rampDown
  split
  case h_5 => exact h
  all_goals
    next e =>
    rw [e] at hstate
    cases hstate

theorem enterEnding (h : Quenched k s) (p : Plan) (out : Option (AirOutcome × AirCause)) :
    Quenched k (s.enterEnding p out) := by
  by_cases hstate : p.state = .ending
  · rw [s.enterEnding_ending p out hstate]
    exact h
  · rw [s.enterEnding_eq p out hstate]
    have hput : Quenched k (s.putPlan (p.toEnding s.now out)) := h.updPlan _ fun _ _ => rfl
    have hdown : Quenched k (s.goesDown (p.toEnding s.now out)) :=
      ((hput.withCp (v := { (s.putPlan (p.toEnding s.now out)).cp with owedMoves := [] })
        hput.ending).rampDown.cancelPick).report _
    unfold State.givesUp
    split
    · exact hdown.releaseBooking _
    · split
      · exact hdown.finishPlan _
      · exact hdown

/-! ## Reports -/

theorem currentPlan_ending (h : Quenched 5 s) {p : Plan} (hp : s.currentPlan = some p) : p.state = .ending :=
  h.ending (by decide) p (State.currentPlan_some hp).1

theorem plan_ending (h : Quenched 5 s) {id : Nat} {p : Plan} (hp : s.plan id = some p) : p.state = .ending :=
  h.ending (by decide) p (State.mem_of_plan hp)

theorem planTold (h : Quenched 5 s) (id num : Nat) (what : Told) : Quenched 5 (s.planTold id num what) := by
  unfold State.planTold
  split
  · next p hp =>
    split
    · exact h
    · have hend := h.plan_ending hp
      cases what with
      | released =>
        show Quenched 5 (if p.state = .ending then s.planReleased p else s)
        rw [if_pos hend]
        exact finishPlan (h.withCp (v := { s.cp with guardT := some s.cfg.tGRD }) h.ending) p
      | stopped => exact h.updPlan _ fun _ _ => hend
      | _ => simpa [hend, PlanState.waiting] using h
  · exact h

/-- No plan is left for the planner to move. -/
theorem planner_idle (h : Quenched 5 s) : (∀ id, s.chooseFor id = s) ∧ s.retryBlocked = s ∧ s.recomputeAll = s
    ∧ s.contCheck = s ∧ (∀ id, s.recompute id = s) := by
  have hwait : ∀ p ∈ s.cp.plans, p.state.waiting = false := fun p hp => by rw [h.ending (by decide) p hp]; rfl
  have hchoose : ∀ id, s.chooseFor id = s := fun id => by
    unfold State.chooseFor
    split
    · next p hp => simp [h.plan_ending hp]
    · rfl
  have hrecompute : ∀ id, s.recompute id = s := fun id => by
    unfold State.recompute
    split
    · next p hp => rw [if_pos (.inl (hwait p (State.mem_of_plan hp)))]
    · rfl
  refine ⟨hchoose, s.retryBlocked_none fun p hp => by simp [h.ending (by decide) p hp], ?_, ?_, hrecompute⟩
  · exact List.foldlRecOn (motive := fun u : State => u = s) _ _ rfl fun u hu id _ => hu ▸ hrecompute id
  · unfold State.contCheck
    rw [List.filter_eq_nil_iff.2 fun p hp => by simp [hwait p hp]]
    rfl

theorem voidPin (h : Quenched 5 s) (set way : Nat) : Quenched 5 (s.voidPin set way) := by
  unfold State.voidPin
  refine foldl (fun u id hu => ?_) _ (foldl (fun u id hu => hu.updPlan id (f := fun p =>
    { p with pin := none, preset := .miss, t := u.tuneTime .miss }) fun _ e => e) _ h)
  rw [hu.planner_idle.2.2.2.2 id]
  exact hu

theorem planMoveRefused (h : Quenched 5 s) (num : Nat) (kind : ItemKind) (item reason : Nat) :
    Quenched 5 (s.planMoveRefused num kind item reason) := by
  unfold State.planMoveRefused
  split
  · next p hp => simpa [h.currentPlan_ending hp] using h
  · exact h

theorem abandonRestart (h : Quenched k s) : Quenched k s.abandonRestart := report h.withTs _

theorem restartTest (h : Quenched 5 s) : Quenched 5 s.restartTest := by
  unfold State.restartTest
  split
  · split
    · next p hp =>
      rw [if_pos (.inl (by simp [h.currentPlan_ending hp]))]
      exact h.abandonRestart
    · exact h.abandonRestart
  · exact h

theorem leaveTripped (h : Quenched k s) : Quenched k s.leaveTripped := by
  unfold State.leaveTripped
  extract_lets done
  split
  · exact setSeq h.withTs rfl
  · exact h

theorem deliver (h : Quenched 5 s) (r : Report) : Quenched 5 (deliver r s) := by
  obtain ⟨hchoose, hretry, hrecompute, hcont, -⟩ := h.planner_idle
  have hex := (h.drive (by decide)).2.2.2.2
  cases r with
  | told req num what =>
    cases req with
    | plan id => exact h.planTold id num what
    | exercise => simpa [Machine.deliver, State.told, State.exerciseTold, hex] using h
  | permitTest =>
    have hstate := h.state
    simp only [Machine.deliver, State.permitTest]
    split
    case h_5 => exact h
    all_goals
      next e =>
      rw [e] at hstate
      cases hstate
  | viewChanged kind item =>
    simp only [Machine.deliver, State.planViewChanged]
    split
    · next p hp => simpa [h.currentPlan_ending hp] using h.report _
    · exact h.report _
  | homeGone kind item =>
    simp only [Machine.deliver, State.planHomeGone]
    split
    · next p hp => simpa [h.currentPlan_ending hp] using h
    · exact h
  | retryBlocked => exact (congrArg (Quenched 5) hretry).mpr h
  | routeChoice id => exact (congrArg (Quenched 5) (hchoose id)).mpr h
  | planLeft =>
    show Quenched 5 (s.recomputeAll.report _)
    rw [hrecompute]
    exact h.report _
  | contCheck => exact (congrArg (Quenched 5) hcont).mpr h
  | moveRefused num kind item reason =>
    simp only [Machine.deliver, State.moveRefused, hex]
    exact h.planMoveRefused _ _ _ _
  | peerRefused num kind item reason => exact h.planMoveRefused num kind item reason
  | elementSet item => simpa [Machine.deliver, State.exerciseSet, hex] using h
  | elementFault item => simpa [Machine.deliver, State.exerciseStops, hex] using h
  | pickMade plan bySeq =>
    simp only [Machine.deliver, State.pickMade, State.restartPicked]
    split
    · split
      · next p hp => simpa [h.currentPlan_ending hp] using h
      · exact h
    · exact h
  | pickRefused plan bySeq =>
    simp only [Machine.deliver, State.pickRefused, State.planPickRefused]
    split
    · exact h.abandonRestart
    · split
      · next p hp => simpa [h.plan_ending hp] using h
      · exact h
  | tuned =>
    simp only [Machine.deliver, State.planTuned]
    split
    · next p hp => simpa [h.currentPlan_ending hp] using h
    · exact h
  | tuneFailed =>
    simp only [Machine.deliver, State.planTuneFailed]
    split
    · next p hp => simpa [h.currentPlan_ending hp] using h
    · exact h
  | tripped =>
    simp only [Machine.deliver, State.planTripped]
    split
    · next p hp => simpa [h.currentPlan_ending hp] using h
    · exact h
  | lockedOut =>
    simp only [Machine.deliver, State.planLockedOut]
    refine foldl (fun _ p hu => hu.dropPlan p _) _ ?_
    split
    · exact h.enterEnding _ _
    · exact h
  | noRestart =>
    simp only [Machine.deliver, State.planNoRestart]
    split
    · next p hp => simpa [h.currentPlan_ending hp] using h
    · exact h
  | voidPin set way => exact h.voidPin set way
  | restartTest => exact h.restartTest
  | leaveTripped => exact h.leaveTripped
  | stopTest => simpa [Machine.deliver, State.stopTest, State.phase, h.phase] using h
  | openTest => simpa [Machine.deliver, State.openTest, State.phase, h.phase] using h

theorem drain (h : Quenched 5 s) (n : Nat) : Quenched 5 (drain n s) :=
  drain_induct (P := Quenched 5) (fun _ _ hu => { hu with }) (fun r _ hu => hu.deliver r) n s h

/-! ## The entry (R22) -/

/-- The link and the sequencer go first. -/
theorem entered (s : State) : Quenched 0 (((s.withSp { s.sp with
      phase := .linkFault, restartMark := false, cpStopped := false, cmStopped := false }).withHlc
      s.hlc.linkFault).rampDown) := by
  have hnone : ∀ {j : Nat}, j + 1 ≤ 0 → False := fun h => Nat.not_succ_le_zero _ h
  have hquenched : ∀ u : State, u.sp.phase = .linkFault → u.hlc = s.hlc.linkFault → seqDriven u.ts.state = false →
      Quenched 0 u := fun u hp hl hs =>
    { phase := hp, link := by rw [hl]; exact ⟨rfl, rfl, rfl, rfl, rfl⟩, state := hs
      ending := fun h => (hnone h).elim, log := fun h => (hnone h).elim, drive := fun h => (hnone h).elim
      absent := fun h => (hnone h).elim, peers := fun h => (hnone h).elim }
  generalize hu : (s.withSp { s.sp with
      phase := .linkFault, restartMark := false, cpStopped := false, cmStopped := false }).withHlc s.hlc.linkFault = u
  have hphase : u.sp.phase = .linkFault := by rw [← hu]; rfl
  have hlink : u.hlc = s.hlc.linkFault := by rw [← hu]; rfl
  have hdown : Quenched 0 (((u.send .down).withTs { (u.send .down).ts.stopTimers with
      rfoffT := some (u.send .down).offLimit, rfOffTaken := false }).setSeq .down) := by
    unfold State.setSeq
    exact releaseTest (hquenched _ hphase hlink rfl)
  unfold State.rampDown
  split
  · exact hdown
  · exact hdown
  · exact hdown
  · exact hdown
  · refine hquenched u hphase hlink ?_
    generalize u.ts.state = st at *
    cases st <;> simp_all [seqDriven]

theorem planStop (h : Quenched 0 s) (c : AirCause) : Quenched 1 (s.planStop c) := by
  have hstopped : Quenched 0 (s.planStop c) :=
    foldl (fun _ p hu => hu.enterEnding p _) _ (foldl (fun _ p hu => hu.dropPlan p _) _ h)
  exact { hstopped with
    ending := fun _ => s.planStop_ending c
    log := fun hk => absurd hk (by decide), drive := fun hk => absurd hk (by decide)
    absent := fun hk => absurd hk (by decide), peers := fun hk => absurd hk (by decide) }

theorem cmLinkFault (h : Quenched k s) : Quenched k s.cmLinkFault := withCm (foldl (fun _ b hu => hu.endOwn b _) _ h)

theorem rampLinkFault (h : Quenched 1 s) : Quenched 2 s.rampLinkFault :=
  { h with
    ending := fun _ p hp => by
      obtain ⟨x, hx, rfl⟩ := List.mem_map.1 hp
      exact h.ending (by decide) x hx
    log := fun _ => ⟨rfl, fun x hx => by simpa using (List.mem_filter.1 hx).2⟩
    drive := fun hk => absurd hk (by decide), absent := fun hk => absurd hk (by decide)
    peers := fun hk => absurd hk (by decide) }

theorem edStop (h : Quenched 2 s) : Quenched 3 s.edStop := by
  have hlower : ∀ u : State, Quenched 2 u → u.ed.exercise = none → Quenched 3 (u.withEd { u.ed with
      driveQ := [], slewQ := [], motion := none, slew := none, refusals := []
      elView := u.ed.elView.map fun p => (p.1, { p.2 with owed := false })
      anView := u.ed.anView.map fun p => (p.1, { p.2 with owed := false }) }) := fun u hu hex =>
    { hu with
      ending := fun _ => hu.ending (by decide), log := fun _ => hu.log (by decide)
      drive := fun _ => ⟨rfl, rfl, rfl, rfl, hex⟩
      absent := fun hk => absurd hk (by decide), peers := fun hk => absurd hk (by decide) }
  have hwith : ∀ v : Drive, Quenched 2 (s.withEd v) := fun v => { h with drive := fun hk => absurd hk (by decide) }
  unfold State.edStop State.abandonExercise
  split
  · exact hlower _ (releaseBooking (hwith _) _)
      (congrArg (fun u : State => u.ed.exercise) (show _ = _ from State.bookingFrame_releaseBooking _ _))
  · exact hlower _ h ‹_›

/-- The effects of an absence touch records, marks and offsets only. -/
theorem absenceEffects (h : Quenched k s) (hk : k < 5) (n : Nat) : Quenched k (s.absenceEffects n) := by
  have hnot : ¬ 5 ≤ k := Nat.not_le.2 hk
  have hmap : Quenched k (s.dropPeerRecs n) := by
    have hkept : Quenched k (s.keepRecs fun r => r.desc.holder != n) := h.withCm fun hk => absurd hk hnot
    unfold State.dropPeerRecs State.afterMap
    extract_lets key
    split
    · exact hkept.report _
    · exact hkept
  have hlog : Quenched k ((s.dropPeerRecs n).dropPeerIntents n) := hmap.withRl fun _ hx => (List.mem_filter.1 hx).1
  have hgate : ∀ u v : State, Quenched k u → Quenched k (u.afterGate v) := fun u v hu => by
    rcases u.afterGate_other v with e | e <;> rw [e]
    · exact hu
    · exact hu.report _
  unfold State.absenceEffects
  generalize (s.dropPeerRecs n).dropPeerIntents n = u at hlog
  have hmarked := u.marked_markStation n true
  have hmarks : Quenched k (u.markStation n true) := by
    have hdrive : Quenched k (u.withEd (u.markStation n true).ed) := { hlog with
      drive := fun hk => by
        show (u.markStation n true).ed.motion = none ∧ _
        rw [hmarked.drive]
        exact hlog.drive hk }
    rw [hmarked.rest]
    exact { hdrive with }
  generalize u.markStation n true = w at hmarks
  have hremoved : Quenched k (w.withTb { w.tb with offsets := setAt n none w.tb.offsets }) := hmarks.withTb _
  unfold State.removeOffset
  generalize w.withTb { w.tb with offsets := setAt n none w.tb.offsets } = x at hremoved
  rcases x.evaluateOffsets_cases with e | ⟨j, e⟩ | ⟨b, e⟩ <;> rw [e]
  · exact hremoved
  · refine hgate _ _ ?_
    unfold State.noteInstants
    split
    · exact withSs ((hremoved.withTb _).withFlags _) _
    · exact withSs ((hremoved.withTb _).withFlags _) _
  · exact hgate _ _ (hremoved.withTb _)

theorem allAbsent (h : Quenched 3 s) : Quenched 5 s.allAbsent := by
  have habsent : Quenched 4 (s.withHlc { s.hlc with
      presence := s.hlc.presence.map fun e => { e with present := false, absence := none } }) :=
    { h with
      ending := fun _ => h.ending (by decide), log := fun _ => h.log (by decide), drive := fun _ => h.drive (by decide)
      absent := fun _ e he => by
        obtain ⟨x, -, rfl⟩ := List.mem_map.1 he
        rfl
      peers := fun hk => absurd hk (by decide) }
  have heffects : Quenched 4 (((List.range 16).filter fun n => n != s.cfg.stationId).foldl State.absenceEffects
      (s.withHlc { s.hlc with
        presence := s.hlc.presence.map fun e => { e with present := false, absence := none } })) :=
    foldl (fun _ n hu => hu.absenceEffects (by decide) n) _ habsent
  unfold State.allAbsent
  extract_lets peers hlc u
  generalize peers.foldl State.absenceEffects u = v at *
  have hempty : ∃ rs, v.emptyMap = (v.withCm { v.cm with map := [], horizon := none }).withReports rs := by
    unfold State.emptyMap State.afterMap
    extract_lets key
    split
    · exact ⟨_, rfl⟩
    · exact ⟨v.reports, rfl⟩
  obtain ⟨rs, he⟩ := hempty
  have hnone : v.rl.intents.filter (fun x => x.own.isSome) = [] :=
    List.filter_eq_nil_iff.2 fun x hx => by simp [(heffects.log (by decide)).2 x hx]
  rw [he]
  exact { heffects with
    ending := fun _ => heffects.ending (by decide)
    log := fun _ => ⟨(heffects.log (by decide)).1, fun x hx => (heffects.log (by decide)).2 x (List.mem_filter.1 hx).1⟩
    drive := fun _ => heffects.drive (by decide), absent := fun _ => heffects.absent (by decide)
    peers := fun _ => ⟨rfl, rfl, hnone⟩ }

theorem enterLinkFault (s : State) : Quenched 5 s.enterLinkFault :=
  ((entered s).planStop .link).cmLinkFault.rampLinkFault.edStop.allAbsent

end Quenched

/-- A bit of a number spelled by bits is one of them. -/
theorem testBit_bitsValue (l : List Bool) : ∀ i : Nat, (bitsValue l).testBit i = (l[i]?).getD false := by
  induction l with
  | nil => simp [bitsValue]
  | cons b l ih =>
    intro i
    cases i with
    | zero => cases b <;> simp [bitsValue, Nat.testBit_zero, Nat.add_mod]
    | succ i =>
      rw [Nat.testBit_succ, show bitsValue (b :: l) / 2 = bitsValue l by cases b <;> simp [bitsValue]; omega, ih i]
      rfl

end Sys2Proof.Machine
end

section
open Sys2Proof Sys2Proof.Machine

/-- Settles O11: the entry puts out block after block, and no report lights one again. -/
theorem linkFaultStopsStation : Obligations.LinkFaultStopsStation := by
  intro s herr hphase
  have henters : (s.withReports []).linkFaultEntry = (s.withReports []).enterLinkFault := if_pos ⟨herr, hphase⟩
  have h : Quenched 5 (drain reportFuel (s.withReports []).enterLinkFault) := (Quenched.enterLinkFault _).drain _
  refine ⟨_, (run_next State.linkFaultEntry s).trans (by rw [henters]), ?_⟩
  generalize drain reportFuel (s.withReports []).enterLinkFault = t at h
  obtain ⟨hqueue, hslots, hattempt, hbeacon, hjoining⟩ := h.link
  obtain ⟨hmotion, hslew, hdriveQ, hslewQ, -⟩ := h.drive (by decide)
  obtain ⟨hmap, hhorizon, hintents⟩ := h.peers (by decide)
  refine ⟨h.phase, hqueue, hslots, hattempt, hbeacon, hjoining, h.absent (by decide), hmap, hhorizon, hintents,
    (h.log (by decide)).1, hmotion, hslew, hdriveQ, hslewQ, ?_, ?_, ?_⟩
  · have hstate := h.state
    refine ⟨?_, ?_, ?_, ?_⟩ <;> intro e <;> rw [e] at hstate <;> cases hstate
  · simp [State.inhibit, State.permit, State.phase, h.phase, dispatchesIn]
  · unfold State.flagWord
    rw [testBit_bitsValue]
    simp [State.flagBits, h.phase]

end

section
/-! SUPPORT. What a BEACON does: the presence table and the profile check, and what its list leaves in the peer map
(R30, R31, R70, R77). -/

namespace Sys2Proof.Machine

-- Each pending proof holds a stack of its own: they are checked one after the other.
set_option Elab.async false

open Sys2Proof

/-! ## Presence and profile (R30, R31) -/

/-- A BEACON at the presence table and the profile check: the entry, the marks of the sender's items, the flag. -/
theorem State.beaconPresence_eq (s : State) (sender : Nat) (b : BeaconBody) : ∃ (ed : Drive) (rs : List Report),
    s.beaconPresence sender b = (((s.hearPeer sender b.phase b.seq).withEd ed).withReports rs).withFlags
      { s.flags with profileMismatch := s.flags.profileMismatch || decide (b.profile ≠ s.cfg.profile) }
    ∧ ∀ r ∈ rs, r ∈ s.reports ∨ r = .retryBlocked := by
  have hmarked : ∃ (ed : Drive) (rs : List Report), (if (s.peer sender).present = true then
        s.hearPeer sender b.phase b.seq else (s.hearPeer sender b.phase b.seq).markStation sender false)
      = ((s.hearPeer sender b.phase b.seq).withEd ed).withReports rs ∧ ∀ r ∈ rs, r ∈ s.reports ∨ r = .retryBlocked := by
    split
    · exact ⟨_, _, rfl, fun _ hr => .inl hr⟩
    · have h := (s.hearPeer sender b.phase b.seq).marked_markStation sender false
      refine ⟨_, _, h.rest, fun r hr => (h.reports r hr).imp_right fun hof => ?_⟩
      cases r <;> simp_all [Report.ofMark]
  obtain ⟨ed, rs, he, hrs⟩ := hmarked
  refine ⟨ed, rs, ?_, hrs⟩
  unfold State.beaconPresence
  simp only [he]
  by_cases hprofile : b.profile = s.cfg.profile
  · refine Eq.trans (if_pos hprofile) ?_
    rw [show (s.flags.profileMismatch || decide (b.profile ≠ s.cfg.profile)) = s.flags.profileMismatch by simp [hprofile]]
    rfl
  · refine Eq.trans (if_neg hprofile) ?_
    rw [show (s.flags.profileMismatch || decide (b.profile ≠ s.cfg.profile)) = true by simp [hprofile]]
    rfl

/-- What a BEACON has to leave: its sender's entry, the number and the stamp of the link, and the profile flag. -/
structure State.Heard (presence : List PeerEntry) (seq stamp : Nat) (mismatch : Bool) (s : State) : Prop where
  presence : s.hlc.presence = presence
  seq      : s.hlc.seq = seq
  stamp    : stamp ≤ s.hlc.stamp ∧ s.hlc.stamp ≤ 4294967295
  mismatch : s.flags.profileMismatch = mismatch

namespace State.Heard
variable {p : List PeerEntry} {n k : Nat} {m : Bool} {s t : State}

theorem spared (h : s.Heard p n k m) (hs : Spared False s t) : t.Heard p n k m where
  presence := hs.presence.trans h.presence
  seq := hs.seq.trans h.seq
  stamp :=
    have hle := hs.stamp h.stamp.2
    ⟨Nat.le_trans h.stamp.1 hle.1, hle.2⟩
  mismatch := hs.mismatch.trans h.mismatch

theorem withCm (h : s.Heard p n k m) (v : ClaimMap) : (s.withCm v).Heard p n k m := { h with }

theorem putRecs (h : s.Heard p n k m) (l : List PeerRec) :
    (l.foldl (fun s x => s.putRec { x with mark := Mark.yielded }) s).Heard p n k m :=
  List.foldlRecOn (motive := fun u : State => u.Heard p n k m) _ _ h fun _ hu _ _ => hu.withCm _

theorem place (h : s.Heard p n k m) (r : PeerRec) (w : Bool) : (s.place r w).Heard p n k m := by
  have hobject : ∀ {u : State} (a b c : Nat), u.Heard p n k m → (u.offerObject a b c).Heard p n k m := fun {u} a b c hu => by
    simp only [State.offerObject]
    split
    · exact hu.spared ((Spared.refl u fun e => e.elim).offer _)
    · exact hu.withCm _
  simp only [State.place]
  split
  · split
    · exact hobject _ _ _ (h.withCm _)
    · exact h.withCm _
  · split
    · exact h.withCm _
    · have hyielded : ∀ l : List PeerRec, (l.foldl (fun s x => s.putRec { x with mark := Mark.yielded })
          (s.putRec { r with mark := heldMark r.announced })).Heard p n k m := fun l => putRecs (h.withCm _) l
      have hdisplaced : ∀ (u : State) (l : List OwnBooking), u.Heard p n k m →
          (l.foldl State.displace u).Heard p n k m := fun u l hu =>
        hu.spared (Spared.foldl (fun u b hu => (hu.removeOwn b true).loud fun e => e) l (Spared.refl u fun e => e.elim))
      exact hdisplaced _ _ (hyielded _)

theorem hearEntry (h : s.Heard p n k m) (e : Desc × Nat) : (s.hearEntry e).Heard p n k m := by
  have hadd : ∀ r, (s.addRec r).Heard p n k m := fun r => by
    simp only [State.addRec]
    split
    · exact h.place _ _
    · split
      · exact h.withCm _
      · exact ((h.withCm _).withCm _).place _ _
  unfold State.hearEntry
  split
  · split
    · split
      · exact h
      · exact h.place _ _
    · exact hadd _
  · exact h

theorem hearList (h : s.Heard p n k m) (sender ctr : Nat) (l : List (Desc × Nat)) :
    (s.hearList sender ctr l).Heard p n k m := by
  have hfold : (l.foldl State.hearEntry s).Heard p n k m :=
    List.foldlRecOn (motive := fun u : State => u.Heard p n k m) _ _ h fun _ hu e _ => hu.hearEntry e
  exact (hfold.withCm _).spared ((Spared.refl _ fun e => e.elim).afterMap s)

end State.Heard

/-! ## Placement in the map (R70, R77) -/

/-- The map holds a record of this descriptor and announced state. -/
def State.Says (s : State) (d : Desc) (n : Nat) : Prop := ∃ r ∈ s.cm.map, r.desc = d ∧ r.announced = n

/-- The map is in its one form: no two records under one key (R70). -/
def State.Rises (s : State) : Prop := s.cm.map.Pairwise fun x y => recBefore x y = true

theorem State.Rises.eq_of_key {s : State} (h : s.Rises) {x y : PeerRec} (hx : x ∈ s.cm.map) (hy : y ∈ s.cm.map)
    (hholder : x.desc.holder = y.desc.holder) (hnum : x.desc.num = y.desc.num) : x = y := by
  have hnodup : (s.cm.map.map fun r => (r.desc.holder, r.desc.num)).Nodup := by
    rw [List.Nodup, List.pairwise_map]
    refine h.imp fun {a b} hab hkey => ?_
    obtain ⟨hh, hn⟩ := Prod.mk.inj hkey
    rw [recBefore_iff] at hab
    omega
  exact List.inj_on_of_nodup_map hnodup hx hy (Prod.ext hholder hnum)

/-- A record has been stored: it is said, and all that was said under other keys still is. -/
structure State.Stores (r : PeerRec) (s t : State) : Prop where
  rises  : t.Rises
  stored : t.Says r.desc r.announced
  keeps  : ∀ d n, s.Says d n → ¬ (d.holder = r.desc.holder ∧ d.num = r.desc.num) → t.Says d n
  room   : t.cm.map.length ≤ s.cm.map.length + 1

namespace State.Stores
variable {r : PeerRec} {s t u : State}

theorem of_map (h : Stores r s t) (hu : u.cm.map = t.cm.map) : Stores r s u where
  rises := by
    unfold State.Rises
    rw [hu]
    exact h.rises
  stored := by
    unfold State.Says
    rw [hu]
    exact h.stored
  keeps d n hd hne := by
    unfold State.Says
    rw [hu]
    exact h.keeps d n hd hne
  room := hu ▸ h.room

theorem putRec (hs : s.Rises) (m : Mark) : Stores r s (s.putRec { r with mark := m }) where
  rises := putRec_rises { r with mark := m } hs
  stored := ⟨_, (mem_insertBy ..).2 (.inl rfl), rfl, rfl⟩
  keeps d n hd hne := by
    obtain ⟨x, hx, rfl, rfl⟩ := hd
    refine ⟨x, (mem_insertBy ..).2 (.inr (List.mem_filter.2 ⟨hx, ?_⟩)), rfl, rfl⟩
    rw [Bool.not_eq_true', Bool.eq_false_iff, ne_eq, PeerRec.isKey_iff]
    exact hne
  room := by
    show (insertBy recBefore _ _).length ≤ _
    rw [length_insertBy]
    exact Nat.succ_le_succ (List.length_filter_le ..)

/-- A record that the map says already is stored again: what is said stays. -/
theorem again (h : Stores r s t) {y : PeerRec} (hy : t.Says y.desc y.announced) (m : Mark) :
    Stores r s (t.putRec { y with mark := m }) ∧ ∀ d n, t.Says d n → (t.putRec { y with mark := m }).Says d n := by
  have hput := putRec (r := y) h.rises m
  have hall : ∀ d n, t.Says d n → (t.putRec { y with mark := m }).Says d n := fun d n hd => by
    by_cases hkey : d.holder = y.desc.holder ∧ d.num = y.desc.num
    · obtain ⟨x, hx, rfl, rfl⟩ := hd
      obtain ⟨z, hz, hzd, hzn⟩ := hy
      obtain rfl := h.rises.eq_of_key hx hz (hzd ▸ hkey.1) (hzd ▸ hkey.2)
      rw [hzd, hzn]
      exact hput.stored
    · exact hput.keeps d n hd hkey
  refine ⟨⟨hput.rises, hall _ _ h.stored, fun d n hd hne => hall d n (h.keeps d n hd hne), ?_⟩, hall⟩
  obtain ⟨z, hz, hzd, -⟩ := hy
  refine Nat.le_trans (length_putRec (r := { y with mark := m }) (List.any_eq_true.2 ⟨z, hz, ?_⟩)) h.room
  rw [PeerRec.isKey_iff, hzd]
  exact ⟨rfl, rfl⟩

theorem yield (l : List PeerRec) : ∀ {t : State}, Stores r s t → (∀ y ∈ l, t.Says y.desc y.announced) →
    Stores r s (l.foldl (fun s x => s.putRec { x with mark := Mark.yielded }) t) := by
  induction l with
  | nil => exact fun h _ => h
  | cons y l ih =>
    intro t h hl
    obtain ⟨hagain, hall⟩ := h.again (hl y List.mem_cons_self) .yielded
    exact ih hagain fun x hx => hall _ _ (hl x (List.mem_cons_of_mem _ hx))

/-- A placement stores its record, whatever mark it gives it (R70). -/
theorem place (hs : s.Rises) (was : Bool) : Stores r s (s.place r was) := by
  simp only [State.place]
  split
  · split
    · exact (putRec hs .objected).of_map (State.offerObject_map _ _ _ _)
    · exact putRec hs .objected
  · split
    · exact putRec hs .yielded
    · refine of_map (yield _ (putRec hs (heldMark r.announced)) fun y hy => ?_) (State.foldl_displace_map _ _)
      obtain ⟨hmem, hcond⟩ := List.mem_filter.1 hy
      refine (putRec hs _).keeps _ _ ⟨y, hmem, rfl, rfl⟩ fun hkey => ?_
      simp [(y.isKey_iff _ _).2 hkey] at hcond

end State.Stores

/-! ## A list of entries (R77) -/

/-- An entry of a list that is taken: readable, its state named, its until still to come. -/
def State.takes (s : State) (e : Desc × Nat) : Bool := e.1.readable && decide (e.2 ≤ 5) && after s.now e.1.stop

/-- An entry leaves the map in form, takes one more place at most, and leaves the records of other keys; one that is taken
is then said. -/
theorem State.hearEntry_map (s : State) (e : Desc × Nat) (hs : s.Rises) (hroom : s.cm.map.length < 64) :
    (s.hearEntry e).Rises ∧ (s.hearEntry e).cm.map.length ≤ s.cm.map.length + 1
      ∧ (∀ d n, s.Says d n → ¬ (d.holder = e.1.holder ∧ d.num = e.1.num) → (s.hearEntry e).Says d n)
      ∧ (s.takes e = true → (s.hearEntry e).Says e.1 e.2) := by
  have hsame : ∀ u : State, u = s → u.Rises ∧ u.cm.map.length ≤ s.cm.map.length + 1
      ∧ ∀ d n, s.Says d n → ¬ (d.holder = e.1.holder ∧ d.num = e.1.num) → u.Says d n := by
    rintro u rfl
    exact ⟨hs, Nat.le_succ _, fun _ _ hd _ => hd⟩
  have hstores : ∀ u : State, ∀ r : PeerRec, r.desc = e.1 → r.announced = e.2 → Stores r s u →
      u.Rises ∧ u.cm.map.length ≤ s.cm.map.length + 1
      ∧ (∀ d n, s.Says d n → ¬ (d.holder = e.1.holder ∧ d.num = e.1.num) → u.Says d n)
      ∧ (s.takes e = true → u.Says e.1 e.2) := fun u r hd hn h =>
    ⟨h.rises, h.room, hd ▸ h.keeps, fun _ => hd ▸ hn ▸ h.stored⟩
  unfold State.hearEntry
  split
  · split
    · next r hr =>
      split
      · next hstands =>
        obtain ⟨h1, h2, h3⟩ := hsame s rfl
        exact ⟨h1, h2, h3, fun _ => ⟨r, List.mem_of_find?_eq_some hr, hstands.1, hstands.2.1⟩⟩
      · exact hstores _ _ rfl rfl (Stores.place (r := { r with desc := e.1, announced := e.2 }) hs _)
    · refine hstores _ { desc := e.1, announced := e.2, mark := Mark.heard } rfl rfl ?_
      unfold State.addRec
      rw [if_pos (show s.cm.map.length < Config.mapSize from hroom)]
      exact Stores.place hs _
  · next hnot =>
    obtain ⟨h1, h2, h3⟩ := hsame s rfl
    exact ⟨h1, h2, h3, fun htakes => absurd htakes hnot⟩

theorem State.takes_of_tb {s t : State} (h : t.tb = s.tb) (e : Desc × Nat) : t.takes e = s.takes e := by
  unfold State.takes State.now
  rw [h]

/-- The entries of a list: the records whose keys it does not carry stay, and where no key comes twice each entry that is
taken is said. -/
theorem State.hearEntries_map (l : List (Desc × Nat)) : ∀ s : State, s.Rises → s.cm.map.length + l.length ≤ 64 →
    (l.foldl State.hearEntry s).Rises
      ∧ (∀ d n, s.Says d n → (∀ e ∈ l, ¬ (d.holder = e.1.holder ∧ d.num = e.1.num)) →
          (l.foldl State.hearEntry s).Says d n)
      ∧ ((l.map fun e => (e.1.holder, e.1.num)).Nodup → ∀ e ∈ l, s.takes e = true →
          (l.foldl State.hearEntry s).Says e.1 e.2) := by
  induction l with
  | nil => exact fun s hs _ => ⟨hs, fun _ _ hd _ => hd, fun _ _ he => absurd he List.not_mem_nil⟩
  | cons x l ih =>
    intro s hs hroom
    rw [List.length_cons] at hroom
    obtain ⟨hrises, hlen, hkeeps, hsays⟩ := s.hearEntry_map x hs (by omega)
    obtain ⟨irises, ikeeps, isays⟩ := ih (s.hearEntry x) hrises (by omega)
    refine ⟨irises, fun d n hd hne => ?_, fun hnodup e he htakes => ?_⟩
    · exact ikeeps d n (hkeeps d n hd (hne x List.mem_cons_self)) fun e he => hne e (List.mem_cons_of_mem _ he)
    · rw [List.map_cons, List.nodup_cons] at hnodup
      rcases List.mem_cons.1 he with rfl | he
      · refine ikeeps _ _ (hsays htakes) fun y hy hkey => hnodup.1 (List.mem_map.2 ⟨y, hy, ?_⟩)
        rw [hkey.1, hkey.2]
      · exact isays hnodup.2 e he
          ((State.takes_of_tb (congrArg Clock.tb (s.hearEntry_clock x)) e).trans htakes)

/-- A record of a map in form is the one its key finds. -/
theorem State.Rises.peerRec {s : State} (h : s.Rises) {r : PeerRec} (hr : r ∈ s.cm.map) :
    s.peerRec r.desc.holder r.desc.num = some r := by
  unfold State.peerRec
  cases hfind : s.cm.map.find? fun x => x.isKey r.desc.holder r.desc.num with
  | none => exact absurd ((r.isKey_iff _ _).2 ⟨rfl, rfl⟩) (by simpa using List.find?_eq_none.1 hfind r hr)
  | some x =>
    obtain ⟨hholder, hnum⟩ := (x.isKey_iff _ _).1 (by simpa using List.find?_some hfind)
    rw [h.eq_of_key (List.mem_of_find?_eq_some hfind) hr hholder hnum]

theorem State.afterMap_map (s s0 : State) : (s.afterMap s0).cm.map = s.cm.map := by
  unfold State.afterMap
  extract_lets key
  split <;> rfl

/-- The map after a BEACON's list: what the entries leave, but for the sender's records that the list does not carry. -/
theorem State.hearList_map (s : State) (sender ctr : Nat) (l : List (Desc × Nat)) :
    (s.hearList sender ctr l).cm.map = (l.foldl State.hearEntry s).cm.map.filter fun r =>
      r.desc.holder != sender || decide (ctr < r.desc.stamp) || l.any fun e => r.isKey e.1.holder e.1.num :=
  State.afterMap_map _ _

/-! ## The command -/

section
variable {s : State} {h : Head} {b : BeaconBody}

/-- A BEACON whose codes all name values is taken whole where frames are dispatched (R30). -/
theorem State.hearBeacon_taken (hgood : s.goodFrame h (.beacon b) = true)
    (hphase : dispatchesIn s.sp.phase = true) (hread : beaconReadable h b = true) :
    s.hearBeacon h b = (((s.withHlc (followFrame s.hlc.number (.beacon b))).beaconPresence h.sender b).hearList
      h.sender b.stampCtr b.bookings).recordOffset h := by
  unfold State.hearBeacon
  rw [if_pos hgood]
  exact if_pos (by simp [State.phase, hphase, hread])

/-- Another goes to the presence table and the profile check alone, as every BEACON does in HALTED (R30, R200). -/
theorem State.hearBeacon_unlisted (hgood : s.goodFrame h (.beacon b) = true)
    (hphase : dispatchesIn s.sp.phase = true ∨ s.sp.phase = .halted)
    (hread : dispatchesIn s.sp.phase = false ∨ beaconReadable h b = false) :
    s.hearBeacon h b = (s.withHlc (followFrame s.hlc.number (.beacon b))).beaconPresence h.sender b := by
  unfold State.hearBeacon
  rw [if_pos hgood]
  refine (if_neg ?_).trans (if_pos ?_)
  · rcases hread with e | e <;> simp [State.phase, e]
  · rcases hphase with e | e <;> simp [State.phase, e]

/-- The presence table, the numbers and the profile flag after a BEACON (R26, R27, R30, R31). -/
theorem State.heard_beaconPresence (hstamp : s.hlc.stamp ≤ 4294967295) (hctr : b.stampCtr ≤ 4294967295) :
    ((s.withHlc (followFrame s.hlc.number (.beacon b))).beaconPresence h.sender b).Heard
      (s.hlc.presence.set h.sender
        { present := true, absence := some (3 * s.cfg.tBCN), heard := some (b.phase, b.seq) })
      ((s.hlc.seq + 1) % 4294967296) (max s.hlc.stamp b.stampCtr)
      (s.flags.profileMismatch || decide (b.profile ≠ s.cfg.profile)) := by
  obtain ⟨ed, rs, he, -⟩ := (s.withHlc (followFrame s.hlc.number (.beacon b))).beaconPresence_eq h.sender b
  rw [he]
  exact ⟨rfl, rfl, ⟨Nat.le_refl _, Nat.max_le.2 ⟨hstamp, hctr⟩⟩, rfl⟩

end

/-- With no plan in the queue a call on the BLOCKED plans changes nothing. -/
theorem drain_retryBlocked_rest (n : Nat) : ∀ s : State, s.cp.plans = [] → (∀ r ∈ s.reports, r = .retryBlocked) →
    ∃ rs, drain n s = s.withReports rs := by
  induction n with
  | zero => exact fun s _ _ => ⟨s.reports, rfl⟩
  | succ n ih =>
    intro s hplans hrs
    unfold drain
    split
    · exact ⟨s.reports, rfl⟩
    · next r rest hr =>
      have hretry : deliver r (s.withReports rest) = s.withReports rest := by
        rw [hrs r (hr ▸ List.mem_cons_self)]
        exact State.retryBlocked_none _ fun p hp =>
          absurd (show p ∈ s.cp.plans from hp) (by rw [hplans]; exact List.not_mem_nil)
      rw [hretry]
      exact ih (s.withReports rest) hplans fun x hx => hrs x (hr ▸ List.mem_cons_of_mem _ hx)

section
variable {s : State} {h : Head} {b : BeaconBody}

theorem State.hearBeacon_phase (s : State) (h : Head) (b : BeaconBody) : (s.hearBeacon h b).sp.phase = s.sp.phase := by
  have hpresence : ((s.withHlc (followFrame s.hlc.number (.beacon b))).beaconPresence h.sender b).sp.phase = s.sp.phase :=
    State.phase_of_clock (by simp)
  unfold State.hearBeacon
  split
  · simp only
    split
    · refine ((Spared.refl (quiet := False) _ fun e => e.elim).recordOffset h).phase.trans ?_
      exact State.phase_of_clock (by simp)
    · split
      · exact hpresence
      · rfl
  · rfl

/-- A BEACON taken in JOINING, RUNNING or HALTED is heard, with its list or without. -/
theorem State.heard_hearBeacon (hgood : s.goodFrame h (.beacon b) = true)
    (hphase : s.sp.phase = .joining ∨ s.sp.phase = .running ∨ s.sp.phase = .halted)
    (hstamp : s.hlc.stamp ≤ 4294967295) (hctr : b.stampCtr ≤ 4294967295) :
    (s.hearBeacon h b).Heard
      (s.hlc.presence.set h.sender
        { present := true, absence := some (3 * s.cfg.tBCN), heard := some (b.phase, b.seq) })
      ((s.hlc.seq + 1) % 4294967296) (max s.hlc.stamp b.stampCtr)
      (s.flags.profileMismatch || decide (b.profile ≠ s.cfg.profile)) := by
  have hheard := State.heard_beaconPresence (h := h) hstamp hctr
  have hor : dispatchesIn s.sp.phase = true ∨ s.sp.phase = .halted := by
    rcases hphase with e | e | e <;> simp [e, dispatchesIn]
  by_cases htaken : dispatchesIn s.sp.phase = true ∧ beaconReadable h b = true
  · rw [State.hearBeacon_taken hgood htaken.1 htaken.2]
    exact (hheard.hearList _ _ _).spared ((Spared.refl _ fun e => e.elim).recordOffset h)
  · rw [State.hearBeacon_unlisted hgood hor (by
      cases hd : dispatchesIn s.sp.phase with
      | false => exact .inl rfl
      | true => exact .inr (by simpa [hd] using htaken))]
    exact hheard

/-- The map after a BEACON that is taken whole. -/
theorem State.hearBeacon_map (hgood : s.goodFrame h (.beacon b) = true) (hphase : dispatchesIn s.sp.phase = true)
    (hread : beaconReadable h b = true) : ∃ u : State, u.cm.map = s.cm.map ∧ u.tb = s.tb
      ∧ (s.hearBeacon h b).cm.map = (b.bookings.foldl State.hearEntry u).cm.map.filter fun r =>
        r.desc.holder != h.sender || decide (b.stampCtr < r.desc.stamp)
          || b.bookings.any fun e => r.isKey e.1.holder e.1.num := by
  obtain ⟨ed, rs, he, -⟩ := (s.withHlc (followFrame s.hlc.number (.beacon b))).beaconPresence_eq h.sender b
  refine ⟨(s.withHlc (followFrame s.hlc.number (.beacon b))).beaconPresence h.sender b, ?_, ?_, ?_⟩
  · rw [he]
    rfl
  · rw [he]
    rfl
  · rw [State.hearBeacon_taken hgood hphase hread,
      ((Spared.refl (quiet := False) _ fun e => e.elim).recordOffset h).map]
    exact State.hearList_map _ _ _ _

end
end Sys2Proof.Machine
end

section
open Sys2Proof Sys2Proof.Machine

/-- Settles O15: the presence table, the profile check and the entries of the list in turn; what is handed over then leaves
peers and records as they are. -/
theorem beaconsKeepPeersAndRecords : Obligations.BeaconsKeepPeersAndRecords := by
  have hruns : ∀ (s : State) (h : Head) (b : BeaconBody), exec (.beacon h b) s
      = .next (drain reportFuel ((s.withReports []).hearBeacon h b)) := fun s h b =>
    run_next (fun s => s.hearBeacon h b) s
  have hspared : ∀ (s : State) (h : Head) (b : BeaconBody), s.sp.phase ≠ .stopping →
      Spared False ((s.withReports []).hearBeacon h b) (drain reportFuel ((s.withReports []).hearBeacon h b)) :=
    fun s h b hgo => spared_drain _ fun e => hgo ((State.hearBeacon_phase (s.withReports []) h b).symm.trans e)
  refine ⟨fun s h b hgood hsender hstamp hctr hphase => ?_, fun s h b hphase hgood htick hbphase hbseq hroom hrise => ?_,
    fun s h b hphase hgood hplans hunread => ?_⟩
  · have hheard := (State.heard_hearBeacon (s := s.withReports []) hgood hphase hstamp hctr).spared
      (hspared s h b (by rcases hphase with e | e | e <;> simp [e]))
    exact ⟨_, hruns s h b, hheard.presence, hheard.seq, hheard.stamp.1, hheard.mismatch⟩
  · have hdispatch : dispatchesIn s.sp.phase = true := by rcases hphase with e | e <;> simp [e, dispatchesIn]
    have hread : beaconReadable h b = true := by simp [beaconReadable, headReadable, Config.weekTicks, htick, hbphase, hbseq]
    obtain ⟨u, humap, hutb, hmap⟩ := State.hearBeacon_map (s := s.withReports []) hgood hdispatch hread
    have hrises : u.Rises := by
      unfold State.Rises
      rw [humap]
      exact (recsRise_iff _).1 hrise
    obtain ⟨hrise', hkeeps, hsays⟩ := State.hearEntries_map b.bookings u hrises (by rw [humap]; exact hroom)
    have hfinal := (hspared s h b (by rcases hphase with e | e <;> simp [e])).map.trans hmap
    refine ⟨_, hruns s h b, fun r hr hholder => ?_, fun r hr hholder hkeys => ?_, fun e he hreadable hcode hafter hnodup
      hholder => ?_⟩
    · rw [hfinal] at hr
      have hkept := (List.mem_filter.1 hr).2
      simp only [hholder, bne_self_eq_false, Bool.false_or, Bool.or_eq_true, decide_eq_true_eq, List.any_eq_true] at hkept
      exact hkept
    · obtain ⟨r', hr', hdesc, hann⟩ := hkeeps r.desc r.announced ⟨r, humap ▸ hr, rfl, rfl⟩ fun e he hkey => by
        have hnot := hkeys e he
        rw [(r.isKey_iff _ _).2 hkey] at hnot
        cases hnot
      refine ⟨r', ?_, hdesc, hann⟩
      rw [hfinal]
      exact List.mem_filter.2 ⟨hr', by simp [hdesc, hholder]⟩
    · have htakes : u.takes e = true := by
        rw [State.takes_of_tb hutb]
        simp only [State.takes, hreadable, hcode, decide_true, Bool.and_true, Bool.true_and]
        exact hafter
      obtain ⟨r, hr, hdesc, hann⟩ := hsays hnodup e he htakes
      have hmem : r ∈ (drain reportFuel ((s.withReports []).hearBeacon h b)).cm.map := by
        rw [hfinal]
        refine List.mem_filter.2 ⟨hr, ?_⟩
        have hkey : b.bookings.any (fun x => r.isKey x.1.holder x.1.num) = true :=
          List.any_eq_true.2 ⟨e, he, (r.isKey_iff _ _).2 ⟨by rw [hdesc], by rw [hdesc]⟩⟩
        simp [hkey]
      have hform : (drain reportFuel ((s.withReports []).hearBeacon h b)).Rises := by
        unfold State.Rises
        rw [hfinal]
        exact hrise'.filter _
      exact ⟨r, hdesc ▸ hform.peerRec hmem, hdesc, hann⟩
  · have hunreadable : beaconReadable h b = false := by
      unfold beaconReadable headReadable Config.weekTicks
      simp only [Bool.and_eq_false_iff, decide_eq_false_iff_not]
      omega
    have heq := State.hearBeacon_unlisted (s := s.withReports []) hgood (.inl hphase) (.inr hunreadable)
    obtain ⟨ed, rs, he, hrs⟩ := ((s.withReports []).withHlc
      (followFrame (s.withReports []).hlc.number (.beacon b))).beaconPresence_eq h.sender b
    rw [he] at heq
    obtain ⟨left, hdrain⟩ := drain_retryBlocked_rest reportFuel ((s.withReports []).hearBeacon h b)
      (by rw [heq]; exact hplans) (by
        rw [heq]
        exact fun r hr => (hrs r hr).resolve_left List.not_mem_nil)
    refine ⟨_, hruns s h b, ?_, ?_⟩ <;> rw [hdrain, heq] <;> rfl

end

section
/-! SUPPORT. The CRC of the hall link (R201): it is zero over a frame with its own CRC, and a bit flipped is never lost. -/

namespace Sys2Proof.Machine

-- Each pending proof holds a stack of its own: they are checked one after the other.
set_option Elab.async false

open Sys2Proof

theorem crcStep_eq (r : BitVec 16) (b : Bool) :
    crcStep r b = (r <<< 1) ^^^ (if r.msb ^^ b then 4129#16 else 0#16) := by
  unfold crcStep
  split <;> simp

/-- The lowest bit of the register says whether the bit taken differed from the highest one. -/
theorem crcStep_bit0 (r : BitVec 16) (b : Bool) : (crcStep r b).getLsbD 0 = (r.msb ^^ b) := by
  rw [crcStep_eq, BitVec.getLsbD_xor]
  cases r.msb ^^ b <;> simp

/-- One bit more keeps different registers different. -/
theorem crcStep_injective (b : Bool) : Function.Injective fun r => crcStep r b := by
  intro r r' h
  have hmsb : r.msb = r'.msb := by
    have h0 : (crcStep r b).getLsbD 0 = (crcStep r' b).getLsbD 0 := congrArg (·.getLsbD 0) h
    rw [crcStep_bit0, crcStep_bit0] at h0
    simpa using h0
  have hshift : r <<< 1 = r' <<< 1 := by
    have h' : crcStep r b = crcStep r' b := h
    rw [crcStep_eq, crcStep_eq, hmsb] at h'
    exact BitVec.xor_left_inj _ |>.1 h'
  refine BitVec.eq_of_getLsbD_eq fun i hi => ?_
  by_cases hlast : i = 15
  · subst hlast
    simpa [BitVec.msb_eq_getLsbD_last] using hmsb
  · have hbit := congrArg (fun v : BitVec 16 => v.getLsbD (i + 1)) hshift
    simpa [BitVec.getLsbD_shiftLeft, show i + 1 < 16 by omega, BitVec.getLsbD_eq_getElem hi] using hbit

/-- Bits that follow keep different registers different. -/
theorem foldl_crcStep_injective (l : List Bool) : Function.Injective fun r => l.foldl crcStep r := by
  induction l with
  | nil => exact fun _ _ h => h
  | cons b l ih => exact fun r r' h => crcStep_injective b (ih h)

/-- A flipped bit changes the CRC (R201). -/
theorem crc_flip_ne (l : List Bool) (i : Nat) (hi : i < l.length) : crc (l.set i (!l[i])) ≠ crc l := by
  intro h
  have hsplit : l = l.take i ++ l[i] :: l.drop (i + 1) := by
    rw [← List.drop_eq_getElem_cons hi, List.take_append_drop]
  have hflip : l.set i (!l[i]) = l.take i ++ (!l[i]) :: l.drop (i + 1) := List.set_eq_take_append_cons_drop ..  |>.trans
    (if_pos hi)
  unfold crc at h
  rw [hflip] at h
  conv at h => rhs; rw [hsplit]
  rw [List.foldl_append, List.foldl_append, List.foldl_cons, List.foldl_cons] at h
  have hbit := congrArg (·.getLsbD 0) (foldl_crcStep_injective _ h)
  simp only [crcStep_bit0] at hbit
  cases (List.foldl crcStep 65535#16 (List.take i l)).msb <;> cases l[i] <;> simp at hbit

/-- The bits of a register, taken in turn, shift it out. -/
theorem foldl_crcStep_self (r : BitVec 16) (w : Nat) : w ≤ 16 →
    (natBits w r.toNat).foldl crcStep (r <<< (16 - w)) = 0#16 := by
  induction w with
  | zero => intro _; simp [natBits]
  | succ w ih =>
    intro hw
    have hmsb : (r <<< (16 - (w + 1))).msb = r.toNat.testBit w := by
      rw [BitVec.msb_eq_getLsbD_last, BitVec.getLsbD_shiftLeft]
      simp only [show ¬ 16 - 1 < 16 - (w + 1) by omega, show 16 - 1 - (16 - (w + 1)) = w by omega]
      simp [BitVec.getLsbD]
    have hstep : crcStep (r <<< (16 - (w + 1))) (r.toNat.testBit w) = r <<< (16 - w) := by
      rw [crcStep_eq, hmsb, Bool.xor_self, ← BitVec.shiftLeft_add, show 16 - (w + 1) + 1 = 16 - w by omega]
      simp
    rw [natBits, List.foldl_cons, hstep]
    exact ih (by omega)

/-- A frame with its own CRC leaves the register at zero (R201). -/
theorem crc_frameBits (h : Head) (f : Frame) : crc (frameBits h f) = 0#16 := by
  have hself := foldl_crcStep_self (crc (frameCovered h f)) 16 (Nat.le_refl _)
  unfold frameBits crc
  rw [List.foldl_append]
  simpa [crc] using hself

end Sys2Proof.Machine
end

section
open Sys2Proof Sys2Proof.Machine

/-- Settles O9: the CRC of a frame with one bit flipped is not zero. -/
theorem oneFlippedBitIsBadFrame : Obligations.OneFlippedBitIsBadFrame := by
  intro h f i hi
  have hget : ((frameBits h f)[i]?).getD false = (frameBits h f)[i] := by rw [List.getElem?_eq_getElem hi]; rfl
  have hcrc : crc ((frameBits h f).set i (!(frameBits h f)[i])) ≠ 0#16 := crc_frameBits h f ▸ crc_flip_ne _ i hi
  rw [hget]
  unfold linkCommand readFrame
  rw [if_pos hcrc]

end

section
/-! SUPPORT. Fields, bodies and frames on the hall link read back as they were put there (R16, R25, R200). -/

namespace Sys2Proof.Machine

-- Each pending proof holds a stack of its own: they are checked one after the other.
set_option Elab.async false

open Sys2Proof

/-! ## Bits and bytes -/

@[simp] theorem length_natBits (w n : Nat) : (natBits w n).length = w := by
  induction w with
  | zero => rfl
  | succ w ih => simp [natBits, ih]

@[simp] theorem length_natBytes (k n : Nat) : (natBytes k n).length = k := by
  induction k with
  | zero => rfl
  | succ k ih => simp [natBytes, ih]

theorem foldl_natBits (w n : Nat) : ∀ acc : Nat,
    (natBits w n).foldl (fun acc b => 2 * acc + (if b then 1 else 0)) acc = acc * 2 ^ w + n % 2 ^ w := by
  induction w with
  | zero => intro acc; simp [natBits, Nat.mod_one]
  | succ w ih =>
    intro acc
    have hbit : (if n.testBit w then 1 else 0) = n / 2 ^ w % 2 := by
      rw [Nat.testBit_eq_decide_div_mod_eq]
      rcases Nat.mod_two_eq_zero_or_one (n / 2 ^ w) with e | e <;> simp [e]
    rw [natBits, List.foldl_cons, ih, hbit, Nat.pow_succ, Nat.mod_mul]
    ring

/-- A number that fits its bits reads back. -/
theorem bitsNat_natBits {w n : Nat} (h : n < 2 ^ w) : bitsNat (natBits w n) = n := by
  unfold bitsNat
  rw [foldl_natBits, Nat.mod_eq_of_lt h]
  omega

theorem foldl_natBytes (k n : Nat) : ∀ acc : Nat,
    (natBytes k n).foldl (fun acc b => 256 * acc + b) acc = acc * 256 ^ k + n % 256 ^ k := by
  induction k with
  | zero => intro acc; simp [natBytes, Nat.mod_one]
  | succ k ih =>
    intro acc
    rw [natBytes, List.foldl_cons, ih, Nat.pow_succ, Nat.mod_mul]
    ring

/-- A number that fits its bytes reads back. -/
theorem bytesNat_natBytes {k n : Nat} (h : fits k n = true) : bytesNat (natBytes k n) = n := by
  unfold bytesNat
  rw [foldl_natBytes, Nat.mod_eq_of_lt (of_decide_eq_true h)]
  omega

/-- Every element of a list fits a byte. -/
def AreBytes (l : List Nat) : Prop := ∀ b ∈ l, b < 256

theorem areBytes_natBytes (k n : Nat) : AreBytes (natBytes k n) := by
  induction k with
  | zero => exact fun _ h => absurd h List.not_mem_nil
  | succ k ih =>
    intro b hb
    rcases List.mem_cons.1 hb with rfl | hb
    · exact Nat.mod_lt _ (by decide)
    · exact ih b hb

theorem areBytes_append {l m : List Nat} (hl : AreBytes l) (hm : AreBytes m) : AreBytes (l ++ m) :=
  fun b hb => (List.mem_append.1 hb).elim (hl b) (hm b)

theorem areBytes_cons {b : Nat} {l : List Nat} (hb : b < 256) (hl : AreBytes l) : AreBytes (b :: l) :=
  fun x hx => (List.mem_cons.1 hx).elim (fun e => e ▸ hb) (hl x)

theorem areBytes_nil : AreBytes [] := fun _ h => absurd h List.not_mem_nil

theorem areBytes_flatMap {α : Type} {f : α → List Nat} {l : List α} (h : ∀ x ∈ l, AreBytes (f x)) :
    AreBytes (l.flatMap f) := fun b hb => by
  obtain ⟨x, hx, hb⟩ := List.mem_flatMap.1 hb
  exact h x hx b hb

/-- The value of a field that may be absent, as it is carried. -/
theorem optBytes_eq (k : Nat) (o : Option Nat) : optBytes k o = natBytes k (o.getD (256 ^ k - 1)) := by
  cases o <;> rfl

theorem optOf_getD {k : Nat} {o : Option Nat} (h : optFits k o = true) : optOf k (o.getD (256 ^ k - 1)) = o := by
  cases o with
  | none => simp [optOf]
  | some n =>
    have hlt : n < 256 ^ k - 1 := of_decide_eq_true h
    exact if_neg (Nat.ne_of_lt hlt)

theorem fits_getD {k : Nat} {o : Option Nat} (h : optFits k o = true) : fits k (o.getD (256 ^ k - 1)) = true := by
  have hpos : 0 < 256 ^ k := Nat.pow_pos (by decide)
  unfold fits
  cases o with
  | none => exact decide_eq_true (Nat.sub_lt hpos (by decide))
  | some n =>
    have hlt : n < 256 ^ k - 1 := of_decide_eq_true h
    exact decide_eq_true (Nat.lt_of_lt_of_le hlt (Nat.sub_le _ _))

theorem natBytes_one (n : Nat) : natBytes 1 n = [n % 256] := by simp [natBytes]

theorem lt_of_fits_one {n : Nat} (h : fits 1 n = true) : n < 256 := by
  simpa [fits] using h

/-- A field that may be absent reads back from its bytes. -/
theorem optOf_bytesNat {k : Nat} {o : Option Nat} (h : optFits k o = true) : optOf k (bytesNat (optBytes k o)) = o := by
  rw [optBytes_eq, bytesNat_natBytes (fits_getD h), optOf_getD h]

theorem optBytes_one {o : Option Nat} (h : optFits 1 o = true) : ∃ a, optBytes 1 o = [a] ∧ a < 256 ∧ optOf 1 a = o := by
  have hfit := lt_of_fits_one (fits_getD h)
  refine ⟨o.getD (256 ^ 1 - 1), ?_, hfit, optOf_getD h⟩
  rw [optBytes_eq, natBytes_one, Nat.mod_eq_of_lt hfit]

theorem areBytes_optBytes (k : Nat) (o : Option Nat) : AreBytes (optBytes k o) := by
  rw [optBytes_eq]
  exact areBytes_natBytes _ _

/-! ## Descriptors -/

theorem length_pairs (l : List (Nat × Nat)) : (l.flatMap fun st => [st.1, st.2]).length = 2 * l.length := by
  induction l with
  | nil => rfl
  | cons x l ih =>
    simp only [List.flatMap_cons, List.length_append, ih, List.length_cons, List.length_nil]
    omega

theorem pairsOf_flatMap (l : List (Nat × Nat)) : pairsOf (l.flatMap fun st => [st.1, st.2]) = l := by
  induction l with
  | nil => rfl
  | cons x l ih => simp [pairsOf, ih]

/-- A descriptor reads back from its bytes, whatever follows them. -/
theorem readDesc_descBytes {d : Desc} (h : d.wf = true) (rest : List Nat) :
    readDesc (descBytes d ++ rest) = some (d, rest) := by
  obtain ⟨holder, num, cls, stamp, start, stop, antenna, azimuth, steps⟩ := d
  simp only [Desc.wf, Bool.and_eq_true, decide_eq_true_eq] at h
  obtain ⟨⟨⟨⟨⟨⟨⟨⟨⟨⟨-, -⟩, -⟩, hstamp⟩, hstart⟩, hstop⟩, hant⟩, haz⟩, hlow⟩, hhigh⟩, -⟩ := h
  obtain ⟨a, ha, -, hopt⟩ := optBytes_one hant
  obtain ⟨z1, z0, hz⟩ : ∃ z1 z0, optBytes 2 azimuth = [z1, z0] := by
    rw [optBytes_eq]
    exact ⟨_, _, rfl⟩
  have haz' := optOf_bytesNat haz
  have hstamp' := bytesNat_natBytes hstamp
  have hstart' := bytesNat_natBytes hstart
  have hstop' := bytesNat_natBytes hstop
  have hlen := length_pairs steps
  have hpairs := pairsOf_flatMap steps
  rw [hz] at haz'
  unfold descBytes
  simp only [ha, hz]
  generalize hp : (steps.flatMap fun st => [st.1, st.2]) = pairs at hlen hpairs ⊢
  simp only [natBytes] at hstamp' hstart' hstop' ⊢
  have hnot : ¬ (steps.length < 1 ∨ 6 < steps.length ∨ (pairs ++ rest).length < 2 * steps.length) := by
    rw [List.length_append, hlen]
    omega
  simp only [readDesc, List.cons_append, List.nil_append, List.drop_succ_cons, List.drop_zero,
    List.take_succ_cons, List.take_zero, hstamp', hstart', hstop', hopt, haz']
  rw [if_neg (by simpa [or_assoc] using hnot), ← hlen, List.take_left, List.drop_left, hpairs]

theorem areBytes_descBytes {d : Desc} (h : d.wf = true) : AreBytes (descBytes d) := by
  simp only [Desc.wf, Bool.and_eq_true, decide_eq_true_eq, List.all_eq_true] at h
  obtain ⟨⟨⟨⟨⟨⟨⟨⟨⟨⟨hholder, hnum⟩, hcls⟩, -⟩, -⟩, -⟩, -⟩, -⟩, -⟩, hhigh⟩, hsteps⟩ := h
  refine areBytes_append (areBytes_append (areBytes_append (areBytes_append (areBytes_append (areBytes_append
    (areBytes_append ?_ (areBytes_natBytes _ _)) (areBytes_natBytes _ _)) (areBytes_natBytes _ _))
    (areBytes_optBytes _ _)) (areBytes_optBytes _ _)) ?_) (areBytes_flatMap fun st hst => ?_)
  · exact areBytes_cons (lt_of_fits_one hholder) (areBytes_cons (lt_of_fits_one hnum)
      (areBytes_cons (lt_of_fits_one hcls) areBytes_nil))
  · exact areBytes_cons (by omega) areBytes_nil
  · obtain ⟨hel, hpos⟩ := hsteps st hst
    exact areBytes_cons (lt_of_fits_one hel) (areBytes_cons (lt_of_fits_one hpos) areBytes_nil)

theorem length_descBytes {d : Desc} (h : d.wf = true) : (descBytes d).length ≤ 31 := by
  simp only [Desc.wf, Bool.and_eq_true, decide_eq_true_eq] at h
  obtain ⟨⟨-, hhigh⟩, -⟩ := h
  simp only [descBytes, List.length_append, length_natBytes, optBytes_eq, length_pairs, List.length_cons, List.length_nil]
  omega

/-! ## Bodies -/

/-- The booking entries of a BEACON read back. -/
theorem readEntries_flatMap (l : List (Desc × Nat)) (h : ∀ e ∈ l, e.1.wf = true) :
    readEntries l.length (l.flatMap fun e => descBytes e.1 ++ [e.2]) = some l := by
  induction l with
  | nil => rfl
  | cons e l ih =>
    simp only [List.flatMap_cons, List.length_cons, readEntries, List.append_assoc]
    rw [readDesc_descBytes (h e List.mem_cons_self)]
    simp only [List.singleton_append]
    rw [ih fun x hx => h x (List.mem_cons_of_mem _ hx)]
    rfl

theorem length_entries (l : List (Desc × Nat)) (h : ∀ e ∈ l, e.1.wf = true) :
    (l.flatMap fun e => descBytes e.1 ++ [e.2]).length ≤ 32 * l.length := by
  induction l with
  | nil => exact Nat.le_refl _
  | cons e l ih =>
    have hrest := ih fun x hx => h x (List.mem_cons_of_mem _ hx)
    have he := length_descBytes (h e List.mem_cons_self)
    simp only [List.flatMap_cons, List.length_append, List.length_cons, List.length_nil] at hrest ⊢
    omega

/-- A body reads back by its kind code. -/
theorem readBody_frameBody {f : Frame} (h : f.wf = true) : readBody (kindCode f) (frameBody f) = some f := by
  cases f with
  | object c n o => rfl
  | air n => rfl
  | release n => rfl
  | rampCancel n => rfl
  | claim d =>
    have hread := readDesc_descBytes (d := d) h []
    rw [List.append_nil] at hread
    show (match readDesc (descBytes d) with
      | some (d, []) => some (Frame.claim d)
      | _ => none) = _
    rw [hread]
  | move k i n t =>
    simp only [Frame.wf, Bool.and_eq_true] at h
    have ht := bytesNat_natBytes h.2
    simp only [natBytes] at ht
    simp only [frameBody, kindCode, natBytes, List.cons_append, List.nil_append, readBody, ht]
  | rampIntent n t =>
    simp only [Frame.wf, Bool.and_eq_true] at h
    have ht := bytesNat_natBytes h.2
    simp only [natBytes] at ht
    simp only [frameBody, kindCode, natBytes, readBody, ht]
  | position p =>
    simp only [Frame.wf, PosReport.wf, Bool.and_eq_true] at h
    obtain ⟨⟨⟨⟨⟨-, hvalue⟩, hmotion⟩, -⟩, -⟩, -⟩ := h
    have hv := optOf_bytesNat hvalue
    have hm := bytesNat_natBytes hmotion
    rw [optBytes_eq] at hv
    simp only [natBytes] at hv hm
    simp only [frameBody, kindCode, optBytes_eq, natBytes, List.cons_append, List.nil_append, readBody, hv, hm]
  | beacon b =>
    simp only [Frame.wf, BeaconBody.wf, Bool.and_eq_true, decide_eq_true_eq, List.all_eq_true] at h
    obtain ⟨⟨⟨-, hctr⟩, hcount⟩, hentries⟩ := h
    have hc := bytesNat_natBytes hctr
    simp only [natBytes] at hc
    simp only [frameBody, kindCode, natBytes, List.cons_append, List.nil_append, readBody, hc]
    rw [if_neg (Nat.not_lt.2 hcount), readEntries_flatMap _ fun e he => (hentries e he).1]
    rfl

theorem areBytes_frameBody {f : Frame} (h : f.wf = true) : AreBytes (frameBody f) := by
  cases f with
  | object c n o =>
    simp only [Frame.wf, Bool.and_eq_true] at h
    obtain ⟨⟨hc, hn⟩, ho⟩ := h
    exact areBytes_cons (lt_of_fits_one hc) (areBytes_cons (lt_of_fits_one hn) (areBytes_cons (lt_of_fits_one ho) areBytes_nil))
  | air n => exact areBytes_cons (lt_of_fits_one h) areBytes_nil
  | release n => exact areBytes_cons (lt_of_fits_one h) areBytes_nil
  | rampCancel n => exact areBytes_cons (lt_of_fits_one h) areBytes_nil
  | claim d => exact areBytes_descBytes h
  | move k i n t =>
    simp only [Frame.wf, Bool.and_eq_true] at h
    obtain ⟨⟨⟨hk, hi⟩, hn⟩, -⟩ := h
    exact areBytes_append (areBytes_cons (lt_of_fits_one hk) (areBytes_cons (lt_of_fits_one hi)
      (areBytes_cons (lt_of_fits_one hn) areBytes_nil))) (areBytes_natBytes _ _)
  | rampIntent n t =>
    simp only [Frame.wf, Bool.and_eq_true] at h
    exact areBytes_cons (lt_of_fits_one h.1) (areBytes_natBytes _ _)
  | position p =>
    simp only [Frame.wf, PosReport.wf, Bool.and_eq_true] at h
    obtain ⟨⟨⟨⟨⟨⟨⟨hk, hi⟩, hr⟩, -⟩, -⟩, hs⟩, hb⟩, hw⟩ := h
    exact areBytes_append (areBytes_append (areBytes_append (areBytes_cons (lt_of_fits_one hk)
      (areBytes_cons (lt_of_fits_one hi) (areBytes_cons (lt_of_fits_one hr) areBytes_nil))) (areBytes_optBytes _ _))
      (areBytes_natBytes _ _)) (areBytes_cons (lt_of_fits_one hs) (areBytes_cons (lt_of_fits_one hb)
      (areBytes_cons (lt_of_fits_one hw) areBytes_nil)))
  | beacon b =>
    simp only [Frame.wf, BeaconBody.wf, Bool.and_eq_true, decide_eq_true_eq, List.all_eq_true] at h
    obtain ⟨⟨⟨⟨⟨hphase, hseq⟩, hprofile⟩, -⟩, hcount⟩, hentries⟩ := h
    refine areBytes_append (areBytes_append (areBytes_append (areBytes_cons (lt_of_fits_one hphase)
      (areBytes_cons (lt_of_fits_one hseq) (areBytes_cons (lt_of_fits_one hprofile) areBytes_nil)))
      (areBytes_natBytes _ _)) (areBytes_cons (by omega) areBytes_nil)) (areBytes_flatMap fun e he => ?_)
    exact areBytes_append (areBytes_descBytes (hentries e he).1)
      (areBytes_cons (lt_of_fits_one (hentries e he).2) areBytes_nil)

/-- A body's length fits its length byte. -/
theorem length_frameBody {f : Frame} (h : f.wf = true) : (frameBody f).length < 256 := by
  cases f with
  | claim d => exact Nat.lt_of_le_of_lt (length_descBytes h) (by decide)
  | beacon b =>
    simp only [Frame.wf, BeaconBody.wf, Bool.and_eq_true, decide_eq_true_eq, List.all_eq_true] at h
    obtain ⟨⟨-, hcount⟩, hentries⟩ := h
    have hlen := length_entries b.bookings fun e he => (hentries e he).1
    simp only [frameBody, List.length_append, length_natBytes, List.length_cons, List.length_nil] at hlen ⊢
    omega
  | _ => simp [frameBody, optBytes_eq]

/-! ## Frames -/

theorem length_bytesBits (l : List Nat) : (bytesBits l).length = 8 * l.length := by
  induction l with
  | nil => rfl
  | cons b l ih =>
    unfold bytesBits at ih ⊢
    rw [List.flatMap_cons, List.length_append, length_natBits, ih, List.length_cons]
    omega

/-- Bytes read back from their bits. -/
theorem bitsBytes_bytesBits {l : List Nat} (h : AreBytes l) : bitsBytes l.length (bytesBits l) = some l := by
  induction l with
  | nil => rfl
  | cons b l ih =>
    have hb : b < 2 ^ 8 := h b List.mem_cons_self
    have hrest := ih fun x hx => h x (List.mem_cons_of_mem _ hx)
    have hcons : bytesBits (b :: l) = natBits 8 b ++ bytesBits l := List.flatMap_cons ..
    have hlen : ¬ (natBits 8 b ++ bytesBits l).length < 8 := by simp
    have htake : (natBits 8 b ++ bytesBits l).take 8 = natBits 8 b := List.take_left' (length_natBits 8 b)
    have hdrop : (natBits 8 b ++ bytesBits l).drop 8 = bytesBits l := List.drop_left' (length_natBits 8 b)
    rw [hcons, List.length_cons, bitsBytes, if_neg hlen, htake, hdrop, bitsNat_natBits hb, hrest]
    rfl

/-- The bits of a frame: arbitration field, bytes, CRC. -/
theorem frameBits_eq (h : Head) (f : Frame) : ∃ c : List Bool, c.length = 16 ∧ frameBits h f
    = natBits 3 (framePriority f) ++ (natBits 4 h.sender
      ++ (bytesBits (kindCode f :: (frameBody f).length :: (natBytes 4 h.tick ++ frameBody f)) ++ c)) :=
  ⟨natBits 16 (crc (frameCovered h f)).toNat, length_natBits _ _, by simp [frameBits, frameCovered]⟩

theorem framePriority_lt (f : Frame) : framePriority f < 2 ^ 3 := by cases f <;> simp [framePriority]

theorem kindCode_lt (f : Frame) : kindCode f < 256 := by cases f <;> simp [kindCode]

/-- A frame that fits its fields reads back. -/
theorem readFrame_frameBits {h : Head} {f : Frame} (hh : h.wf = true) (hf : f.wf = true) :
    readFrame (frameBits h f) = some (h, f) := by
  simp only [Head.wf, Bool.and_eq_true, decide_eq_true_eq] at hh
  obtain ⟨hsender, htick⟩ := hh
  obtain ⟨c, hc, hbits⟩ := frameBits_eq h f
  have hlen : (frameBits h f).length - 23 = 8 * (6 + (frameBody f).length) := by
    rw [hbits]
    simp only [List.length_append, length_natBits, length_bytesBits, hc, List.length_cons, length_natBytes]
    omega
  have hbytes : AreBytes (kindCode f :: (frameBody f).length :: (natBytes 4 h.tick ++ frameBody f)) :=
    areBytes_cons (kindCode_lt f) (areBytes_cons (length_frameBody hf)
      (areBytes_append (areBytes_natBytes _ _) (areBytes_frameBody hf)))
  have hcount : (kindCode f :: (frameBody f).length :: (natBytes 4 h.tick ++ frameBody f)).length
      = 6 + (frameBody f).length := by
    simp only [List.length_cons, List.length_append, length_natBytes]
    omega
  have hmiddle : ((frameBits h f).drop 7).take ((frameBits h f).length - 23)
      = bytesBits (kindCode f :: (frameBody f).length :: (natBytes 4 h.tick ++ frameBody f)) := by
    rw [hlen, hbits, ← List.append_assoc, List.drop_left' (by simp)]
    exact List.take_left' (by rw [length_bytesBits, hcount])
  have hfirst : (frameBits h f).take 3 = natBits 3 (framePriority f) := by
    rw [hbits]
    exact List.take_left' (length_natBits _ _)
  have hsecond : ((frameBits h f).drop 3).take 4 = natBits 4 h.sender := by
    rw [hbits, List.drop_left' (length_natBits _ _)]
    exact List.take_left' (length_natBits _ _)
  have hread := bitsBytes_bytesBits hbytes
  rw [hcount] at hread
  have ht := bytesNat_natBytes htick
  unfold readFrame
  rw [if_neg (not_not.2 (crc_frameBits h f)), hmiddle, hlen, Nat.mul_div_cancel_left _ (by decide), hread, hfirst, hsecond,
    bitsNat_natBits (framePriority_lt f), bitsNat_natBits (Nat.lt_succ_of_le hsender)]
  simp only [natBytes] at ht
  simp only [natBytes, List.cons_append, List.nil_append, ne_eq, not_true_eq_false, if_false, readBody_frameBody hf, ht,
    if_true]

end Sys2Proof.Machine
end

section
open Sys2Proof Sys2Proof.Machine

/-- Settles O8: each field reads back from its bits, and so do descriptors, bodies and the whole frame. -/
theorem frameReadsBack : Obligations.FrameReadsBack := by
  intro h f hh hf
  have hread := readFrame_frameBits hh hf
  refine ⟨hread, ?_⟩
  unfold linkCommand
  rw [hread]

end

section
/-! SUPPORT. What the entries to JOINING and HALTED, and the completion of STOPPING, leave (R33, R43, R190, R191). -/

namespace Sys2Proof.Machine

-- Each pending proof holds a stack of its own: they are checked one after the other.
set_option Elab.async false

open Sys2Proof

/-! ## Offers of POSITIONs -/

/-- An offer changes the queue and the slots alone (R23, R24). -/
theorem State.offer_queues (s : State) (f : Frame) :
    ∃ q l, (s.offer f).1 = s.withHlc { s.hlc with queue := q, slots := l } := by
  rcases s.offer_cases f with h | ⟨l, -, hl, h⟩
  · exact ⟨s.hlc.queue, s.hlc.slots, by rw [h]; rfl⟩
  · exact ⟨l.queue, l.slots, by rw [h]; exact congrArg s.withHlc (Link.offer_frame s.hlc l f hl)⟩

/-- A BEACON offered changes the queue, the slots and the beacon timer alone (R28). -/
theorem State.beaconNow_queues (s : State) : ∃ q l, s.beaconNow = s.withHlc { s.hlc with
    queue := q, slots := l, beaconT := some s.cfg.tBCN } := by
  obtain ⟨q, l, h⟩ := s.offer_queues (.beacon s.beaconBody)
  refine ⟨q, l, ?_⟩
  unfold State.beaconNow
  rw [h]
  rfl

/-- Offers of the element drive: the link's queue and slots and the element drive differ, and no idle time does. -/
def State.OffersItems (s t : State) : Prop :=
  (∃ q l ed, t = (s.withHlc { s.hlc with queue := q, slots := l }).withEd ed) ∧ ∀ i, (t.elv i).idle = (s.elv i).idle

theorem State.OffersItems.refl (s : State) : s.OffersItems s := ⟨⟨s.hlc.queue, s.hlc.slots, s.ed, rfl⟩, fun _ => rfl⟩

theorem State.OffersItems.trans {s t u : State} (h : s.OffersItems t) (h' : t.OffersItems u) : s.OffersItems u := by
  obtain ⟨⟨q, l, ed, rfl⟩, hidle⟩ := h
  obtain ⟨⟨q', l', ed', rfl⟩, hidle'⟩ := h'
  exact ⟨⟨q', l', ed', rfl⟩, fun i => (hidle' i).trans (hidle i)⟩

theorem State.offersItems_offer (s : State) (f : Frame) : s.OffersItems (s.offer f).1 := by
  obtain ⟨q, l, h⟩ := s.offer_queues f
  rw [h]
  exact ⟨⟨q, l, s.ed, rfl⟩, fun _ => rfl⟩

theorem State.offersItems_setOwed (s : State) (kind : ItemKind) (item : Nat) (b : Bool) :
    s.OffersItems (s.setOwed kind item b) := by
  cases kind with
  | element =>
    refine ⟨⟨s.hlc.queue, s.hlc.slots, _, rfl⟩, fun i => ?_⟩
    show ((s.putElv item { s.elv item with owed := b }).elv i).idle = _
    rw [s.elv_putElv]
    split
    · next h => rw [h]
    · rfl
  | antenna => exact ⟨⟨s.hlc.queue, s.hlc.slots, _, rfl⟩, fun _ => rfl⟩

theorem State.offersItems_offerPositions (l : List (ItemKind × Nat)) : ∀ s : State,
    s.OffersItems (s.offerPositions l).1 := by
  induction l with
  | nil => exact State.OffersItems.refl
  | cons x l ih =>
    intro s
    obtain ⟨k, i⟩ := x
    simp only [State.offerPositions]
    split
    · exact ((s.offersItems_offer _).trans (State.offersItems_setOwed _ k i false)).trans (ih _)
    · exact .refl s

/-! ## JOINING -/

/-- What the entry to JOINING leaves, with no changeover armed: beside the port's marks the sequencer's watches, the link's
queue, slots and timers, and the element drive are new. -/
def State.Joins (s t : State) : Prop :=
  (∃ gap lost stray q l bt ed, t =
    (((s.withSp { s.sp with phase := .joining, restartMark := false, cpStopped := false, cmStopped := false }).withTs
      { s.ts with meterGap := gap, meterLost := lost, strayT := stray }).withHlc
      { s.hlc with queue := q, slots := l, beaconT := bt, joiningT := some (2 * s.cfg.tBCN) }).withEd ed)
  ∧ ∀ i e, s.element i = some e → s.ed.everStarted = true → (t.elv i).idle = (s.elv i).idle

/-- The entry to JOINING offers the home items; the tables' entries keep their idle times after the first START (R52). -/
theorem State.edJoin_offers (s : State) : ∃ ed, (s.withEd ed).OffersItems s.edJoin
    ∧ ∀ i e, s.element i = some e → s.ed.everStarted = true → ((s.withEd ed).elv i).idle = (s.elv i).idle := by
  refine ⟨_, State.offersItems_offerPositions _ _, fun i e he hever => ?_⟩
  refine Eq.trans (congrArg (fun o : Option ElView => (o.getD ElView.fresh).idle) (lookupKey_map _ i s.ed.elements)) ?_
  rw [show lookupKey i s.ed.elements = some e from he]
  show (if (!s.ed.everStarted) = true then 0 else (s.elv i).idle) = _
  rw [hever]
  rfl

theorem State.armTest_none {s : State} (h : s.ss.arm = none) : s.armTest = s := by
  unfold State.armTest
  rw [h]

theorem State.joins_enterJoining (s : State) (harm : s.ss.arm = none) : s.Joins s.enterJoining := by
  unfold State.enterJoining
  extract_lets sp u v
  next w =>
    obtain ⟨q, l, hv⟩ := u.retime.beaconNow_queues
    have hw : w = (u.withTs u.retime.ts).withHlc { s.hlc with
        queue := q, slots := l, beaconT := some s.cfg.tBCN, joiningT := some (2 * s.cfg.tBCN) } :=
      congrArg (fun v : State => v.withHlc { v.hlc with joiningT := some (2 * v.cfg.tBCN) }) hv
    obtain ⟨ed, hoffers, hidle⟩ := w.edJoin_offers
    rw [hw] at hoffers hidle ⊢
    clear_value w
    obtain ⟨⟨q', l', ed', heq⟩, hsame⟩ := hoffers
    generalize hx : State.edJoin _ = x at heq hsame ⊢
    have harm' : x.ss.arm = none := by
      rw [heq]
      exact harm
    rw [State.armTest_none harm']
    exact ⟨⟨_, _, _, _, _, _, _, heq⟩, fun i e he hever => (hsame i).trans (hidle i e he hever)⟩

/-! ## RESTART (R14, R33, R83, R97, R129, R158, R181, R191) -/

/-- What RESTART leaves of the sequencer. -/
structure Sequencer.Restarts (x y : Sequencer) : Prop where
  power : y.p = 0
  trips : y.tripLog = x.tripLog
  errors : y.lineErr = x.lineErr
  sent : y.sent = x.sent
  lockout : x.state = .lockout ↔ y.state = .lockout
  idle : x.state = .idle → y.state = .idle

theorem State.restarts_tsRestart (s : State) : s.ts.Restarts s.tsRestart.ts := by
  have hstate : s.tsRestart.ts.state = match s.ts.state with
      | .lockout => .lockout
      | .down => .down
      | .tripped => if s.pins.rfs then .tripped else .idle
      | _ => .idle := rfl
  refine ⟨rfl, rfl, rfl, rfl, ?_, fun h => by rw [hstate, h]⟩
  rw [hstate]
  cases s.ts.state with
  | tripped => cases s.pins.rfs <;> simp
  | _ => simp

/-- What RESTART leaves: every block's RESTART values, in JOINING. -/
def State.Restarts (s t : State) : Prop :=
  (∃ ts q l bt ed, s.ts.Restarts ts ∧ t =
    ((((((((s.withSp { s.sp with phase := .joining, restartMark := false, cpStopped := false, cmStopped := false }).withCp
      Planner.reset).withCm s.cm.restart).withRl s.rl.restart).withPd s.pd.restart).withTb s.tb.restart).withHlc
      { s.hlc.restart with queue := q, slots := l, beaconT := bt, joiningT := some (2 * s.cfg.tBCN) }).withTs ts).withEd ed)
  ∧ ∀ i e, s.element i = some e → s.ed.everStarted = true → (t.elv i).idle = (s.elv i).idle

/-- RESTART with no plan in the queue and no changeover armed. -/
theorem State.restarts_restartJoining (s : State) (hplans : s.cp.plans = []) (harm : s.ss.arm = none) :
    s.Restarts s.restartJoining := by
  have hblocks : s.blocksRestart = (((((((s.withCp Planner.reset).withCm s.cm.restart).withRl s.rl.restart).withPd
      s.pd.restart).withTb s.tb.restart).withHlc s.hlc.restart).tsRestart) := by
    simp only [State.blocksRestart, State.planRestart, hplans]
    rfl
  unfold State.restartJoining
  rw [hblocks]
  generalize hu : State.withHlc _ _ = u
  have harm' : u.tsRestart.ss.arm = none := by
    rw [← hu]
    exact harm
  have hts : ∀ gap lost stray, s.ts.Restarts
      { u.tsRestart.ts with meterGap := gap, meterLost := lost, strayT := stray } := fun _ _ _ => by
    have hrestart := u.restarts_tsRestart
    rw [show u.ts = s.ts by rw [← hu]; rfl] at hrestart
    exact { hrestart with }
  obtain ⟨⟨gap, lost, stray, q, l, bt, ed, heq⟩, hidle⟩ := State.joins_enterJoining _ harm'
  rw [← hu] at heq hidle hts ⊢
  generalize hx : State.enterJoining _ = x at heq hidle ⊢
  exact ⟨⟨_, q, l, bt, ed, hts gap lost stray, heq⟩, hidle⟩

/-! ## HALTED (R28, R55, R190) -/

/-- The entry to HALTED without an exercise. -/
theorem State.enterHalted_eq (s : State) (hex : s.ed.exercise = none) : s.enterHalted =
    ((s.withSp { s.sp with phase := .halted, restartMark := false, cpStopped := false, cmStopped := false }).withHlc
      s.hlc.halt).withEd { s.ed with
        driveQ := [], slewQ := [], motion := none, slew := none, refusals := []
        elView := s.ed.elView.map fun p => (p.1, { p.2 with owed := false })
        anView := s.ed.anView.map fun p => (p.1, { p.2 with owed := false }) } := by
  unfold State.enterHalted
  extract_lets sp u
  have hnone : (u.withHlc u.hlc.halt).abandonExercise = u.withHlc u.hlc.halt := by
    have hu : (u.withHlc u.hlc.halt).ed.exercise = none := hex
    unfold State.abandonExercise
    rw [hu]
  unfold State.edStop
  rw [hnone]
  rfl

/-! ## The completion of STOPPING -/

/-- With no plan and nothing held STOPPING completes, by the restart mark in JOINING or in HALTED. -/
theorem State.stopTest_completes (s : State) (hphase : s.sp.phase = .stopping) (hplans : s.cp.plans = [])
    (hown : s.cm.own = []) (howed : s.cm.owedRel = []) :
    let u := s.withSp { s.sp with cpStopped := true, cmStopped := true }
    s.stopTest = if s.sp.restartMark then u.restartJoining else u.enterHalted := by
  have hcp : (s.sp.cpStopped || s.cp.plans.isEmpty) = true := by simp [hplans]
  have hcm : (s.sp.cmStopped || (s.cm.own.isEmpty && s.cm.owedRel.isEmpty)) = true := by simp [hown, howed]
  unfold State.stopTest
  rw [if_pos (show s.phase = .stopping from hphase), hcp, hcm]
  rfl

/-- Outside STOPPING the test does nothing. -/
theorem State.stopTest_other {s : State} (h : s.sp.phase ≠ .stopping) : s.stopTest = s := if_neg h

/-- A plan or a booking holds STOPPING up. -/
theorem State.stopTest_waits (s : State) (hphase : s.sp.phase = .stopping)
    (hcm : s.sp.cmStopped = false) (hown : s.cm.own ≠ []) :
    s.stopTest = s.withSp { s.sp with cpStopped := s.sp.cpStopped || s.cp.plans.isEmpty } := by
  have hcm' : (s.sp.cmStopped || (s.cm.own.isEmpty && s.cm.owedRel.isEmpty)) = false := by
    simp [hcm, hown]
  unfold State.stopTest
  rw [if_pos (show s.phase = .stopping from hphase), hcm']
  simp [hcm]

end Sys2Proof.Machine
end

section
/-! SUPPORT. STOP and RESTART served: the entry to STOPPING, and the reports it hands over (R190, R191). -/

namespace Sys2Proof.Machine

-- Each pending proof holds a stack of its own: they are checked one after the other.
set_option Elab.async false

open Sys2Proof

/-! ## Commands whose effect hands over reports -/

/-- A host command whose window is taken is served with its effect and the reports it hands over (R183). -/
theorem serves_of_drain {c : Instr} {s : State} {code : Nat} {payload extra : List Byte}
    (hexec : exec c s = run (fun u => u.commandWindow code (hostWindow payload extra)) s)
    (hresp : s.sp.resp = .empty) (hcode : isCommand code = true)
    (hlen : payloadLength code (payload ++ extra) = some payload.length) (hbyte : payload.length < 256)
    (hphase : takenIn code s.sp.phase = true) {a : Answer}
    (ha : (s.windowed code (hostWindow payload extra) { code := code, payload := payload, answer := none }).effect
      code payload = a) :
    Serves c s (drain reportFuel a.served) := by
  have hwindow := s.commandWindow_of_empty code (hostWindow payload extra) hresp hcode
  rw [takeWindow_hostWindow _ _ _ _ hlen hbyte hphase] at hwindow
  refine ⟨s.windowed code (hostWindow payload extra) { code := code, payload := payload, answer := none }, ?_, rfl, ?_⟩
  · rw [hexec, ← hwindow]
    exact run_rest _ s (by rw [hwindow]; rfl)
  · exact congrArg (fun t => Host.Outcome.next (drain reportFuel t))
      ((s.windowed_complete code (hostWindow payload extra) payload).trans (congrArg Answer.served ha))

/-- The station between the window of a STOP or RESTART and its completion. -/
def State.stopAsked (s : State) (restart : Bool) (extra : List Byte) : State :=
  s.windowed (if restart then 27 else 26) (hostWindow [] extra)
    { code := if restart then 27 else 26, payload := [], answer := none }

/-- The response OK, without payload, stands READY. -/
def State.readyOk (s : State) : State :=
  s.withSp { s.sp with resp := .ready, taken := none, response := some { status := .ok, payload := [] } }

/-- In STOPPING, with the restart mark. -/
def State.stopping (s : State) (restart : Bool) : State :=
  s.withSp { s.sp with phase := .stopping, restartMark := restart, cpStopped := false, cmStopped := false }

/-- The cause of the records of the plans that STOP or RESTART ends. -/
def stopCause (restart : Bool) : AirCause := if restart then .restart else .stop

theorem State.enterStopping_eq (s : State) (restart : Bool) : s.enterStopping restart =
    ((s.stopping restart).planStop (stopCause restart)).cmStop.cancelPick.report [.stopTest] := rfl

/-- STOP and RESTART in RUNNING enter STOPPING (R190, R191). -/
theorem serves_stopping (s : State) (extra : List Byte) (restart : Bool) (hresp : s.sp.resp = .empty)
    (hphase : s.sp.phase = .running) :
    Serves (if restart then Instr.restart (hostWindow [] extra) else .stop (hostWindow [] extra)) s
      (drain reportFuel ((s.stopAsked restart extra).enterStopping restart).readyOk) := by
  cases restart with
  | false =>
    refine serves_of_drain (code := 26) (payload := []) (extra := extra) rfl hresp rfl rfl (by decide)
      (by rw [hphase]; rfl) (a := ((s.stopAsked false extra).enterStopping false).answer .ok) ?_
    show State.doStop (s.stopAsked false extra) = _
    unfold State.doStop
    rw [show (s.stopAsked false extra).phase = .running from hphase]
  | true =>
    refine serves_of_drain (code := 27) (payload := []) (extra := extra) rfl hresp rfl rfl (by decide)
      (by rw [hphase]; rfl) (a := ((s.stopAsked true extra).enterStopping true).answer .ok) ?_
    show State.doRestart (s.stopAsked true extra) = _
    unfold State.doRestart
    rw [show (s.stopAsked true extra).phase = .running from hphase]

/-! ## The entry to STOPPING without plans -/

/-- With no plan in the queue the planner has nothing to end. -/
theorem State.planStop_none {s : State} (h : s.cp.plans = []) (c : AirCause) : s.planStop c = s := by
  simp [State.planStop, h]

/-- With no booking that is to end at once the claim map has nothing to do. -/
theorem State.cmStop_none {s : State} (h : ∀ b ∈ s.cm.own, b.state.committed = true) : s.cmStop = s := by
  unfold State.cmStop
  rw [List.filter_eq_nil_iff.2 fun b hb => by simp [h b hb]]
  rfl

/-- With no intent pending the held request is dropped (R93). -/
theorem State.cancelPick_none {s : State} (h : s.pendingIntent = none) :
    s.cancelPick = s.withRl { s.rl with request := none } := by
  unfold State.cancelPick State.withdrawIntent
  rw [h]

/-! ## The completion, with what is reported beside it -/

/-- What the completion of STOPPING makes of a station. -/
def State.Completes (s t : State) : Prop :=
  (s.sp.restartMark = true ∧ s.Restarts t) ∨
  (s.sp.restartMark = false ∧ t =
    ((s.withSp { s.sp with phase := .halted, restartMark := false, cpStopped := false, cmStopped := false }).withHlc
      s.hlc.halt).withEd { s.ed with
        driveQ := [], slewQ := [], motion := none, slew := none, refusals := []
        elView := s.ed.elView.map fun p => (p.1, { p.2 with owed := false })
        anView := s.ed.anView.map fun p => (p.1, { p.2 with owed := false }) })

/-- STOPPING with nothing left to wait for. -/
structure State.StopsFree (s : State) : Prop where
  stopping : s.sp.phase = .stopping
  plans : s.cp.plans = []
  own : s.cm.own = []
  released : s.cm.owedRel = []
  exercise : s.ed.exercise = none
  arm : s.sp.restartMark = true → s.ss.arm = none

theorem State.StopsFree.completes {s : State} (h : s.StopsFree) : s.Completes s.stopTest := by
  have hdone := s.stopTest_completes h.stopping h.plans h.own h.released
  rw [hdone]
  cases hmark : s.sp.restartMark with
  | true =>
    rw [if_pos rfl]
    obtain ⟨⟨ts, q, l, bt, ed, hts, heq⟩, hidle⟩ := State.restarts_restartJoining
      (s.withSp { s.sp with cpStopped := true, cmStopped := true }) h.plans (h.arm hmark)
    generalize State.restartJoining _ = x at heq hidle ⊢
    exact .inl ⟨hmark, ⟨ts, q, l, bt, ed, hts, heq⟩, hidle⟩
  | false =>
    rw [if_neg (by decide)]
    exact .inr ⟨hmark, State.enterHalted_eq (s.withSp { s.sp with cpStopped := true, cmStopped := true }) h.exercise⟩

theorem State.Completes.reports {s t : State} (h : s.Completes t) : t.reports = s.reports := by
  obtain ⟨-, ⟨_, _, _, _, _, -, rfl⟩, -⟩ | ⟨-, rfl⟩ := h <;> rfl

/-- Nothing of a plan's leaving acts any more. -/
structure State.Settled (s : State) : Prop where
  plans : s.cp.plans = []
  idle : s.ts.state = .idle
  phase : s.sp.phase ≠ .running
  stopped : s.sp.phase ≠ .stopping

theorem State.Completes.settled {s t : State} (h : s.Completes t) (hplans : s.cp.plans = [])
    (hidle : s.ts.state = .idle) : t.Settled := by
  obtain ⟨-, ⟨_, _, _, _, _, hts, rfl⟩, -⟩ | ⟨-, rfl⟩ := h
  · exact ⟨rfl, hts.idle hidle, nofun, nofun⟩
  · exact ⟨hplans, hidle, nofun, nofun⟩

/-- A report of a plan's leaving, other than the test of STOPPING, with no plan, outside RUNNING and with the sequencer
IDLE: the leaving of a plan calls for the test of open occurrences, and nothing else happens. -/
theorem deliver_leaving {s : State} (hplans : s.cp.plans = []) (hidle : s.ts.state = .idle)
    (hphase : s.sp.phase ≠ .running) {r : Report} (hr : r.ofLeaving = true) (hstop : r ≠ .stopTest) :
    deliver r s = if r = .planLeft then s.report [.openTest] else s := by
  cases r with
  | told req num what =>
    cases req with
    | plan k => simp [deliver, State.told, State.planTold, State.plan, hplans]
    | exercise => simp [Report.ofLeaving] at hr
  | permitTest => simp [deliver, State.permitTest, hidle]
  | restartTest => simp [deliver, State.restartTest, hidle]
  | planLeft => simp [deliver, State.recomputeAll, hplans]
  | contCheck => simp [deliver, State.contCheck, hplans]
  | leaveTripped => simp [deliver, State.leaveTripped, hidle]
  | stopTest => exact absurd rfl hstop
  | openTest => simp [deliver, State.openTest, State.phase, hphase]
  | _ => simp [Report.ofLeaving] at hr

/-- The reports outstanding after one of a plan's leaving. -/
theorem ofLeaving_next {r : Report} {rest : List Report} {n : Nat} (hall : (r :: rest).all Report.ofLeaving = true)
    (hweight : ((r :: rest).map Report.weight).sum ≤ n + 1) :
    let l := if r = .planLeft then rest ++ [.openTest] else rest
    l.all Report.ofLeaving = true ∧ (l.map Report.weight).sum ≤ n := by
  rw [List.all_cons, Bool.and_eq_true] at hall
  rw [List.map_cons, List.sum_cons] at hweight
  have hpos := r.weight_bounds
  by_cases hleft : r = .planLeft
  · subst hleft
    simp only [if_true]
    refine ⟨by rw [List.all_append, hall.2]; rfl, ?_⟩
    simp [Report.weight] at hweight ⊢
    omega
  · simp only [if_neg hleft]
    exact ⟨hall.2, by omega⟩

theorem ofLeaving_none {l : List Report} (h : (l.map Report.weight).sum ≤ 0) : l = [] := by
  cases l with
  | nil => rfl
  | cons r rest =>
    have := r.weight_bounds
    simp at h
    omega

theorem drain_settled (n : Nat) : ∀ s : State, s.Settled → s.reports.all Report.ofLeaving = true →
    (s.reports.map Report.weight).sum ≤ n → drain n s = s.withReports [] := by
  have hnone : ∀ (n : Nat) (s : State), s.reports = [] → drain n s = s.withReports [] := fun n s h => by
    rw [drain_rest n s h, ← h]
    rfl
  induction n with
  | zero => exact fun s _ _ hweight => hnone 0 s (ofLeaving_none hweight)
  | succ n ih =>
    intro s h hall hweight
    cases hreports : s.reports with
    | nil => exact hnone _ s hreports
    | cons r rest =>
      rw [hreports] at hall hweight
      have hnext := ofLeaving_next hall hweight
      have hdeliver : deliver r (s.withReports rest)
          = s.withReports (if r = .planLeft then rest ++ [.openTest] else rest) := by
        by_cases hstop : r = .stopTest
        · rw [hstop]
          exact State.stopTest_other h.stopped
        · rw [deliver_leaving (s := s.withReports rest) h.plans h.idle h.phase (List.all_eq_true.1 hall r (List.mem_cons_self ..)) hstop]
          split <;> rfl
      rw [drain_cons n s r rest hreports, hdeliver]
      exact ih (s.withReports _) { h with } hnext.1 hnext.2

/-- With nothing left to wait for STOPPING completes at its first test, whatever of a plan's leaving is reported beside. -/
theorem drain_completes (n : Nat) : ∀ s : State, s.StopsFree → s.ts.state = .idle →
    s.reports.all Report.ofLeaving = true → .stopTest ∈ s.reports → (s.reports.map Report.weight).sum ≤ n →
    ∃ l t, (s.withReports l).Completes t ∧ drain n s = t.withReports [] := by
  induction n with
  | zero =>
    intro s _ _ _ hmem hweight
    rw [ofLeaving_none hweight] at hmem
    exact absurd hmem List.not_mem_nil
  | succ n ih =>
    intro s h hidle hall hmem hweight
    cases hreports : s.reports with
    | nil =>
      rw [hreports] at hmem
      exact absurd hmem List.not_mem_nil
    | cons r rest =>
      rw [hreports] at hall hweight hmem
      have hnext := ofLeaving_next hall hweight
      have hfree : ∀ l, (s.withReports l).StopsFree := fun _ => { h with }
      rw [drain_cons n s r rest hreports]
      by_cases hstop : r = .stopTest
      · subst hstop
        have hdone := (hfree rest).completes
        refine ⟨rest, _, hdone, ?_⟩
        show drain n (s.withReports rest).stopTest = _
        refine drain_settled n _ (hdone.settled h.plans hidle) ?_ ?_
        · rw [hdone.reports]
          exact hnext.1
        · rw [hdone.reports]
          exact hnext.2
      · have hdeliver : deliver r (s.withReports rest)
            = s.withReports (if r = .planLeft then rest ++ [.openTest] else rest) := by
          rw [deliver_leaving (s := s.withReports rest) h.plans hidle (fun e => nomatch h.stopping.symm.trans e)
            (List.all_eq_true.1 hall r (List.mem_cons_self ..)) hstop]
          split <;> rfl
        rw [hdeliver]
        have hmem' : Report.stopTest ∈ rest := (List.mem_cons.1 hmem).resolve_left (Ne.symm hstop)
        refine ih (s.withReports (if r = .planLeft then rest ++ [Report.openTest] else rest)) (hfree _) hidle hnext.1 ?_ hnext.2
        show Report.stopTest ∈ if r = .planLeft then rest ++ [.openTest] else rest
        split
        · exact List.mem_append_left _ hmem'
        · exact hmem'

end Sys2Proof.Machine
end

section
/-! SUPPORT. The station's one plan and its one booking leave together in STOPPING (R68, R153, R154, R157). -/

namespace Sys2Proof.Machine

-- Each pending proof holds a stack of its own: they are checked one after the other.
set_option Elab.async false

open Sys2Proof

/-! ## The booking -/

/-- In STOPPING the one booking ends with its RELEASE, while the queue has room (R68). -/
theorem State.endOwn_alone (s : State) {b : OwnBooking} (hown : s.cm.own = [b])
    (hsent : ¬ (b.state = .tentative ∧ b.sent = false)) (hphase : s.sp.phase = .stopping)
    (hroom : s.hlc.queue.length + s.hlc.slots.length < 16) (what : Told) :
    s.endOwn b what = ((s.withCm { s.cm with own := [] }).withHlc
      { s.hlc with queue := enqueue s.hlc.queue (.release b.desc.num) }).withReports
        (s.reports ++ [.stopTest] ++ [.told b.req b.desc.num what, .permitTest, .restartTest]) := by
  have hnone : s.cm.own.filter (fun x => x.desc.num != b.desc.num) = [] := by simp [hown]
  have hlinked : ¬ s.phase = .linkFault := fun h => nomatch h.symm.trans hphase
  have hremoved : s.removeOwn b true = ((s.withCm { s.cm with own := [] }).offerRelease b.desc.num).report [.stopTest] := by
    simp only [State.removeOwn, hnone]
    rw [if_neg (show ¬ (s.withCm { s.cm with own := [] }).phase = .linkFault from hlinked), if_neg hsent, if_true]
  have hoffer : (s.withCm { s.cm with own := [] }).offerRelease b.desc.num = (s.withCm { s.cm with own := [] }).withHlc
      { s.hlc with queue := enqueue s.hlc.queue (.release b.desc.num) } := by
    rw [State.offerRelease, if_neg (show ¬ (s.withCm { s.cm with own := [] }).phase = .linkFault from hlinked),
      State.offer_room (s.withCm { s.cm with own := [] }) _
        (congrArg (offerPermitted · (.release b.desc.num)) (show s.phase = .stopping from hphase)) hroom]
    rfl
  rw [State.endOwn, hremoved, hoffer]
  rfl

/-! ## The plan -/

theorem State.dropPin_eq (s : State) (p : Plan) : ∃ pd g, (∀ q : Plan, (g q).id = q.id)
    ∧ s.dropPin p = (s.withPd pd).withCp { s.cp with plans := s.cp.plans.map g } := by
  unfold State.dropPin
  split
  · refine ⟨_, _, fun q => ?_, rfl⟩
    split <;> rfl
  · exact ⟨s.pd, id, fun _ => rfl, by rw [List.map_id]; rfl⟩

theorem State.planLeaves_eq (s : State) (p : Plan) {l : List Plan} (hl : s.cp.plans.filter (fun x => x.id != p.id) = l) :
    ∃ ss, ss.arm = s.ss.arm ∧ s.planLeaves p = ((s.withCp { s.cp with plans := l }).withSs ss).report
      [.planLeft, .contCheck, .leaveTripped, .stopTest] := by
  subst hl
  unfold State.planLeaves
  split
  · refine ⟨_, ?_, rfl⟩
    rfl
  · exact ⟨s.ss, rfl, rfl⟩

/-- The last plan leaves with its record: its pin is released, and an ad hoc entry leaves its slot. -/
theorem State.lastLeaves (s : State) (p : Plan) (r : AirRecord) (hids : ∀ q ∈ s.cp.plans, q.id = p.id)
    (hroom : s.sp.airLog.length < 32) : ∃ pd ss, ss.arm = s.ss.arm ∧ ((s.dropPin p).logRecord r).planLeaves p =
    ((((s.withPd pd).withSp { s.sp with airLog := s.sp.airLog ++ [r] }).withCp { s.cp with plans := [] }).withSs ss).report
      [.planLeft, .contCheck, .leaveTripped, .stopTest] := by
  obtain ⟨pd, g, hg, hpin⟩ := s.dropPin_eq p
  have hnone : (s.cp.plans.map g).filter (fun x => x.id != p.id) = [] := by
    refine List.filter_eq_nil_iff.2 fun q hq => ?_
    obtain ⟨x, hx, rfl⟩ := List.mem_map.1 hq
    simp [hg, hids x hx]
  rw [hpin, State.logRecord_room ((s.withPd pd).withCp { s.cp with plans := s.cp.plans.map g }) r hroom]
  obtain ⟨ss, harm, hleaves⟩ := State.planLeaves_eq (((s.withPd pd).withCp { s.cp with plans := s.cp.plans.map g }).withSp
    { s.sp with airLog := s.sp.airLog ++ [r] }) p hnone
  exact ⟨pd, ss, harm, hleaves⟩

/-- What has left with a record `r` when the one plan and the one booking `n` have gone: `rs` is what was reported. -/
def State.OneGone (s : State) (n : Nat) (r : AirRecord) (rs : List Report) (t : State) : Prop :=
  ∃ pd ss cp, ss.arm = s.ss.arm ∧ cp.plans = [] ∧ t =
    ((((((s.withPd pd).withSp { s.sp with airLog := s.sp.airLog ++ [r] }).withCp cp).withSs ss).withCm
      { s.cm with own := [] }).withHlc { s.hlc with queue := enqueue s.hlc.queue (.release n) }).withReports rs

/-- In STOPPING the one plan, waiting, is dropped with its booking (R154, R157). -/
theorem State.dropPlan_alone (s : State) {p : Plan} {b : OwnBooking} (hplans : s.cp.plans = [p]) (hown : s.cm.own = [b])
    (hbooking : p.booking = some b.desc.num) (hstate : b.state = .booked ∨ (b.state = .tentative ∧ b.sent = true))
    (hphase : s.sp.phase = .stopping) (hlog : s.sp.airLog.length < 32)
    (hroom : s.hlc.queue.length + s.hlc.slots.length < 16) (o : AirOutcome) (c : Option AirCause) :
    s.OneGone b.desc.num (p.record o c) (s.reports ++ [.stopTest] ++ [.told b.req b.desc.num .released, .permitTest,
      .restartTest] ++ [.planLeft, .contCheck, .leaveTripped, .stopTest]) (s.dropPlan p (some (o, c))) := by
  have hsent : ¬ (b.state = .tentative ∧ b.sent = false) := by
    rcases hstate with h | ⟨-, h⟩ <;> simp [h]
  have hdrop : s.dropBooking p = (s.updPlan p.id fun p => { p with booking := none }).endOwn b .released := by
    rw [s.dropBooking_some hbooking, State.releaseBooking,
      State.ownBooking_of_singleton (s := s.updPlan p.id _) hown]
    refine if_pos ?_
    rcases hstate with h | ⟨h, -⟩ <;> simp [h]
  have hended := State.endOwn_alone (s.updPlan p.id fun p => { p with booking := none }) hown hsent hphase hroom .released
  simp only [State.dropPlan]
  rw [hdrop]
  generalize State.endOwn _ _ _ = x at hended ⊢
  obtain ⟨pd, ss, harm, hleft⟩ := x.lastLeaves p (p.record o c)
    (by
      rw [hended]
      exact s.updPlan_id p (f := fun p => { p with booking := none }) (fun _ => rfl) (State.ids_of_singleton hplans))
    (by
      rw [hended]
      exact hlog)
  rw [hleft, hended]
  rw [hended] at harm
  exact ⟨pd, ss, _, harm, rfl, rfl⟩

end Sys2Proof.Machine
end

section
/-! SUPPORT. STOPPING finds a current plan: it goes to ENDING, with its booking (R68, R153, R157, R163). -/

namespace Sys2Proof.Machine

-- Each pending proof holds a stack of its own: they are checked one after the other.
set_option Elab.async false

open Sys2Proof

/-! ## Ramp-down -/

/-- RF is on its way or on the air. -/
def SeqState.driven (x : SeqState) : Prop := x = .tuning ∨ x = .tuned ∨ x = .ramping ∨ x = .onAir

/-- The sequencer after a ramp-down: DOWN is sent, and RF-off is waited for with every watch stopped. -/
def Sequencer.goneDown (t : Sequencer) (limit : Nat) : Sequencer :=
  { t.stopTimers with
    state := .down, sent := t.sent ++ [.down], rfoffT := some limit, rfOffTaken := false, strayT := none }

/-- The sequencer goes DOWN (R163, R166, R172). -/
theorem State.rampDown_driven (s : State) (h : SeqState.driven s.ts.state) :
    s.rampDown = s.withTs (s.ts.goneDown (s.cfg.tDWN + s.cfg.tGRC)) := by
  have hrun : s.rampDown = ((s.send .down).withTs
      { (s.send .down).ts.stopTimers with rfoffT := some s.offLimit, rfOffTaken := false }).setSeq .down := by
    unfold State.rampDown
    rcases h with h | h | h | h <;> rw [h] <;> rfl
  have hdown : ∀ x : State, x.ts.state = .down → x.retime = x.withTs
      { x.ts with meterGap := none, meterLost := false, strayT := none } := fun x hx => by
    have hmeter : x.meterRuns = false := by simp [State.meterRuns, hx]
    have hstray : x.strayRuns = false := by simp [State.strayRuns, hx]
    simp [State.retime, hmeter, hstray]
  rw [hrun, State.setSeq, hdown _ rfl, State.releaseTest_down _ rfl]
  rfl

theorem State.rampDown_idle {s : State} (h : s.ts.state = .idle) : s.rampDown = s := by
  unfold State.rampDown
  rw [h]

/-! ## The booking -/

/-- The release of a committed plan booking waits for RF-off (R68). -/
theorem State.releaseBooking_committed (s : State) {b : OwnBooking} {k : Nat} (hown : s.cm.own = [b])
    (hcommitted : b.state.committed = true) (hreq : b.req = .plan k) : s.releaseBooking b.desc.num =
      ((s.withCm { s.cm with own := [b.ended] }).report [.permitTest, .restartTest]).releaseTest := by
  have hfree : ¬ (b.state = .tentative ∨ b.state = .booked ∨ b.req = .exercise) := by
    rintro (h | h | h)
    · rw [h] at hcommitted
      exact nomatch hcommitted
    · rw [h] at hcommitted
      exact nomatch hcommitted
    · exact nomatch hreq.symm.trans h
  have hupd : s.updOwn b.desc.num (fun b => { b with state := .ending, confirm := none, relPending := true })
      = s.withCm { s.cm with own := [b.ended] } := by
    simp [State.updOwn, hown, OwnBooking.ended]
  simp only [State.releaseBooking, State.ownBooking_of_singleton hown]
  rw [if_neg hfree, hupd]

/-- With RF off the booking that waits for it goes (R68). -/
theorem State.releaseTest_alone (s : State) {b : OwnBooking} (hown : s.cm.own = [b.ended])
    (hheld : s.rfHeld = false) : s.releaseTest = s.endOwn b.ended .released := by
  unfold State.releaseTest
  rw [if_neg (by simp [hheld]), hown]
  rfl

/-! ## The plan -/

/-- The one plan, current, goes to ENDING, ABORTED with a cause. -/
def Plan.aborted (p : Plan) (now : Nat) (c : AirCause) : Plan :=
  { p.closeLost now with state := .ending, pendOut := some .aborted, cause := some c }

theorem Plan.toEnding_aborted (p : Plan) (now : Nat) (c : AirCause) : p.toEnding now (some (.aborted, c)) = p.aborted now c :=
  rfl

theorem Plan.aborted_id (p : Plan) (now : Nat) (c : AirCause) : (p.aborted now c).id = p.id := by
  obtain ⟨lost, air, h⟩ := p.closeLost_eq now
  rw [Plan.aborted, h]

theorem Plan.aborted_booking (p : Plan) (now : Nat) (c : AirCause) : (p.aborted now c).booking = p.booking := by
  obtain ⟨lost, air, h⟩ := p.closeLost_eq now
  rw [Plan.aborted, h]

/-- A current plan is the only one to end. -/
theorem State.planStop_current (s : State) {p : Plan} (hplans : s.cp.plans = [p]) (hcurrent : p.state.current = true)
    (c : AirCause) : s.planStop c = s.enterEnding p (some (.aborted, c)) := by
  have hwaits : ¬ p.state.waiting = true := fun h => PlanState.not_current_of_waiting h hcurrent
  simp [State.planStop, hplans, hwaits]

/-- The one plan in the queue becomes another of its id. -/
theorem State.putPlan_alone (s : State) {p q : Plan} (hplans : s.cp.plans = [p]) (hid : q.id = p.id) :
    s.putPlan q = s.withCp { s.cp with plans := [q] } := by
  simp [State.putPlan, State.updPlan, hplans, hid]

/-- The one plan, current and not yet ENDING, goes to ENDING with its committed booking; `ts` is the sequencer after the
ramp-down. -/
theorem State.enterEnding_alone (s : State) {p : Plan} {b : OwnBooking} {ts : Sequencer} (hplans : s.cp.plans = [p])
    (hown : s.cm.own = [b]) (hbooking : p.booking = some b.desc.num) (hreq : b.req = .plan p.id)
    (hstate : p.state ≠ .ending) (hcommitted : b.state.committed = true) (hpending : s.pendingIntent = none)
    (hdown : ∀ cp, (s.withCp cp).rampDown = (s.withCp cp).withTs ts) (c : AirCause) :
    s.enterEnding p (some (.aborted, c)) =
      (((((s.withCp { s.cp with plans := [p.aborted s.now c], owedMoves := [] }).withTs ts).withRl
        { s.rl with request := none }).withCm { s.cm with own := [b.ended] }).withReports
        (s.reports ++ [.contCheck, .leaveTripped] ++ [.permitTest, .restartTest])).releaseTest := by
  have hgoes : s.goesDown (p.aborted s.now c) =
      (((s.withCp { s.cp with plans := [p.aborted s.now c], owedMoves := [] }).withTs ts).withRl
        { s.rl with request := none }).withReports (s.reports ++ [.contCheck, .leaveTripped]) := by
    unfold State.goesDown
    rw [s.putPlan_alone hplans (p.aborted_id s.now c)]
    show State.report (State.cancelPick (State.rampDown (s.withCp { s.cp with
      plans := [p.aborted s.now c], owedMoves := [] }))) _ = _
    have hcancel : ∀ cp, ((s.withCp cp).withTs ts).cancelPick = ((s.withCp cp).withTs ts).withRl
        { s.rl with request := none } := fun cp => State.cancelPick_none (s := (s.withCp cp).withTs ts) hpending
    rw [hdown, hcancel]
    rfl
  rw [s.enterEnding_eq p _ hstate, Plan.toEnding_aborted]
  generalize State.goesDown _ _ = x at hgoes ⊢
  have hown' : x.cm.own = [b] := by
    rw [hgoes]
    exact hown
  unfold State.givesUp
  rw [p.aborted_booking, hbooking, Option.bind_some, State.ownBooking_of_singleton hown']
  show x.releaseBooking b.desc.num = _
  rw [State.releaseBooking_committed x hown' hcommitted hreq, hgoes]
  rfl

end Sys2Proof.Machine
end

section
/-! SUPPORT. The reports of the entry to STOPPING, case by case: nothing held, a booking held, the one plan gone, the one
plan ENDING (R157, R190, R191). -/

namespace Sys2Proof.Machine

-- Each pending proof holds a stack of its own: they are checked one after the other.
set_option Elab.async false

open Sys2Proof

theorem State.pendingIntent_of_rl {s t : State} (h : t.rl = s.rl) : t.pendingIntent = s.pendingIntent :=
  congrArg (fun r : RampLog => r.intents.find? Intent.isPending) h

/-! ## Reports passed over -/

/-- Reports that leave the state as it is are passed over. -/
theorem drain_skip (l : List Report) : ∀ (n : Nat) (s : State) (rest : List Report), s.reports = l ++ rest → l.length ≤ n →
    (∀ r ∈ l, ∀ rest, deliver r (s.withReports rest) = s.withReports rest) →
    drain n s = drain (n - l.length) (s.withReports rest) := by
  induction l with
  | nil =>
    intro n s rest h _ _
    rw [show rest = s.reports from h.symm]
    rfl
  | cons r l ih =>
    intro n s rest h hn hr
    obtain ⟨n, rfl⟩ : ∃ k, n = k + 1 := ⟨n - 1, by simp at hn; omega⟩
    rw [drain_cons n s r (l ++ rest) h, hr r (List.mem_cons_self ..)]
    refine (ih n (s.withReports (l ++ rest)) rest rfl (by simpa using hn)
      fun x hx => hr x (List.mem_cons_of_mem r hx)).trans ?_
    rw [List.length_cons, Nat.add_sub_add_right]
    rfl

/-! ## Nothing held -/

/-- STOPPING without plans and bookings completes at its one test. -/
theorem drain_stopTest {n : Nat} {s : State} (h : s.StopsFree) (hreports : s.reports = [.stopTest]) :
    ∃ t, (s.withReports []).Completes t ∧ drain (n + 1) s = t := by
  have hfree : (s.withReports []).StopsFree := { h with }
  refine ⟨_, hfree.completes, ?_⟩
  rw [drain_cons n s .stopTest [] hreports]
  exact drain_rest n _ hfree.completes.reports

/-! ## A booking held -/

/-- In STOPPING a booking is held, with no plan left and the response OK ready. -/
structure State.Holds (restart : Bool) (s : State) : Prop where
  phase : s.sp.phase = .stopping
  mark : s.sp.restartMark = restart
  open_ : s.sp.cmStopped = false
  own : s.cm.own ≠ []
  plans : s.cp.plans = []
  idle : s.ts.state = .idle
  resp : s.sp.resp = .ready
  response : s.sp.response = some { status := .ok, payload := [] }
  reports : s.reports.all Report.ofLeaving = true

theorem State.Holds.drain {restart : Bool} (n : Nat) : ∀ {s : State}, s.Holds restart → (drain n s).Holds restart := by
  induction n with
  | zero => exact fun h => h
  | succ n ih =>
    intro s h
    cases hreports : s.reports with
    | nil =>
      rw [drain_rest _ s hreports]
      exact h
    | cons r rest =>
      have hall := h.reports
      rw [hreports, List.all_cons, Bool.and_eq_true] at hall
      rw [drain_cons n s r rest hreports]
      by_cases hstop : r = .stopTest
      · subst hstop
        show (Machine.drain n (s.withReports rest).stopTest).Holds restart
        rw [State.stopTest_waits (s.withReports rest) h.phase h.open_ h.own]
        exact ih { h with reports := hall.2 }
      · rw [deliver_leaving (s := s.withReports rest) h.plans h.idle (fun e => nomatch h.phase.symm.trans e) hall.1 hstop]
        split
        · refine ih { h with reports := ?_ }
          show (rest ++ [Report.openTest]).all Report.ofLeaving = true
          rw [List.all_append, hall.2]
          rfl
        · exact ih { h with reports := hall.2 }

/-- A booking's end leaves the other bookings, and is reported. -/
theorem State.endOwn_own (s : State) (b : OwnBooking) (what : Told) :
    (s.endOwn b what).cm.own = s.cm.own.filter (fun x => x.desc.num != b.desc.num)
      ∧ (s.endOwn b what).reports = s.reports ++ [.stopTest] ++ [.told b.req b.desc.num what, .permitTest, .restartTest] := by
  have hoffer : ∀ (u : State) (n : Nat), (u.offerRelease n).cm.own = u.cm.own ∧ (u.offerRelease n).reports = u.reports :=
    fun u n => by
      unfold State.offerRelease
      split
      · exact ⟨rfl, rfl⟩
      · simp only
        split
        · rw [u.offer_other]
          exact ⟨rfl, rfl⟩
        · exact ⟨rfl, rfl⟩
  have hremoved : (s.removeOwn b true).cm.own = s.cm.own.filter (fun x => x.desc.num != b.desc.num)
      ∧ (s.removeOwn b true).reports = s.reports ++ [.stopTest] := by
    unfold State.removeOwn
    extract_lets c u c' v
    have hv : v.cm.own = u.cm.own ∧ v.reports = u.reports := by
      simp only [v]
      split
      · exact ⟨rfl, rfl⟩
      · split
        · exact ⟨rfl, rfl⟩
        · exact hoffer u _
    exact ⟨hv.1, congrArg (· ++ [Report.stopTest]) hv.2⟩
  exact ⟨hremoved.1, congrArg (· ++ _) hremoved.2⟩

/-- The entry to STOPPING keeps a committed booking, and what it reports of the others comes from plans alone. -/
theorem State.cmStop_keeps (s : State) {b : OwnBooking} (hb : b ∈ s.cm.own) (hcommitted : b.state.committed = true)
    (hnodup : (s.cm.own.map fun b => b.desc.num).Nodup) (hreports : s.reports.all Report.ofLeaving = true) :
    s.bookingFrame s.cmStop ∧ b ∈ s.cmStop.cm.own ∧ s.cmStop.reports.all Report.ofLeaving = true := by
  unfold State.cmStop
  refine List.foldlRecOn (motive := fun u => s.bookingFrame u ∧ b ∈ u.cm.own ∧ u.reports.all Report.ofLeaving = true) _ _
    ⟨rfl, hb, hreports⟩ fun u ⟨hframe, hmem, hall⟩ x hx => ?_
  obtain ⟨hown, hrep⟩ := u.endOwn_own x .stopped
  obtain ⟨hx, hcond⟩ := List.mem_filter.1 hx
  simp only [Bool.and_eq_true, decide_eq_true_eq, Bool.not_eq_true'] at hcond
  have hne : b.desc.num ≠ x.desc.num := fun e => by
    have hbx := List.inj_on_of_nodup_map hnodup hb hx e
    rw [hbx, hcond.2] at hcommitted
    exact nomatch hcommitted
  refine ⟨State.bookingFrame_trans hframe (u.bookingFrame_endOwn x _), ?_, ?_⟩
  · rw [hown]
    exact List.mem_filter.2 ⟨hmem, by simpa using hne⟩
  · have htold : Report.ofLeaving (.told x.req x.desc.num .stopped) = true := by
      cases hreq : x.req with
      | plan k => rfl
      | exercise => exact absurd hreq hcond.1
    have hrest : [Report.told x.req x.desc.num .stopped, .permitTest, .restartTest].all Report.ofLeaving = true := by
      rw [List.all_cons, htold]
      rfl
    rw [hrep, List.all_append, List.all_append, hall, hrest]
    rfl

/-- With a committed booking and no plan the entry to STOPPING is held up. -/
theorem State.holds_enterStopping (s : State) (restart : Bool) {b : OwnBooking} (hb : b ∈ s.cm.own)
    (hcommitted : b.state.committed = true) (hnodup : (s.cm.own.map fun b => b.desc.num).Nodup)
    (hplans : s.cp.plans = []) (hidle : s.ts.state = .idle) (hreports : s.reports = []) :
    (s.enterStopping restart).readyOk.Holds restart := by
  rw [State.enterStopping_eq, State.planStop_none (s := s.stopping restart) hplans]
  obtain ⟨hframe, hmem, hall⟩ := (s.stopping restart).cmStop_keeps hb hcommitted hnodup (by
    show s.reports.all _ = true
    rw [hreports]
    rfl)
  generalize State.cmStop _ = u at hframe hmem hall ⊢
  unfold State.bookingFrame at hframe
  obtain ⟨g, l, r, -, hpick⟩ := u.cancelPick_other
  rw [hpick]
  have hsp : u.sp = (s.stopping restart).sp := (congrArg State.sp hframe).trans rfl
  have hcp : u.cp = s.cp := (congrArg State.cp hframe).trans rfl
  have hts : u.ts = s.ts := (congrArg State.ts hframe).trans rfl
  exact {
    phase := congrArg Port.phase hsp
    mark := congrArg Port.restartMark hsp
    open_ := congrArg Port.cmStopped hsp
    own := List.ne_nil_of_mem hmem
    plans := by
      show u.cp.plans.map g = []
      rw [hcp, hplans]
      rfl
    idle := (congrArg Sequencer.state hts).trans hidle
    resp := rfl
    response := rfl
    reports := by
      show (u.reports ++ [Report.stopTest]).all Report.ofLeaving = true
      rw [List.all_append, hall]
      rfl }

/-! ## The plan gone -/

/-- In STOPPING the one plan has gone with record `r`, and its booking `num` with its RELEASE. -/
structure State.Left (s : State) (restart : Bool) (num : Nat) (r : AirRecord) (u : State) : Prop where
  free : u.StopsFree
  mark : u.sp.restartMark = restart
  resp : u.sp.resp = .ready
  response : u.sp.response = some { status := .ok, payload := [] }
  airLog : u.sp.airLog = s.sp.airLog ++ [r]
  ts : u.ts = s.ts
  queue : u.hlc.queue = enqueue s.hlc.queue (.release num)
  cfg : u.cfg = s.cfg

/-- What STOP and RESTART leave when the one plan has gone with record `r`. -/
structure State.LeftBehind (s : State) (restart : Bool) (num : Nat) (r : AirRecord) (t : State) : Prop where
  phase : t.sp.phase = if restart then .joining else .halted
  mark : t.sp.restartMark = false
  resp : t.sp.resp = .ready
  response : t.sp.response = some { status := .ok, payload := [] }
  airLog : t.sp.airLog = s.sp.airLog ++ [r]
  plans : t.cp.plans = []
  own : t.cm.own = []
  released : t.cm.owedRel = []
  sent : t.ts.sent = s.ts.sent
  halted : restart = false → t.hlc.beaconT = none ∧ t.hlc.queue = enqueue s.hlc.queue (.release num)
  joining : restart = true → t.hlc.joiningT = some (2 * s.cfg.tBCN)

theorem State.Left.drain {s u : State} {restart : Bool} {num n : Nat} {r : AirRecord} (h : s.Left restart num r u)
    (hidle : s.ts.state = .idle) (hall : u.reports.all Report.ofLeaving = true) (hmem : .stopTest ∈ u.reports)
    (hfew : 2 * u.reports.length ≤ n) : s.LeftBehind restart num r (drain n u) := by
  obtain ⟨l, t, hdone, hdrain⟩ := drain_completes n u h.free (by rw [h.ts]; exact hidle) hall hmem
    ((sum_weight_le _).trans hfew)
  rw [hdrain]
  obtain ⟨hmark, ⟨ts, q, sl, bt, ed, hts, rfl⟩, -⟩ | ⟨hmark, rfl⟩ := hdone
  · obtain rfl : restart = true := h.mark.symm.trans hmark
    exact {
      phase := rfl, mark := rfl, resp := h.resp, response := h.response, airLog := h.airLog, plans := rfl, own := rfl
      released := rfl
      sent := hts.sent.trans (congrArg Sequencer.sent h.ts)
      halted := nofun
      joining := fun _ => congrArg (fun c : Settings => some (2 * c.tBCN)) h.cfg }
  · obtain rfl : restart = false := h.mark.symm.trans hmark
    exact {
      phase := rfl, mark := rfl, resp := h.resp, response := h.response, airLog := h.airLog, plans := h.free.plans
      own := h.free.own, released := h.free.released
      sent := congrArg Sequencer.sent h.ts
      halted := fun _ => ⟨rfl, h.queue⟩
      joining := nofun }

/-- A waiting plan that goes at STOPPING leaves the planner nothing to end. -/
theorem State.planStop_waiting (s : State) {p : Plan} (hplans : s.cp.plans = [p]) (hwaits : p.state.waiting = true)
    (c : AirCause) (hgone : (s.dropPlan p (some (.aborted, some c))).cp.plans = []) :
    s.planStop c = s.dropPlan p (some (.aborted, some c)) := by
  simp [State.planStop, hplans, hwaits, hgone]

/-- The entry to STOPPING goes on when the one plan and the one booking have gone. -/
theorem State.OneGone.left {s x : State} {num : Nat} {r : AirRecord} {rs : List Report} (h : s.OneGone num r rs x)
    (hphase : s.sp.phase = .stopping) (hex : s.ed.exercise = none) (hpending : s.pendingIntent = none)
    (howed : s.cm.owedRel = []) (harm : s.ss.arm = none) :
    s.Left s.sp.restartMark num r (x.cmStop.cancelPick.report [.stopTest]).readyOk
      ∧ (x.cmStop.cancelPick.report [.stopTest]).readyOk.reports = rs ++ [.stopTest] := by
  obtain ⟨pd, ss, cp, hss, hcp, rfl⟩ := h
  generalize hx : State.withReports _ _ = x
  have hempty : x.cm.own = [] := by rw [← hx]; rfl
  have hnone : x.pendingIntent = none := (State.pendingIntent_of_rl (by rw [← hx]; rfl)).trans hpending
  rw [State.cmStop_none (by rw [hempty]; exact fun _ hb => absurd hb List.not_mem_nil), State.cancelPick_none hnone, ← hx]
  exact ⟨{
    free := ⟨hphase, hcp, rfl, howed, hex, fun _ => hss.trans harm⟩
    mark := rfl, resp := rfl, response := rfl, airLog := rfl, queue := rfl
    ts := by simp [State.readyOk]
    cfg := by simp [State.readyOk] }, rfl⟩

/-- STOP and RESTART with the one plan waiting. -/
theorem State.left_waiting (s : State) (restart : Bool) {p : Plan} {b : OwnBooking}
    (hphase : s.sp.phase = .stopping) (hex : s.ed.exercise = none) (hpending : s.pendingIntent = none)
    (hplans : s.cp.plans = [p]) (hown : s.cm.own = [b]) (hbooking : p.booking = some b.desc.num)
    (hreq : b.req = .plan p.id) (howed : s.cm.owedRel = []) (harm : s.ss.arm = none) (hwaits : p.state.waiting = true)
    (hstate : b.state = .booked ∨ (b.state = .tentative ∧ b.sent = true)) (hlog : s.sp.airLog.length < 32)
    (hroom : s.hlc.queue.length + s.hlc.slots.length < 16) (hreports : s.reports = []) (hidle : s.ts.state = .idle) :
    s.LeftBehind s.sp.restartMark b.desc.num (p.record .aborted (some (stopCause restart)))
      (Machine.drain reportFuel ((s.planStop (stopCause restart)).cmStop.cancelPick.report [.stopTest]).readyOk) := by
  have hgone := s.dropPlan_alone hplans hown hbooking hstate hphase hlog hroom .aborted (some (stopCause restart))
  have hempty : (s.dropPlan p (some (.aborted, some (stopCause restart)))).cp.plans = [] := by
    obtain ⟨pd, ss, cp, -, hcp, heq⟩ := hgone
    rw [heq]
    exact hcp
  rw [s.planStop_waiting hplans hwaits _ hempty]
  obtain ⟨hleft, hrep⟩ := State.OneGone.left hgone hphase hex hpending howed harm
  rw [hreports, hreq] at hrep
  refine hleft.drain hidle ?_ ?_ ?_
  · rw [hrep]
    rfl
  · rw [hrep]
    exact List.mem_cons_self ..
  · rw [hrep]
    show 18 ≤ 100000
    decide

end Sys2Proof.Machine
end

section
/-! SUPPORT. The current plan at STOPPING with RF off, and with RF on its way or on the air (R68, R153, R157, R163). -/

namespace Sys2Proof.Machine

-- Each pending proof holds a stack of its own: they are checked one after the other.
set_option Elab.async false

open Sys2Proof

/-- A plan that is ENDING has nothing to decide about continuations. -/
theorem State.contCheck_ending {s : State} (h : ∀ p ∈ s.cp.plans, p.state = .ending) : s.contCheck = s := by
  unfold State.contCheck
  rw [List.filter_eq_nil_iff.2 fun p hp => by simp [h p hp, PlanState.waiting]]
  rfl

/-- While plans are left STOPPING is not complete. -/
theorem State.stopTest_planned (s : State) (hphase : s.sp.phase = .stopping) (hcp : s.sp.cpStopped = false)
    (hplans : s.cp.plans ≠ []) : s.stopTest =
      s.withSp { s.sp with cmStopped := s.sp.cmStopped || (s.cm.own.isEmpty && s.cm.owedRel.isEmpty) } := by
  have hcp' : (s.sp.cpStopped || s.cp.plans.isEmpty) = false := by simp [hcp, hplans]
  unfold State.stopTest
  rw [if_pos (show s.phase = .stopping from hphase), hcp']
  simp [hcp]

/-- An ENDING plan and the sequencer, IDLE or DOWN, have nothing to do at these tests. -/
theorem deliver_ending {s : State} (hplans : ∀ p ∈ s.cp.plans, p.state = .ending)
    (hts : s.ts.state = .idle ∨ s.ts.state = .down) {r : Report}
    (hr : r ∈ [Report.contCheck, .leaveTripped, .permitTest, .restartTest]) : deliver r s = s := by
  have hne : s.ts.state ≠ .tripped := by rcases hts with h | h <;> simp [h]
  simp only [List.mem_cons, List.not_mem_nil, or_false] at hr
  rcases hr with rfl | rfl | rfl | rfl
  · exact State.contCheck_ending hplans
  · simp [deliver, State.leaveTripped, hne]
  · show s.permitTest = s
    unfold State.permitTest
    rcases hts with h | h <;> rw [h]
  · simp [deliver, State.restartTest, hne]

/-! ## RF off -/

/-- In STOPPING the one plan is ENDING, its booking `n` gone, with RF off. -/
structure State.EndsNow (s : State) (q : Plan) (n : Nat) : Prop where
  stopping : s.sp.phase = .stopping
  waiting : s.sp.cpStopped = false
  plans : s.cp.plans = [q]
  state : q.state = .ending
  booking : q.booking = some n
  own : s.cm.own = []
  idle : s.ts.state = .idle
  reports : s.reports = [.contCheck, .leaveTripped, .permitTest, .restartTest, .stopTest, .told (.plan q.id) n .released,
    .permitTest, .restartTest, .stopTest]

/-- Told of its booking's release, the one plan takes its record and leaves (R153). -/
theorem State.told_released (s : State) {q : Plan} {n : Nat} (hplans : s.cp.plans = [q]) (hstate : q.state = .ending)
    (hbooking : q.booking = some n) (hlog : s.sp.airLog.length < 32) :
    ∃ pd ss, ss.arm = s.ss.arm ∧ deliver (.told (.plan q.id) n .released) s =
      ((((s.withPd pd).withSp { s.sp with airLog := s.sp.airLog ++ [q.record q.ending.1 q.ending.2] }).withCp
        { s.cp with plans := [], guardT := some s.cfg.tGRD }).withSs ss).withReports
        (s.reports ++ [.planLeft, .contCheck, .leaveTripped, .stopTest]) := by
  have hreleased : s.planTold q.id n .released = (s.withCp { s.cp with guardT := some s.cfg.tGRD }).finishPlan q := by
    unfold State.planTold
    rw [State.plan_of_singleton hplans]
    simp [hbooking, hstate, State.planReleased]
  obtain ⟨pd, ss, hss, hleft⟩ := (s.withCp { s.cp with guardT := some s.cfg.tGRD }).lastLeaves q
    (q.record q.ending.1 q.ending.2) (State.ids_of_singleton hplans) hlog
  exact ⟨pd, ss, hss, hreleased.trans hleft⟩

/-- The ENDING plan leaves, and STOPPING is tested again. -/
theorem State.EndsNow.drain {s : State} {q : Plan} {n k : Nat} (h : s.EndsNow q n) (hlog : s.sp.airLog.length < 32) :
    ∃ pd ss guard cmStopped, ss.arm = s.ss.arm ∧ Machine.drain (k + 6) s = Machine.drain k
      (((((s.withPd pd).withSp { s.sp with
        airLog := s.sp.airLog ++ [q.record q.ending.1 q.ending.2], cmStopped := cmStopped }).withCp
        { s.cp with plans := [], guardT := guard }).withSs ss).withReports
        [.permitTest, .restartTest, .stopTest, .planLeft, .contCheck, .leaveTripped, .stopTest]) := by
  have hending : ∀ p ∈ s.cp.plans, p.state = .ending := by
    rw [h.plans]
    simpa using h.state
  have hstop : ∀ l, deliver .stopTest (s.withReports l) = (s.withReports l).withSp
      { s.sp with cmStopped := s.sp.cmStopped || (s.cm.own.isEmpty && s.cm.owedRel.isEmpty) } := fun l =>
    State.stopTest_planned (s.withReports l) h.stopping h.waiting (by
      show s.cp.plans ≠ []
      rw [h.plans]
      exact List.cons_ne_nil _ _)
  generalize (s.sp.cmStopped || (s.cm.own.isEmpty && s.cm.owedRel.isEmpty)) = cmStopped at hstop
  have hrun : Machine.drain (k + 6) s = Machine.drain k (deliver (.told (.plan q.id) n .released)
      ((s.withReports [.permitTest, .restartTest, .stopTest]).withSp { s.sp with cmStopped := cmStopped })) := by
    refine (drain_skip [.contCheck, .leaveTripped, .permitTest, .restartTest] (k + 6) s _ h.reports (by simp)
      fun r hr rest => deliver_ending (s := s.withReports rest) hending (.inl h.idle) hr).trans ?_
    refine (drain_cons (k + 1) _ .stopTest _ rfl).trans ?_
    exact (congrArg (Machine.drain (k + 1)) (hstop _)).trans (drain_cons k _ _ _ rfl)
  obtain ⟨pd, ss, hss, hleft⟩ := State.told_released
    ((s.withReports [.permitTest, .restartTest, .stopTest]).withSp { s.sp with cmStopped := cmStopped })
    (n := n) h.plans h.state h.booking hlog
  exact ⟨pd, ss, some s.cfg.tGRD, cmStopped, hss, hrun.trans (congrArg (Machine.drain k) hleft)⟩

/-- With RF off the one plan, current, goes to ENDING and its booking at once (R68, R153, R157). -/
theorem State.planStop_released (s : State) {p : Plan} {b : OwnBooking} (hplans : s.cp.plans = [p]) (hown : s.cm.own = [b])
    (hbooking : p.booking = some b.desc.num) (hreq : b.req = .plan p.id) (hcurrent : p.state.current = true)
    (hstate : p.state ≠ .ending) (hcommitted : b.state.committed = true) (hpending : s.pendingIntent = none)
    (hphase : s.sp.phase = .stopping) (hidle : s.ts.state = .idle) (hrfs : s.pins.rfs = false)
    (hroom : s.hlc.queue.length + s.hlc.slots.length < 16) (c : AirCause) : s.planStop c =
      ((((s.withCp { s.cp with plans := [p.aborted s.now c], owedMoves := [] }).withRl
        { s.rl with request := none }).withCm { s.cm with own := [] }).withHlc
        { s.hlc with queue := enqueue s.hlc.queue (.release b.desc.num) }).withReports
        (s.reports ++ [.contCheck, .leaveTripped, .permitTest, .restartTest, .stopTest,
          .told (.plan p.id) b.desc.num .released, .permitTest, .restartTest]) := by
  rw [s.planStop_current hplans hcurrent, s.enterEnding_alone hplans hown hbooking hreq hstate hcommitted hpending
    (ts := s.ts) fun cp => State.rampDown_idle (s := s.withCp cp) hidle]
  generalize hx : State.withReports _ _ = x
  have hown' : x.cm.own = [b.ended] := by rw [← hx]; rfl
  have hheld : x.rfHeld = false := by
    rw [← hx]
    simp [State.rfHeld, hidle, hrfs]
  rw [State.releaseTest_alone x hown' hheld, State.endOwn_alone x hown' (by simp [OwnBooking.ended])
    (by rw [← hx]; exact hphase) (by rw [← hx]; exact hroom), ← hx]
  show State.withReports _ (s.reports ++ [.contCheck, .leaveTripped] ++ [.permitTest, .restartTest] ++ [.stopTest] ++
    [.told b.req b.desc.num .released, .permitTest, .restartTest]) = _
  rw [hreq]
  simp only [List.append_assoc, List.cons_append, List.nil_append]
  rfl

/-- The record of a plan that STOPPING has ended. -/
theorem Plan.aborted_record (p : Plan) (now : Nat) (c : AirCause) :
    (p.aborted now c).record (p.aborted now c).ending.1 (p.aborted now c).ending.2
      = (p.closeLost now).record .aborted (some c) := rfl

/-- STOP and RESTART with the one plan current and RF off. -/
theorem State.left_current (s : State) {p : Plan} {b : OwnBooking} (c : AirCause)
    (hphase : s.sp.phase = .stopping) (hfresh : s.sp.cpStopped = false)
    (hex : s.ed.exercise = none) (hpending : s.pendingIntent = none)
    (hplans : s.cp.plans = [p]) (hown : s.cm.own = [b]) (hbooking : p.booking = some b.desc.num)
    (hreq : b.req = .plan p.id) (howed : s.cm.owedRel = []) (harm : s.ss.arm = none) (hcurrent : p.state.current = true)
    (hstate : p.state ≠ .ending) (hcommitted : b.state.committed = true) (hlog : s.sp.airLog.length < 32)
    (hroom : s.hlc.queue.length + s.hlc.slots.length < 16) (hreports : s.reports = []) (hidle : s.ts.state = .idle)
    (hrfs : s.pins.rfs = false) :
    s.LeftBehind s.sp.restartMark b.desc.num ((p.closeLost s.now).record .aborted (some c))
      (Machine.drain reportFuel ((s.planStop c).cmStop.cancelPick.report [.stopTest]).readyOk) := by
  rw [s.planStop_released hplans hown hbooking hreq hcurrent hstate hcommitted hpending hphase hidle hrfs hroom]
  generalize hx : State.withReports _ _ = x
  have hempty : x.cm.own = [] := by rw [← hx]; rfl
  have hnone : x.pendingIntent = none := by
    rw [← hx]
    exact hpending
  rw [State.cmStop_none (by rw [hempty]; exact fun _ hb => absurd hb List.not_mem_nil), State.cancelPick_none hnone, ← hx]
  generalize hy : State.readyOk _ = y
  have hends : y.EndsNow (p.aborted s.now c) b.desc.num := by
    rw [← hy]
    exact {
      stopping := hphase, waiting := hfresh, plans := rfl, state := rfl, own := rfl
      booking := (p.aborted_booking s.now c).trans hbooking
      idle := hidle
      reports := by
        show (s.reports ++ _) ++ [Report.stopTest] = _
        rw [hreports, p.aborted_id]
        rfl }
  obtain ⟨pd, ss, guard, cmStopped, hss, hdrain⟩ := hends.drain (k := 99994) (by rw [← hy]; exact hlog)
  rw [show reportFuel = 99994 + 6 from rfl, hdrain, Plan.aborted_record]
  refine State.Left.drain (u := State.withReports _ _) ?_ hidle rfl ?_ ?_
  · rw [← hy] at hss ⊢
    exact {
      free := ⟨hphase, rfl, rfl, howed, hex, fun _ => hss.trans harm⟩
      mark := rfl, resp := rfl, response := rfl, airLog := rfl, queue := rfl
      ts := by simp [State.readyOk]
      cfg := by simp [State.readyOk] }
  · simp
  · show 14 ≤ 99994
    decide

end Sys2Proof.Machine
end

section
/-! SUPPORT. STOP and RESTART, case by case (R190, R191). -/

namespace Sys2Proof.Machine

-- Each pending proof holds a stack of its own: they are checked one after the other.
set_option Elab.async false

open Sys2Proof

/-! ## RF on -/

/-- With RF on its way or on the air the one plan is ENDING and its booking waits for RF-off (R68, R153, R163). -/
theorem State.planStop_down (s : State) {p : Plan} {b : OwnBooking} (hplans : s.cp.plans = [p]) (hown : s.cm.own = [b])
    (hbooking : p.booking = some b.desc.num) (hreq : b.req = .plan p.id) (hcurrent : p.state.current = true)
    (hstate : p.state ≠ .ending) (hcommitted : b.state.committed = true) (hpending : s.pendingIntent = none)
    (hdriven : SeqState.driven s.ts.state) (c : AirCause) : s.planStop c =
      ((((s.withCp { s.cp with plans := [p.aborted s.now c], owedMoves := [] }).withTs
        (s.ts.goneDown (s.cfg.tDWN + s.cfg.tGRC))).withRl { s.rl with request := none }).withCm
        { s.cm with own := [b.ended] }).withReports
        (s.reports ++ [.contCheck, .leaveTripped] ++ [.permitTest, .restartTest]) := by
  rw [s.planStop_current hplans hcurrent, s.enterEnding_alone hplans hown hbooking hreq hstate hcommitted hpending
    (ts := s.ts.goneDown (s.cfg.tDWN + s.cfg.tGRC)) fun cp => State.rampDown_driven (s.withCp cp) hdriven]
  exact State.releaseTest_down _ rfl

/-- A plan and a booking hold STOPPING up. -/
theorem State.stopTest_busy (s : State) (hphase : s.sp.phase = .stopping) (hcp : s.sp.cpStopped = false)
    (hcm : s.sp.cmStopped = false) (hplans : s.cp.plans ≠ []) (hown : s.cm.own ≠ []) : s.stopTest = s := by
  rw [s.stopTest_planned hphase hcp hplans, hcm, show s.cm.own.isEmpty = false by simpa using hown]
  show s.withSp { s.sp with cmStopped := false } = s
  rw [← hcm]
  rfl

/-- In STOPPING the one plan is ENDING, and its booking waits for RF-off with the sequencer DOWN. -/
structure State.EndsLater (s : State) (q : Plan) (b : OwnBooking) : Prop where
  stopping : s.sp.phase = .stopping
  planner : s.sp.cpStopped = false
  claims : s.sp.cmStopped = false
  plans : s.cp.plans = [q]
  state : q.state = .ending
  own : s.cm.own = [b]
  down : s.ts.state = .down
  reports : s.reports = [.contCheck, .leaveTripped, .permitTest, .restartTest] ++ [.stopTest]

/-- What is reported then comes to nothing. -/
theorem State.EndsLater.drain {s : State} {q : Plan} {b : OwnBooking} (h : s.EndsLater q b) :
    Machine.drain reportFuel s = s.withReports [] := by
  refine drain_inert _ _ _ h.reports (by decide) fun r hr rest => ?_
  rcases List.mem_append.1 hr with hr | hr
  · refine deliver_ending (s := s.withReports rest) (fun p hp => ?_) (.inr h.down) hr
    rw [List.mem_singleton.1 (show p ∈ [q] from h.plans ▸ hp)]
    exact h.state
  · rw [List.mem_singleton.1 hr]
    exact State.stopTest_busy (s.withReports rest) h.stopping h.planner h.claims
      (fun e => nomatch h.plans.symm.trans e) (fun e => nomatch h.own.symm.trans e)

/-- The entry to STOPPING with the one plan on the air or on its way there. -/
theorem drain_planStop_down (s : State) {p : Plan} {b : OwnBooking} (c : AirCause)
    (hphase : s.sp.phase = .stopping) (hcp : s.sp.cpStopped = false) (hcm : s.sp.cmStopped = false)
    (hplans : s.cp.plans = [p]) (hown : s.cm.own = [b])
    (hbooking : p.booking = some b.desc.num) (hreq : b.req = .plan p.id) (hcurrent : p.state.current = true)
    (hstate : p.state ≠ .ending) (hcommitted : b.state.committed = true) (hpending : s.pendingIntent = none)
    (hdriven : SeqState.driven s.ts.state) (hreports : s.reports = []) :
    drain reportFuel ((s.planStop c).cmStop.cancelPick.report [.stopTest]).readyOk =
      ((((s.readyOk.withCp { s.cp with plans := [p.aborted s.now c], owedMoves := [] }).withTs
        (s.ts.goneDown (s.cfg.tDWN + s.cfg.tGRC))).withRl { s.rl with request := none }).withCm
        { s.cm with own := [b.ended] }).withReports [] := by
  rw [s.planStop_down hplans hown hbooking hreq hcurrent hstate hcommitted hpending hdriven]
  generalize hx : State.withReports _ (_ ++ [.permitTest, .restartTest]) = x
  have hended : x.cm.own = [b.ended] := by rw [← hx]; rfl
  have hrl : x.rl = { s.rl with request := none } := by rw [← hx]; rfl
  have hnone : x.pendingIntent = none :=
    (congrArg (fun r : RampLog => r.intents.find? Intent.isPending) hrl).trans hpending
  rw [State.cmStop_none (by
      rw [hended]
      intro y hy
      rw [List.mem_singleton.1 hy]
      rfl), State.cancelPick_none hnone, hrl, ← hx]
  refine State.EndsLater.drain (q := p.aborted s.now c) (b := b.ended) ?_ |>.trans rfl
  exact {
    stopping := hphase, planner := hcp, claims := hcm, plans := rfl, state := rfl, own := rfl, down := rfl
    reports := by
      show (s.reports ++ _ ++ _) ++ [Report.stopTest] = _
      rw [hreports]
      rfl }

/-! ## Clause by clause -/

/-- STOP in JOINING. -/
theorem serves_stop_joining (s : State) (extra : List Byte) (hresp : s.sp.resp = .empty) (hex : s.ed.exercise = none)
    (hphase : s.sp.phase = .joining) :
    Serves (.stop (hostWindow [] extra)) s (s.stopAsked false extra).enterHalted.readyOk := by
  refine serves_of_effect (code := 26) (payload := []) (extra := extra) rfl hresp rfl rfl (by decide)
    (by rw [hphase]; rfl) (a := (s.stopAsked false extra).enterHalted.answer .ok) ?_ ?_
  · show State.doStop (s.stopAsked false extra) = _
    unfold State.doStop
    rw [show (s.stopAsked false extra).phase = .joining from hphase]
  · show (s.stopAsked false extra).enterHalted.reports = []
    rw [State.enterHalted_eq (s.stopAsked false extra) hex]
    rfl

/-- RESTART in HALTED and LINK-FAULT. -/
theorem serves_restart (s : State) (extra : List Byte) (hresp : s.sp.resp = .empty) (hplans : s.cp.plans = [])
    (harm : s.ss.arm = none) (hphase : s.sp.phase = .halted ∨ s.sp.phase = .linkFault) :
    ∃ t, (s.stopAsked true extra).Restarts t ∧ Serves (.restart (hostWindow [] extra)) s t.readyOk := by
  have hdone := State.restarts_restartJoining (s.stopAsked true extra) hplans harm
  refine ⟨_, hdone, ?_⟩
  refine serves_of_effect (code := 27) (payload := []) (extra := extra) rfl hresp rfl rfl (by decide)
    (by rcases hphase with h | h <;> rw [h] <;> rfl) (a := (s.stopAsked true extra).restartJoining.answer .ok) ?_ ?_
  · show State.doRestart (s.stopAsked true extra) = _
    unfold State.doRestart
    rcases hphase with h | h
    · rw [show (s.stopAsked true extra).phase = .halted from h]
    · rw [show (s.stopAsked true extra).phase = .linkFault from h]
  · obtain ⟨⟨_, _, _, _, _, -, heq⟩, -⟩ := hdone
    show (s.stopAsked true extra).restartJoining.reports = []
    rw [heq]
    rfl

/-- STOP and RESTART in RUNNING with nothing held. -/
theorem serves_stopping_free (s : State) (extra : List Byte) (restart : Bool) (hresp : s.sp.resp = .empty)
    (hex : s.ed.exercise = none) (hplans : s.cp.plans = []) (hphase : s.sp.phase = .running) (hown : s.cm.own = [])
    (howed : s.cm.owedRel = []) (harm : restart = true → s.ss.arm = none) :
    ∃ u t : State, u.sp = ((s.stopAsked restart extra).stopping restart).readyOk.sp ∧ u.tb = s.tb ∧ u.cfg = s.cfg ∧ u.Completes t
      ∧ Serves (if restart then Instr.restart (hostWindow [] extra) else .stop (hostWindow [] extra)) s t := by
  have hserves := serves_stopping s extra restart hresp hphase
  rw [State.enterStopping_eq, State.planStop_none (s := (s.stopAsked restart extra).stopping restart) hplans,
    State.cmStop_none (s := (s.stopAsked restart extra).stopping restart)
      (by show ∀ b ∈ s.cm.own, _
          rw [hown]
          exact fun _ hb => absurd hb List.not_mem_nil)] at hserves
  obtain ⟨g, l, r, -, hpick⟩ := ((s.stopAsked restart extra).stopping restart).cancelPick_other
  rw [hpick] at hserves
  generalize hu : State.readyOk _ = u at hserves
  have hfree : u.StopsFree := by
    rw [← hu]
    exact {
      stopping := rfl, own := hown, released := howed, exercise := hex, arm := harm
      plans := by
        show s.cp.plans.map g = []
        rw [hplans]
        rfl }
  obtain ⟨t, hdone, hdrain⟩ := drain_stopTest (n := 99999) hfree (by rw [← hu]; rfl)
  rw [show reportFuel = 99999 + 1 from rfl, hdrain] at hserves
  refine ⟨_, t, ?_, ?_, ?_, hdone, hserves⟩
  · rw [← hu]
    rfl
  · rw [← hu]
    simp [State.readyOk, State.stopping, State.stopAsked, State.windowed]
  · rw [← hu]
    simp [State.readyOk, State.stopping, State.stopAsked, State.windowed]

end Sys2Proof.Machine
end

section
/-! SUPPORT. What STOP and RESTART do, gathered for R190 and R191. -/

namespace Sys2Proof.Machine

-- Each pending proof holds a stack of its own: they are checked one after the other.
set_option Elab.async false

open Sys2Proof

/-- STOPPING completes after STOP in HALTED. -/
theorem State.Completes.halted {s t : State} (h : s.Completes t) (hmark : s.sp.restartMark = false) :
    t.sp = { s.sp with phase := .halted, restartMark := false, cpStopped := false, cmStopped := false }
      ∧ t.hlc.beaconT = none ∧ t.tb = s.tb := by
  obtain ⟨hon, -⟩ | ⟨-, rfl⟩ := h
  · exact nomatch hmark.symm.trans hon
  · exact ⟨rfl, rfl, rfl⟩

/-- STOPPING completes after RESTART in JOINING. -/
theorem State.Completes.joining {s t : State} (h : s.Completes t) (hmark : s.sp.restartMark = true) :
    t.sp = { s.sp with phase := .joining, restartMark := false, cpStopped := false, cmStopped := false }
      ∧ t.hlc.joiningT = some (2 * s.cfg.tBCN) := by
  obtain ⟨-, ⟨_, _, _, _, _, -, rfl⟩, -⟩ | ⟨hoff, -⟩ := h
  · exact ⟨rfl, rfl⟩
  · exact nomatch hoff.symm.trans hmark

/-- A station in RUNNING whose one plan has the one booking, with no pick pending and no other RELEASE owed. -/
structure State.OnePlan (s : State) (p : Plan) (b : OwnBooking) : Prop where
  exercise : s.ed.exercise = none
  pick : s.pendingIntent = none
  plans : s.cp.plans = [p]
  own : s.cm.own = [b]
  booking : p.booking = some b.desc.num
  req : b.req = .plan p.id
  released : s.cm.owedRel = []
  arm : s.ss.arm = none

/-- The window of a STOP or RESTART and the entry to STOPPING keep the plan and the booking. -/
theorem State.OnePlan.stopping {s : State} {p : Plan} {b : OwnBooking} (h : s.OnePlan p b) (restart : Bool)
    (extra : List Byte) : ((s.stopAsked restart extra).stopping restart).OnePlan p b :=
  ⟨h.exercise, (State.pendingIntent_of_rl (t := (s.stopAsked restart extra).stopping restart) rfl).trans h.pick, h.plans,
    h.own, h.booking, h.req, h.released, h.arm⟩

/-- The plan waits: it is dropped. -/
theorem State.OnePlan.leftWaiting {s : State} {p : Plan} {b : OwnBooking} (h : s.OnePlan p b) (restart : Bool)
    (extra : List Byte) (hwaits : p.state.waiting = true)
    (hstate : b.state = .booked ∨ (b.state = .tentative ∧ b.sent = true)) (hidle : s.ts.state = .idle)
    (hlog : s.sp.airLog.length < 32) (hroom : s.hlc.queue.length + s.hlc.slots.length < 16) :
    ((s.stopAsked restart extra).stopping restart).LeftBehind restart b.desc.num
      (p.record .aborted (some (stopCause restart)))
      (drain reportFuel ((s.stopAsked restart extra).enterStopping restart).readyOk) := by
  obtain ⟨hex, hpick, hplans, hown, hbooking, hreq, howed, harm⟩ := h.stopping restart extra
  exact State.left_waiting ((s.stopAsked restart extra).stopping restart) restart rfl hex hpick hplans hown hbooking hreq
    howed harm hwaits hstate hlog hroom rfl hidle

/-- The plan is current with RF off: it takes its record at once. -/
theorem State.OnePlan.leftCurrent {s : State} {p : Plan} {b : OwnBooking} (h : s.OnePlan p b) (restart : Bool)
    (extra : List Byte) (hcurrent : p.state.current = true) (hstate : p.state ≠ .ending)
    (hcommitted : b.state.committed = true) (hidle : s.ts.state = .idle) (hrfs : s.pins.rfs = false)
    (hlog : s.sp.airLog.length < 32) (hroom : s.hlc.queue.length + s.hlc.slots.length < 16) :
    ((s.stopAsked restart extra).stopping restart).LeftBehind restart b.desc.num
      ((p.closeLost s.now).record .aborted (some (stopCause restart)))
      (drain reportFuel ((s.stopAsked restart extra).enterStopping restart).readyOk) := by
  obtain ⟨hex, hpick, hplans, hown, hbooking, hreq, howed, harm⟩ := h.stopping restart extra
  exact State.left_current ((s.stopAsked restart extra).stopping restart) (stopCause restart) rfl rfl hex hpick hplans hown
    hbooking hreq howed harm hcurrent hstate hcommitted hlog hroom rfl hidle hrfs

/-- The plan is current with RF on its way or on the air: it goes to ENDING. -/
theorem State.OnePlan.endsLater {s : State} {p : Plan} {b : OwnBooking} (h : s.OnePlan p b) (restart : Bool)
    (extra : List Byte) (hcurrent : p.state.current = true) (hstate : p.state ≠ .ending)
    (hcommitted : b.state.committed = true) (hdriven : SeqState.driven s.ts.state) :
    drain reportFuel ((s.stopAsked restart extra).enterStopping restart).readyOk =
      (((((((s.stopAsked restart extra).stopping restart).readyOk).withCp
        { s.cp with plans := [p.aborted s.now (stopCause restart)], owedMoves := [] }).withTs
        (s.ts.goneDown (s.cfg.tDWN + s.cfg.tGRC))).withRl { s.rl with request := none }).withCm
        { s.cm with own := [b.ended] }).withReports [] := by
  obtain ⟨hex, hpick, hplans, hown, hbooking, hreq, howed, harm⟩ := h.stopping restart extra
  exact drain_planStop_down ((s.stopAsked restart extra).stopping restart) (stopCause restart) rfl rfl rfl hplans hown
    hbooking hreq hcurrent hstate hcommitted hpick hdriven rfl

end Sys2Proof.Machine
end

section
open Sys2Proof Sys2Proof.Machine

/-- Settles O58: with nothing held STOPPING completes at its test (`serves_stopping_free`), a held booking keeps it open
(`State.holds_enterStopping`), and the one plan and its booking leave together or wait for RF-off (`State.OnePlan`). -/
theorem stopHaltsAndRestartJoins : Obligations.StopHaltsAndRestartJoins := by
  refine ⟨?_, ?_⟩
  · intro s extra hresp hex hplans hnodup win ok held
    refine ⟨fun hphase => ?_, fun hphase hown howed => ⟨?_, fun harm => ?_⟩, fun hphase hheld => ?_, fun hphase harm => ?_⟩
    · refine ⟨_, serves_stop_joining s extra hresp hex hphase, ?_⟩
      rw [State.enterHalted_eq (s.stopAsked false extra) hex]
      exact ⟨⟨rfl, rfl⟩, rfl, rfl, rfl, rfl, rfl, rfl, rfl, rfl, rfl⟩
    · obtain ⟨u, t, hsp, htb, hcfg, hdone, hserves⟩ :=
        serves_stopping_free s extra false hresp hex hplans hphase hown howed nofun
      obtain ⟨hport, hbeacon, htime⟩ := hdone.halted (congrArg Port.restartMark hsp)
      rw [hsp] at hport
      exact ⟨t, hserves, ⟨congrArg Port.resp hport, congrArg Port.response hport⟩, congrArg Port.phase hport, hbeacon,
        htime.trans htb⟩
    · obtain ⟨u, t, hsp, htb, hcfg, hdone, hserves⟩ :=
        serves_stopping_free s extra true hresp hex hplans hphase hown howed fun _ => harm
      obtain ⟨hport, htimer⟩ := hdone.joining (congrArg Port.restartMark hsp)
      rw [hsp] at hport
      rw [hcfg] at htimer
      exact ⟨t, hserves, ⟨congrArg Port.resp hport, congrArg Port.response hport⟩, congrArg Port.phase hport, htimer⟩
    · obtain ⟨-, hidle, b, hb, hending, -⟩ := hheld
      have hholds : ∀ restart, ∃ t, Serves (if restart then Instr.restart win else .stop win) s t
          ∧ ok t ∧ t.sp.phase = .stopping ∧ t.sp.restartMark = restart := fun restart => by
        have h := (State.holds_enterStopping (s.stopAsked restart extra) restart hb (by rw [hending]; rfl) hnodup hplans
          hidle rfl).drain reportFuel
        exact ⟨_, serves_stopping s extra restart hresp hphase, ⟨h.resp, h.response⟩, h.phase, h.mark⟩
      exact ⟨hholds false, hholds true⟩
    · obtain ⟨t, ⟨⟨ts, q, l, bt, ed, hts, rfl⟩, hidle⟩, hserves⟩ := serves_restart s extra hresp hplans harm hphase
      have hss : ∀ x : State, x.ss = (s.stopAsked true extra).ss → x.ss = s.ss := fun _ h => h
      refine ⟨_, hserves, ⟨rfl, rfl⟩, rfl, rfl, rfl, rfl, rfl, hss _ (by simp [State.readyOk]), ?_⟩
      exact ⟨rfl, rfl, rfl, rfl, rfl, rfl, rfl, rfl, hts.power,
        hts.trips, hts.errors, hts.sent, hts.lockout, hidle⟩
  · intro s extra restart p b hresp hphase hex hpick hplans hown hbooking hreq howed harm win asked a cause left
    have hone : s.OnePlan p b := ⟨hex, hpick, hplans, hown, hbooking, hreq, howed, harm⟩
    have hserves := serves_stopping s extra restart hresp hphase
    have hleft : ∀ rec, ((s.stopAsked restart extra).stopping restart).LeftBehind restart b.desc.num rec
        (drain reportFuel ((s.stopAsked restart extra).enterStopping restart).readyOk) → left rec := fun rec h =>
      ⟨_, hserves, h.phase, h.mark, h.resp, h.response, h.airLog, h.plans, h.own, h.released, h.sent, h.halted, h.joining⟩
    refine ⟨fun hwaits hstate hidle hlog hroom => ?_, fun hcurrent hstate hcommitted hidle hrfs hlog hroom => ?_,
      fun hcurrent hstate hcommitted hdriven => ?_⟩
    · exact hleft _ (hone.leftWaiting restart extra hwaits hstate hidle hlog hroom)
    · exact hleft _ (hone.leftCurrent restart extra hcurrent hstate hcommitted hidle hrfs hlog hroom)
    · rw [hone.endsLater restart extra hcurrent hstate hcommitted hdriven] at hserves
      cases restart with
      | false => exact hserves
      | true => exact hserves
end

section
/-! SUPPORT. A freed place: the pending frame that takes it, and what a block then offers of what it owes (R24, R42, R81,
R93). -/

namespace Sys2Proof.Machine

-- Each pending proof holds a stack of its own: they are checked one after the other.
set_option Elab.async false

open Sys2Proof

/-! ## The pending frame chosen -/

/-- The frame chosen is one of those pending. -/
theorem mem_of_pickSlot {l rest : List Frame} {f : Frame} (h : pickSlot l = some (f, rest)) : f ∈ l := by
  induction l generalizing f rest with
  | nil => exact nomatch h
  | cons g l ih =>
    simp only [pickSlot] at h
    split at h
    · cases h
      exact List.mem_cons_self ..
    · next x others hx =>
      split at h
      · cases h
        exact List.mem_cons_of_mem g (ih hx)
      · cases h
        exact List.mem_cons_self ..

/-- The pending frame of the lowest priority number is chosen, the first entered of several (R24). -/
theorem pickSlot_first (f : Frame) (rest : List Frame) (hrest : ∀ g ∈ rest, framePriority f ≤ framePriority g) :
    ∀ before : List Frame, (∀ g ∈ before, framePriority f < framePriority g) →
      pickSlot (before ++ f :: rest) = some (f, before ++ rest) := by
  intro before
  induction before with
  | nil =>
    intro _
    show pickSlot (f :: rest) = some (f, rest)
    unfold pickSlot
    split
    · next hnone =>
      cases rest with
      | nil => rfl
      | cons g l =>
        unfold pickSlot at hnone
        split at hnone
        · exact nomatch hnone
        · split at hnone <;> exact nomatch hnone
    · next g others hg => rw [if_neg (Nat.not_lt.2 (hrest g (mem_of_pickSlot hg)))]
  | cons g before ih =>
    intro h
    simp only [List.cons_append, pickSlot, ih fun x hx => h x (List.mem_cons_of_mem g hx),
      if_pos (h g (List.mem_cons_self ..))]

/-! ## Frames offered in turn -/

/-- The link with frames queued in turn. -/
def State.queued (s : State) (l : List Frame) : State := s.withHlc { s.hlc with queue := l.foldl enqueue s.hlc.queue }

/-- With room, in RUNNING, an offer queues the frame (R23). -/
theorem State.offer_running (s : State) (f : Frame) (hphase : s.sp.phase = .running)
    (hroom : s.hlc.queue.length + s.hlc.slots.length < 16) : s.offer f = (s.queued [f], true) := by
  refine s.offer_room f ?_ hroom
  rw [show s.phase = .running from hphase]
  rfl

/-- A frame goes to its block's pending slot. -/
def State.pended (s : State) (f : Frame) : State := s.withHlc { s.hlc with slots := s.hlc.slots ++ [f] }

theorem dropNewestBeacon_none {q : List QFrame} (h : ∀ x ∈ q, isBeacon x.frame = false) : dropNewestBeacon q = none := by
  have hgo : ∀ l : List QFrame, (∀ x ∈ l, isBeacon x.frame = false) → dropNewestBeacon.go l = none := fun l => by
    induction l with
    | nil => exact fun _ => rfl
    | cons x l ih =>
      intro hl
      simp [dropNewestBeacon.go, hl x (List.mem_cons_self ..), ih fun y hy => hl y (List.mem_cons_of_mem x hy)]
  simp [dropNewestBeacon, hgo q.reverse fun x hx => h x (List.mem_reverse.1 hx)]

/-- In RUNNING the queue is full, no BEACON can give way, and a block's pending slot is free. -/
structure State.FullFor (s : State) (b : Block) : Prop where
  phase : s.sp.phase = .running
  full : ¬ s.hlc.queue.length + s.hlc.slots.length < 16
  beacons : ∀ x ∈ s.hlc.queue, isBeacon x.frame = false
  free : ∀ g ∈ s.hlc.slots, frameBlock g ≠ b

/-- A full queue puts the frame offered into its block's pending slot (R24). -/
theorem State.FullFor.offer {s : State} {f : Frame} (h : s.FullFor (frameBlock f)) (hf : isBeacon f = false) :
    s.offer f = (s.pended f, true) := by
  have hphase : offerPermitted s.phase f = true := by
    rw [show s.phase = .running from h.phase]
    rfl
  have hslot : s.hlc.slotTaken f = false := by
    simpa [Link.slotTaken] using h.free
  rcases s.hlc.offer_full f h.full hf with ⟨htaken, -⟩ | ⟨-, q, hq, -⟩ | ⟨-, -, hoffer⟩
  · exact nomatch hslot.symm.trans htaken
  · exact nomatch (dropNewestBeacon_none h.beacons).symm.trans hq
  · unfold State.offer
    rw [if_pos hphase, hoffer]
    rfl

/-- With the pending slot taken too the offer is refused (R24). -/
theorem State.offer_refused (s : State) {f g : Frame} (hfull : ¬ s.hlc.queue.length + s.hlc.slots.length < 16)
    (hg : g ∈ s.hlc.slots) (hblock : frameBlock g = frameBlock f) (hf : isBeacon f = false) : s.offer f = (s, false) := by
  have htaken : s.hlc.slotTaken f = true := by
    simpa [Link.slotTaken] using ⟨g, hg, hblock⟩
  have hnone : s.hlc.offer f = none := by
    rcases s.hlc.offer_full f hfull hf with ⟨-, h⟩ | ⟨hfree, -⟩ | ⟨hfree, -⟩
    · exact h
    · exact nomatch hfree.symm.trans htaken
    · exact nomatch hfree.symm.trans htaken
  unfold State.offer
  rw [hnone]
  split <;> rfl

/-! ## Lists of owed frames (R42, R81, R93) -/

/-- A block's list of owed frames, outside the link and the port. -/
structure Owed (α : Type) where
  list : State → List α
  put : State → List α → State
  frame : α → Frame
  list_put : ∀ s l, list (put s l) = l
  put_list : ∀ s, put s (list s) = s
  put_put : ∀ s l l', put (put s l) l' = put s l'
  list_hlc : ∀ s h, list (s.withHlc h) = list s
  put_hlc : ∀ s h l, put (s.withHlc h) l = (put s l).withHlc h
  hlc_put : ∀ s l, (put s l).hlc = s.hlc
  sp_put : ∀ s l, (put s l).sp = s.sp

/-- The frames owed are offered, the oldest first, at most `k` and until one is refused; whether none was. -/
def Owed.offers {α : Type} (o : Owed α) : Nat → State → State × Bool
  | 0, s => (s, true)
  | k + 1, s =>
    match o.list s with
    | [] => (s, true)
    | x :: rest =>
      if (s.offer (o.frame x)).2 then o.offers k (o.put (s.offer (o.frame x)).1 rest) else (s, false)

/-- With nothing owed nothing is offered. -/
theorem Owed.offers_nil {α : Type} (o : Owed α) (k : Nat) {s : State} (h : o.list s = []) : o.offers k s = (s, true) := by
  cases k with
  | zero => rfl
  | succ k =>
    unfold Owed.offers
    rw [h]

theorem Owed.offers_cons {α : Type} (o : Owed α) (k : Nat) {s : State} {x : α} {rest : List α} (h : o.list s = x :: rest) :
    o.offers (k + 1) s =
      if (s.offer (o.frame x)).2 then o.offers k (o.put (s.offer (o.frame x)).1 rest) else (s, false) := by
  conv => lhs; unfold Owed.offers
  rw [h]

/-- With room for all, every frame owed is queued. -/
theorem Owed.offers_room {α : Type} (o : Owed α) (k : Nat) : ∀ s : State, s.sp.phase = .running →
    (o.list s).length ≤ k → s.hlc.queue.length + s.hlc.slots.length + (o.list s).length ≤ 16 →
    o.offers k s = (o.put (s.queued ((o.list s).map o.frame)) [], true) := by
  induction k with
  | zero =>
    intro s _ hlen _
    have hnil : o.list s = [] := List.eq_nil_of_length_eq_zero (Nat.le_zero.1 hlen)
    rw [o.offers_nil 0 hnil, hnil]
    have hput := o.put_list s
    rw [hnil] at hput
    exact congrArg (·, true) hput.symm
  | succ k ih =>
    intro s hphase hlen hroom
    cases hl : o.list s with
    | nil =>
      have hput := o.put_list s
      rw [hl] at hput
      rw [o.offers_nil _ hl]
      exact congrArg (·, true) hput.symm
    | cons x rest =>
      rw [hl, List.length_cons] at hlen hroom
      have hoffer := s.offer_running (o.frame x) hphase (by omega)
      have hnext : o.offers (k + 1) s = o.offers k (o.put (s.queued [o.frame x]) rest) := by
        rw [o.offers_cons k hl, hoffer]
        rfl
      have hlink : (o.put (s.queued [o.frame x]) rest).hlc = (s.queued [o.frame x]).hlc := o.hlc_put _ _
      have hqueue : (s.queued [o.frame x]).hlc.queue.length = s.hlc.queue.length + 1 := length_enqueue _ _
      rw [hnext, ih (o.put (s.queued [o.frame x]) rest) (by rw [o.sp_put]; exact hphase) (by rw [o.list_put]; omega)
        (by
          rw [o.list_put, hlink, hqueue]
          show _ + s.hlc.slots.length + _ ≤ 16
          omega)]
      refine congrArg (·, true) ?_
      unfold State.queued at hlink ⊢
      rw [o.list_put, o.put_hlc, o.put_put, hlink, o.put_hlc, o.put_hlc]
      rfl

/-- With one pending slot and no place the first frame owed takes the slot, and the next is refused and stays owed. -/
theorem Owed.offers_full {α : Type} (o : Owed α) (k : Nat) {s : State} {b : Block} (h : s.FullFor b)
    (hframe : ∀ x, frameBlock (o.frame x) = b ∧ isBeacon (o.frame x) = false) {x : α} {rest : List α}
    (hl : o.list s = x :: rest) :
    o.offers (k + 2) s = (o.put (s.pended (o.frame x)) rest, rest.isEmpty) := by
  obtain ⟨hblock, hbeacon⟩ := hframe x
  have hoffer := State.FullFor.offer (f := o.frame x) (hblock ▸ h) hbeacon
  have hnext : o.offers (k + 2) s = o.offers (k + 1) (o.put (s.pended (o.frame x)) rest) := by
    rw [o.offers_cons (k + 1) hl, hoffer]
    rfl
  rw [hnext]
  cases rest with
  | nil => exact o.offers_nil _ (o.list_put _ _)
  | cons y more =>
    have hlink : (o.put (s.pended (o.frame x)) (y :: more)).hlc = (s.pended (o.frame x)).hlc := o.hlc_put _ _
    have hrefused := State.offer_refused (o.put (s.pended (o.frame x)) (y :: more)) (f := o.frame y) (g := o.frame x)
      (by
        rw [hlink]
        have := h.full
        simp only [State.pended, State.withHlc_hlc, List.length_append, List.length_singleton]
        omega)
      (by
        rw [hlink]
        exact List.mem_append_right _ (List.mem_singleton_self _))
      (hblock.trans (hframe y).1.symm) (hframe y).2
    rw [o.offers_cons k (o.list_put _ _), hrefused]
    rfl

end Sys2Proof.Machine
end

section
/-! SUPPORT. What each block offers when its pending slot has emptied (R42, R81, R88, R93, R145). -/

namespace Sys2Proof.Machine

-- Each pending proof holds a stack of its own: they are checked one after the other.
set_option Elab.async false

open Sys2Proof

/-! ## The lists of owed frames of the model -/

def owedObjects : Owed (Nat × Nat × Nat) where
  list s := s.cm.owedObj
  put s l := s.withCm { s.cm with owedObj := l }
  frame o := .object o.1 o.2.1 o.2.2
  list_put _ _ := rfl
  put_list _ := rfl
  put_put _ _ _ := rfl
  list_hlc _ _ := rfl
  put_hlc _ _ _ := rfl
  hlc_put _ _ := rfl
  sp_put _ _ := rfl

def owedReleases : Owed Nat where
  list s := s.cm.owedRel
  put s l := s.withCm { s.cm with owedRel := l }
  frame n := .release n
  list_put _ _ := rfl
  put_list _ := rfl
  put_put _ _ _ := rfl
  list_hlc _ _ := rfl
  put_hlc _ _ _ := rfl
  hlc_put _ _ := rfl
  sp_put _ _ := rfl

def owedCancels : Owed Nat where
  list s := s.rl.owedCancel
  put s l := s.withRl { s.rl with owedCancel := l }
  frame n := .rampCancel n
  list_put _ _ := rfl
  put_list _ := rfl
  put_put _ _ _ := rfl
  list_hlc _ _ := rfl
  put_hlc _ _ _ := rfl
  hlc_put _ _ := rfl
  sp_put _ _ := rfl

def owedRefusals : Owed RefusedMove where
  list s := s.ed.refusals
  put s l := s.withEd { s.ed with refusals := l }
  frame r := r.frame
  list_put _ _ := rfl
  put_list _ := rfl
  put_put _ _ _ := rfl
  list_hlc _ _ := rfl
  put_hlc _ _ _ := rfl
  hlc_put _ _ := rfl
  sp_put _ _ := rfl

theorem State.offerOwedObjects_eq (k : Nat) : ∀ s : State, s.offerOwedObjects k = owedObjects.offers k s := by
  induction k with
  | zero => exact fun _ => rfl
  | succ k ih =>
    intro s
    cases hl : s.cm.owedObj with
    | nil =>
      rw [owedObjects.offers_nil (k + 1) hl]
      simp only [State.offerOwedObjects, hl]
    | cons x rest =>
      rw [owedObjects.offers_cons k hl, ← ih]
      simp only [State.offerOwedObjects, hl]
      rfl

theorem State.offerOwedReleases_eq (k : Nat) : ∀ s : State, s.offerOwedReleases k = owedReleases.offers k s := by
  induction k with
  | zero => exact fun _ => rfl
  | succ k ih =>
    intro s
    cases hl : s.cm.owedRel with
    | nil =>
      rw [owedReleases.offers_nil (k + 1) hl]
      simp only [State.offerOwedReleases, hl]
    | cons x rest =>
      rw [owedReleases.offers_cons k hl, ← ih]
      simp only [State.offerOwedReleases, hl]
      rfl

theorem State.offerOwedCancels_eq (k : Nat) : ∀ s : State, s.offerOwedCancels k = (owedCancels.offers k s).1 := by
  induction k with
  | zero => exact fun _ => rfl
  | succ k ih =>
    intro s
    cases hl : s.rl.owedCancel with
    | nil =>
      rw [owedCancels.offers_nil (k + 1) hl]
      simp only [State.offerOwedCancels, hl]
    | cons x rest =>
      rw [owedCancels.offers_cons k hl]
      simp only [State.offerOwedCancels, hl, ih]
      rw [apply_ite Prod.fst]
      rfl

theorem State.offerRefusals_eq (k : Nat) : ∀ s : State, s.offerRefusals k = (owedRefusals.offers k s).1 := by
  induction k with
  | zero => exact fun _ => rfl
  | succ k ih =>
    intro s
    cases hl : s.ed.refusals with
    | nil =>
      rw [owedRefusals.offers_nil (k + 1) hl]
      simp only [State.offerRefusals, hl]
    | cons x rest =>
      rw [owedRefusals.offers_cons k hl]
      simp only [State.offerRefusals, hl, ih]
      rw [apply_ite Prod.fst]
      rfl

/-! ## Queues -/

theorem length_foldl_enqueue (q : List QFrame) (l : List Frame) : (l.foldl enqueue q).length = q.length + l.length := by
  induction l generalizing q with
  | nil => rfl
  | cons f l ih =>
    rw [List.foldl_cons, ih, length_enqueue, List.length_cons]
    omega

theorem State.queued_queued (s : State) (l l' : List Frame) : (s.queued l).queued l' = s.queued (l ++ l') := by
  unfold State.queued
  rw [List.foldl_append]
  rfl

/-! ## The claim map: the owed AIRs (R81) -/

/-- The owed-AIR mark taken away. -/
def OwnBooking.unowed (b : OwnBooking) : OwnBooking := { b with owedAir := false }

/-- The bookings whose AIR is owed and offered. -/
def owedAirs (l : List OwnBooking) : List OwnBooking := l.filter fun b => b.owedAir && b.state == .active

theorem State.ownBooking_split {s : State} {pre rest : List OwnBooking} {b : OwnBooking} (hown : s.cm.own = pre ++ b :: rest)
    (hnodup : (s.cm.own.map fun b => b.desc.num).Nodup) : s.ownBooking b.desc.num = some b := by
  unfold State.ownBooking
  rw [hown] at hnodup ⊢
  rw [List.map_append, List.map_cons] at hnodup
  have hpre : ∀ x ∈ pre, ¬ (x.desc.num == b.desc.num) = true := fun x hx e => by
    have := List.disjoint_of_nodup_append hnodup (List.mem_map_of_mem hx)
    exact this (by rw [eq_of_beq e]; exact List.mem_cons_self ..)
  rw [List.find?_append, List.find?_eq_none.2 hpre]
  simp

/-- The mark of one booking taken away in the own list. -/
theorem State.updOwn_unowed (s : State) {pre rest : List OwnBooking} {b : OwnBooking} (hown : s.cm.own = pre ++ b :: rest)
    (hnodup : (s.cm.own.map fun b => b.desc.num).Nodup) :
    s.updOwn b.desc.num (fun x => { x with owedAir := false }) = s.withCm { s.cm with own := pre ++ b.unowed :: rest } := by
  have hother : ∀ x ∈ pre ++ rest, ¬ x.desc.num = b.desc.num := fun x hx e => by
    rw [hown, List.map_append, List.map_cons, List.nodup_middle, ← List.map_append, List.nodup_cons] at hnodup
    exact hnodup.1 (List.mem_map.2 ⟨x, hx, e⟩)
  have hmap : ∀ l : List OwnBooking, (∀ x ∈ l, ¬ x.desc.num = b.desc.num) →
      (l.map fun x => if x.desc.num = b.desc.num then { x with owedAir := false } else x) = l := fun l hl =>
    (List.map_congr_left fun x hx => if_neg (hl x hx)).trans (List.map_id l)
  simp only [State.updOwn, hown, List.map_append, List.map_cons, if_true,
    hmap pre fun x hx => hother x (List.mem_append_left _ hx), hmap rest fun x hx => hother x (List.mem_append_right _ hx)]
  rfl

/-- With room the AIRs owed are queued in the order of the own list, and no mark is left. -/
theorem State.offerOwedAirs_room (todo : List OwnBooking) : ∀ (s : State) (pre : List OwnBooking),
    s.cm.own = pre ++ todo → (s.cm.own.map fun b => b.desc.num).Nodup → s.sp.phase = .running →
    s.hlc.queue.length + s.hlc.slots.length + (owedAirs todo).length ≤ 16 →
    s.offerOwedAirs (todo.map fun b => b.desc.num) =
      ((s.queued ((owedAirs todo).map fun b => .air b.desc.num)).withCm
        { s.cm with own := pre ++ todo.map OwnBooking.unowed }, true) := by
  induction todo with
  | nil =>
    intro s pre hown _ _ _
    show (s, true) = _
    rw [List.map_nil, ← hown]
    rfl
  | cons b todo ih =>
    intro s pre hown hnodup hphase hroom
    have hfind := State.ownBooking_split hown hnodup
    have hupd := s.updOwn_unowed hown hnodup
    -- the rest of the list is offered from a state in which the mark of `b` is away
    have hrest : ∀ (q : List QFrame), q.length + s.hlc.slots.length + (owedAirs todo).length ≤ 16 →
        ((s.withHlc { s.hlc with queue := q }).withCm { s.cm with own := pre ++ b.unowed :: todo }).offerOwedAirs
          (todo.map fun b => b.desc.num) =
        (((s.withHlc { s.hlc with queue := q }).queued ((owedAirs todo).map fun b => .air b.desc.num)).withCm
          { s.cm with own := pre ++ (b :: todo).map OwnBooking.unowed }, true) := fun q hq => by
      have hnums : ((pre ++ b.unowed :: todo).map fun b => b.desc.num) = s.cm.own.map fun b => b.desc.num := by
        rw [hown]
        simp [OwnBooking.unowed]
      have := ih ((s.withHlc { s.hlc with queue := q }).withCm { s.cm with own := pre ++ b.unowed :: todo })
        (pre ++ [b.unowed]) (by simp) (hnums ▸ hnodup) hphase hq
      rw [List.append_assoc] at this
      exact this
    rw [List.map_cons]
    unfold State.offerOwedAirs
    rw [hfind]
    simp only
    cases howed : b.owedAir with
    | false =>
      have hsame : b.unowed = b := by
        unfold OwnBooking.unowed
        rw [← howed]
      have hairs : owedAirs (b :: todo) = owedAirs todo := List.filter_cons_of_neg (by simp [howed])
      have hs : (s.withHlc { s.hlc with queue := s.hlc.queue }).withCm { s.cm with own := pre ++ b.unowed :: todo } = s := by
        rw [hsame, ← hown]
        rfl
      have h := hrest s.hlc.queue (hairs ▸ hroom)
      rw [hs] at h
      rw [hairs]
      exact h
    | true =>
      by_cases hactive : b.state = .active
      · have hairs : owedAirs (b :: todo) = b :: owedAirs todo := List.filter_cons_of_pos (by simp [howed, hactive])
        rw [hairs, List.length_cons] at hroom
        have hqueue : (enqueue s.hlc.queue (.air b.desc.num)).length = s.hlc.queue.length + 1 := length_enqueue _ _
        have h := hrest (enqueue s.hlc.queue (.air b.desc.num)) (by omega)
        rw [if_neg (by decide), if_pos hactive, s.offer_running _ hphase (by omega), hairs, if_pos rfl,
          State.updOwn_unowed (s.queued [.air b.desc.num]) hown hnodup]
        exact h
      · have hairs : owedAirs (b :: todo) = owedAirs todo := List.filter_cons_of_neg (by simp [hactive])
        rw [if_neg (by decide), if_neg hactive, hupd, hairs]
        exact hrest s.hlc.queue (hairs ▸ hroom)

/-- Where no AIR is owed none is offered. -/
theorem State.offerOwedAirs_none {s : State} (h : ∀ b ∈ s.cm.own, b.owedAir = false) (l : List Nat) :
    s.offerOwedAirs l = (s, true) := by
  induction l with
  | nil => rfl
  | cons n l ih =>
    unfold State.offerOwedAirs
    split
    · next b hb =>
      rw [h b (List.mem_of_find?_eq_some hb), ih]
      rfl
    · exact ih

/-- With room CM's owed AIRs are queued, where no booking number stands twice or no AIR is owed. -/
theorem State.offerOwedAirs_all (s : State)
    (hown : (s.cm.own.map fun b => b.desc.num).Nodup ∨ (∀ b ∈ s.cm.own, b.owedAir = false))
    (hphase : s.sp.phase = .running)
    (hroom : s.hlc.queue.length + s.hlc.slots.length + (owedAirs s.cm.own).length ≤ 16) :
    s.offerOwedAirs (s.cm.own.map fun b => b.desc.num) =
      ((s.queued ((owedAirs s.cm.own).map fun b => .air b.desc.num)).withCm
        { s.cm with own := s.cm.own.map OwnBooking.unowed }, true) := by
  rcases hown with hnodup | hnone
  · exact State.offerOwedAirs_room s.cm.own s [] rfl hnodup hphase hroom
  · have hairs : owedAirs s.cm.own = [] := List.filter_eq_nil_iff.2 fun b hb => by simp [hnone b hb]
    have hsame : s.cm.own.map OwnBooking.unowed = s.cm.own :=
      (List.map_congr_left fun b hb => by
        show b.unowed = b
        unfold OwnBooking.unowed
        rw [← hnone b hb]).trans (List.map_id _)
    rw [State.offerOwedAirs_none hnone, hairs, hsame]
    rfl

/-- With room CM offers all it owes: OBJECTs, AIRs and RELEASEs (R81). -/
theorem State.cmSlotEmptied_room (s : State) (hphase : s.sp.phase = .running) (hobj : s.cm.owedObj.length ≤ 8)
    (hrel : s.cm.owedRel.length ≤ 8)
    (hown : (s.cm.own.map fun b => b.desc.num).Nodup ∨ (∀ b ∈ s.cm.own, b.owedAir = false))
    (hroom : s.hlc.queue.length + s.hlc.slots.length +
      (s.cm.owedObj.length + (owedAirs s.cm.own).length + s.cm.owedRel.length) ≤ 16) :
    s.cmSlotEmptied = ((s.queued (s.cm.owedObj.map owedObjects.frame
        ++ ((owedAirs s.cm.own).map fun b => .air b.desc.num) ++ s.cm.owedRel.map .release)).withCm
      { s.cm with owedObj := [], owedRel := [], own := s.cm.own.map OwnBooking.unowed }).report [.stopTest] := by
  obtain ⟨s1, hs1⟩ : ∃ x, x = (s.queued (s.cm.owedObj.map owedObjects.frame)).withCm { s.cm with owedObj := [] } :=
    ⟨_, rfl⟩
  have hobjects : s.offerOwedObjects 8 = (s1, true) := by
    rw [State.offerOwedObjects_eq, hs1]
    exact owedObjects.offers_room 8 s hphase hobj (by
      show _ + s.cm.owedObj.length ≤ 16
      omega)
  have hq1 : s1.hlc.queue.length = s.hlc.queue.length + s.cm.owedObj.length := by
    rw [hs1]
    exact (length_foldl_enqueue _ _).trans (by rw [List.length_map])
  have hslots1 : s1.hlc.slots = s.hlc.slots := by rw [hs1]; rfl
  have hown1 : s1.cm.own = s.cm.own := by rw [hs1]; rfl
  obtain ⟨s2, hs2⟩ : ∃ x, x = (s1.queued ((owedAirs s.cm.own).map fun b => .air b.desc.num)).withCm
      { s1.cm with own := s.cm.own.map OwnBooking.unowed } := ⟨_, rfl⟩
  have hairs : s1.offerOwedAirs (s1.cm.own.map fun b => b.desc.num) = (s2, true) := by
    have h := s1.offerOwedAirs_all (by rw [hown1]; exact hown) (by rw [hs1]; exact hphase)
      (by rw [hq1, hslots1, hown1]; omega)
    rw [hown1] at h ⊢
    rw [hs2]
    exact h
  have hq2 : s2.hlc.queue.length = s1.hlc.queue.length + (owedAirs s.cm.own).length := by
    rw [hs2]
    exact (length_foldl_enqueue _ _).trans (by rw [List.length_map])
  have hslots2 : s2.hlc.slots = s.hlc.slots := by
    rw [hs2]
    exact hslots1
  have hrels : s2.cm.owedRel = s.cm.owedRel := by rw [hs2, hs1]; rfl
  have hreleases : (s2.offerOwedReleases 8).1 = (s2.queued (s.cm.owedRel.map .release)).withCm
      { s2.cm with owedRel := [] } := by
    have h := owedReleases.offers_room 8 s2 (by rw [hs2, hs1]; exact hphase)
      (show s2.cm.owedRel.length ≤ 8 by rw [hrels]; exact hrel)
      (show _ + s2.cm.owedRel.length ≤ 16 by rw [hq2, hq1, hslots2, hrels]; omega)
    rw [State.offerOwedReleases_eq, h]
    show (s2.queued (s2.cm.owedRel.map Frame.release)).withCm { s2.cm with owedRel := [] } = _
    rw [hrels]
  unfold State.cmSlotEmptied
  rw [show Config.owedListSize = 8 from rfl, hobjects]
  simp only [if_true]
  rw [hairs]
  simp only [if_true]
  rw [hreleases, hs2, hs1, ← State.queued_queued, ← State.queued_queued]
  rfl

end Sys2Proof.Machine
end

section
/-! SUPPORT. What the element drive, the planner and the ramp log offer when their pending slots have emptied (R42, R88,
R93, R145). -/

namespace Sys2Proof.Machine

-- Each pending proof holds a stack of its own: they are checked one after the other.
set_option Elab.async false

open Sys2Proof

/-! ## Values put under a key that is there -/

/-- In a list whose keys rise each entry is found under its key. -/
theorem lookupKey_of_mem {α : Type} {l : List (Nat × α)} (hrise : keysRise l = true) {x : Nat × α} (hx : x ∈ l) :
    lookupKey x.1 l = some x.2 := by
  rw [keysRise_iff] at hrise
  induction l with
  | nil => exact absurd hx List.not_mem_nil
  | cons y l ih =>
    obtain ⟨hy, hl⟩ := List.pairwise_cons.1 hrise
    rcases List.mem_cons.1 hx with rfl | hx
    · exact if_pos rfl
    · exact (if_neg (Nat.ne_of_gt (hy x hx))).trans (ih hl hx)

/-- A value put under a key that is there replaces that entry alone. -/
theorem putKey_present {α : Type} {l : List (Nat × α)} (hrise : keysRise l = true) {k : Nat} {v : α}
    (hk : lookupKey k l = some v) (w : α) : putKey k w l = l.map fun x => if x.1 = k then (x.1, w) else x := by
  rw [keysRise_iff] at hrise
  induction l with
  | nil => exact nomatch hk
  | cons y l ih =>
    obtain ⟨hy, hl⟩ := List.pairwise_cons.1 hrise
    by_cases he : k = y.1
    · have hrest : ∀ x ∈ l, x.1 ≠ k := fun x hx => by
        have := hy x hx
        omega
      subst he
      have hsame : (l.map fun x => if x.1 = y.1 then (x.1, w) else x) = l :=
        (List.map_congr_left fun x hx => if_neg (hrest x hx)).trans (List.map_id l)
      rw [List.map_cons, hsame, if_pos rfl]
      exact (if_neg (Nat.lt_irrefl _)).trans (if_pos rfl)
    · have hfound : lookupKey k l = some v := (if_neg he).symm.trans hk
      have hlt : ¬ k < y.1 := fun h => by
        have hgt := hy _ (mem_of_lookupKey hfound)
        exact absurd (Nat.lt_trans h hgt) (Nat.lt_irrefl _)
      rw [List.map_cons, if_neg (Ne.symm he), ← ih hl hfound]
      exact (if_neg hlt).trans (if_neg he)

/-! ## The element drive: owed POSITIONs (R42) -/

/-- The element drive with the owed marks of some items taken away. -/
def Drive.unowed (d : Drive) (l : List (ItemKind × Nat)) : Drive :=
  { d with
    elView := d.elView.map fun v => (v.1, { v.2 with owed := v.2.owed && !l.contains (.element, v.1) })
    anView := d.anView.map fun v => (v.1, { v.2 with owed := v.2.owed && !l.contains (.antenna, v.1) }) }

theorem Drive.unowed_nil (d : Drive) : d.unowed [] = d := by
  simp [Drive.unowed]

theorem Drive.unowed_unowed (d : Drive) (l l' : List (ItemKind × Nat)) : (d.unowed l).unowed l' = d.unowed (l ++ l') := by
  simp [Drive.unowed, List.map_map, Function.comp_def, Bool.not_or, Bool.and_assoc]

theorem Drive.unowed_elView_rise {d : Drive} (l : List (ItemKind × Nat)) (h : keysRise d.elView = true) :
    keysRise (d.unowed l).elView = true := by
  refine keysRise_map _ (fun _ => ?_) _ h
  rfl

theorem Drive.unowed_anView_rise {d : Drive} (l : List (ItemKind × Nat)) (h : keysRise d.anView = true) :
    keysRise (d.unowed l).anView = true := by
  refine keysRise_map _ (fun _ => ?_) _ h
  rfl

/-- An item has an entry in its view. -/
def Drive.views (d : Drive) (x : ItemKind × Nat) : Bool :=
  match x.1 with
  | .element => (lookupKey x.2 d.elView).isSome
  | .antenna => (lookupKey x.2 d.anView).isSome

theorem Drive.views_unowed (d : Drive) (l : List (ItemKind × Nat)) (x : ItemKind × Nat) :
    (d.unowed l).views x = d.views x := by
  obtain ⟨k, i⟩ := x
  cases k with
  | element =>
    show (lookupKey i (d.elView.map fun v => (v.1, _))).isSome = (lookupKey i d.elView).isSome
    rw [lookupKey_map]
    exact Option.isSome_map
  | antenna =>
    show (lookupKey i (d.anView.map fun v => (v.1, _))).isSome = (lookupKey i d.anView).isSome
    rw [lookupKey_map]
    exact Option.isSome_map

/-- The mark of an item in its view taken away. -/
theorem State.setOwed_false (s : State) (k : ItemKind) (i : Nat) (hel : keysRise s.ed.elView = true)
    (han : keysRise s.ed.anView = true) (hview : s.ed.views (k, i) = true) :
    s.setOwed k i false = s.withEd (s.ed.unowed [(k, i)]) := by
  cases k with
  | element =>
    obtain ⟨v, hv⟩ := Option.isSome_iff_exists.1 hview
    have hput : putKey i { s.elv i with owed := false } s.ed.elView = (s.ed.unowed [(.element, i)]).elView := by
      rw [putKey_present hel hv]
      refine List.map_congr_left fun x hx => ?_
      have hx2 := lookupKey_of_mem hel hx
      by_cases he : x.1 = i
      · subst he
        simp [State.elv, hx2]
      · simp [he]
    have hanView : (s.ed.unowed [(.element, i)]).anView = s.ed.anView := by simp [Drive.unowed]
    show s.withEd { s.ed with elView := putKey i { s.elv i with owed := false } s.ed.elView } = _
    rw [hput]
    exact congrArg (fun a => s.withEd { s.ed with elView := (s.ed.unowed [(.element, i)]).elView, anView := a }) hanView.symm
  | antenna =>
    obtain ⟨v, hv⟩ := Option.isSome_iff_exists.1 hview
    have hput : putKey i { s.anv i with owed := false } s.ed.anView = (s.ed.unowed [(.antenna, i)]).anView := by
      rw [putKey_present han hv]
      refine List.map_congr_left fun x hx => ?_
      have hx2 := lookupKey_of_mem han hx
      by_cases he : x.1 = i
      · subst he
        simp [State.anv, hx2]
      · simp [he]
    have helView : (s.ed.unowed [(.antenna, i)]).elView = s.ed.elView := by simp [Drive.unowed]
    show s.withEd { s.ed with anView := putKey i { s.anv i with owed := false } s.ed.anView } = _
    rw [hput]
    exact congrArg (fun e => s.withEd { s.ed with elView := e, anView := (s.ed.unowed [(.antenna, i)]).anView }) helView.symm

/-- A POSITION says nothing of the owed marks. -/
theorem State.positionFrame_unowed (s : State) (l : List (ItemKind × Nat)) (k : ItemKind) (i : Nat) :
    (s.withEd (s.ed.unowed l)).positionFrame k i = s.positionFrame k i := by
  cases k with
  | element =>
    have hget := lookupKey_map (fun v : Nat × ElView =>
      ({ v.2 with owed := v.2.owed && !l.contains (.element, v.1) } : ElView)) i s.ed.elView
    have hview : ∃ o, (s.withEd (s.ed.unowed l)).elv i = { s.elv i with owed := o } := by
      cases hfound : lookupKey i s.ed.elView with
      | none =>
        rw [hfound] at hget
        exact ⟨false, (congrArg (·.getD ElView.fresh) hget).trans (by simp [State.elv, hfound, ElView.fresh])⟩
      | some v =>
        rw [hfound] at hget
        exact ⟨_, (congrArg (·.getD ElView.fresh) hget).trans (by simp [State.elv, hfound]; rfl)⟩
    obtain ⟨o, ho⟩ := hview
    simp only [State.positionFrame, ho]
  | antenna =>
    have hget := lookupKey_map (fun v : Nat × AnView =>
      ({ v.2 with owed := v.2.owed && !l.contains (.antenna, v.1) } : AnView)) i s.ed.anView
    have hview : ∃ o, (s.withEd (s.ed.unowed l)).anv i = { s.anv i with owed := o } := by
      cases hfound : lookupKey i s.ed.anView with
      | none =>
        rw [hfound] at hget
        exact ⟨false, (congrArg (·.getD AnView.fresh) hget).trans (by simp [State.anv, hfound, AnView.fresh])⟩
      | some v =>
        rw [hfound] at hget
        exact ⟨_, (congrArg (·.getD AnView.fresh) hget).trans (by simp [State.anv, hfound]; rfl)⟩
    obtain ⟨o, ho⟩ := hview
    simp only [State.positionFrame, ho]

/-- With room the owed POSITIONs are queued in their order, and their marks go (R42). -/
theorem State.offerPositions_room (l : List (ItemKind × Nat)) : ∀ s : State, s.sp.phase = .running →
    keysRise s.ed.elView = true → keysRise s.ed.anView = true → (∀ x ∈ l, s.ed.views x = true) →
    s.hlc.queue.length + s.hlc.slots.length + l.length ≤ 16 →
    s.offerPositions l = ((s.queued (l.map fun i => s.positionFrame i.1 i.2)).withEd (s.ed.unowed l), true) := by
  induction l with
  | nil =>
    intro s _ _ _ _ _
    rw [Drive.unowed_nil]
    rfl
  | cons x l ih =>
    intro s hphase hel han hviews hroom
    obtain ⟨k, i⟩ := x
    rw [List.length_cons] at hroom
    have hoffer := s.offer_running (s.positionFrame k i) hphase (by omega)
    have howed := State.setOwed_false (s.queued [s.positionFrame k i]) k i hel han (hviews _ (List.mem_cons_self ..))
    have hqueue : (enqueue s.hlc.queue (s.positionFrame k i)).length = s.hlc.queue.length + 1 := length_enqueue _ _
    have hframes : ∀ y : ItemKind × Nat, ((s.queued [s.positionFrame k i]).withEd (s.ed.unowed [(k, i)])).positionFrame y.1 y.2
        = s.positionFrame y.1 y.2 := fun y => s.positionFrame_unowed [(k, i)] y.1 y.2
    have hnext := ih ((s.queued [s.positionFrame k i]).withEd (s.ed.unowed [(k, i)])) hphase
      (Drive.unowed_elView_rise _ hel) (Drive.unowed_anView_rise _ han)
      (fun y hy => (s.ed.views_unowed _ y).trans (hviews y (List.mem_cons_of_mem _ hy)))
      (by
        show (enqueue s.hlc.queue (s.positionFrame k i)).length + s.hlc.slots.length + l.length ≤ 16
        omega)
    simp only [hframes] at hnext
    unfold State.offerPositions
    simp only [hoffer, if_true]
    refine (congrArg (State.offerPositions · l) howed).trans (hnext.trans ?_)
    refine congrArg (·, true) ?_
    show (State.withEd _ ((s.ed.unowed [(k, i)]).unowed l)) = _
    rw [Drive.unowed_unowed]
    rfl

/-- The items owed are home items with a marked entry in their view. -/
theorem State.views_of_owed {s : State} {x : ItemKind × Nat} (hx : x ∈ s.owedItems) : s.ed.views x = true := by
  have hel : ∀ i, (s.elv i).owed = true → s.ed.views (.element, i) = true := fun i hi => by
    show (lookupKey i s.ed.elView).isSome = true
    unfold State.elv at hi
    cases h : lookupKey i s.ed.elView with
    | none =>
      rw [h] at hi
      exact nomatch hi
    | some v => rfl
  have han : ∀ i, (s.anv i).owed = true → s.ed.views (.antenna, i) = true := fun i hi => by
    show (lookupKey i s.ed.anView).isSome = true
    unfold State.anv at hi
    cases h : lookupKey i s.ed.anView with
    | none =>
      rw [h] at hi
      exact nomatch hi
    | some v => rfl
  rcases List.mem_append.1 hx with hx | hx
  · obtain ⟨i, hi, rfl⟩ := List.mem_map.1 hx
    exact hel i (List.mem_filter.1 hi).2
  · obtain ⟨i, hi, rfl⟩ := List.mem_map.1 hx
    exact han i (List.mem_filter.1 hi).2

/-- The owed marks taken away are those of the home items. -/
theorem State.unowed_owedItems (s : State) (hel : keysRise s.ed.elView = true) (han : keysRise s.ed.anView = true) :
    s.ed.unowed s.owedItems = { s.ed with
      elView := s.ed.elView.map fun v => (v.1, { v.2 with owed := v.2.owed && !s.homeElements.contains v.1 })
      anView := s.ed.anView.map fun v => (v.1, { v.2 with owed := v.2.owed && !s.homeAntennas.contains v.1 }) } := by
  have helView : (s.ed.unowed s.owedItems).elView = s.ed.elView.map fun v =>
      (v.1, { v.2 with owed := v.2.owed && !s.homeElements.contains v.1 }) := by
    refine List.map_congr_left fun v hv => ?_
    have hview : s.elv v.1 = v.2 := congrArg (·.getD ElView.fresh) (lookupKey_of_mem hel hv)
    have hmem : s.owedItems.contains (.element, v.1) = (s.homeElements.contains v.1 && v.2.owed) := by
      rw [Bool.eq_iff_iff]
      simp [State.owedItems, hview]
    rw [hmem]
    cases v.2.owed <;> simp
  have hanView : (s.ed.unowed s.owedItems).anView = s.ed.anView.map fun v =>
      (v.1, { v.2 with owed := v.2.owed && !s.homeAntennas.contains v.1 }) := by
    refine List.map_congr_left fun v hv => ?_
    have hview : s.anv v.1 = v.2 := congrArg (·.getD AnView.fresh) (lookupKey_of_mem han hv)
    have hmem : s.owedItems.contains (.antenna, v.1) = (s.homeAntennas.contains v.1 && v.2.owed) := by
      rw [Bool.eq_iff_iff]
      simp [State.owedItems, hview]
    rw [hmem]
    cases v.2.owed <;> simp
  rw [← helView, ← hanView]
  rfl

end Sys2Proof.Machine
end

section
/-! SUPPORT. The slots of the element drive, the planner and the ramp log emptied with room for all that is owed. -/

namespace Sys2Proof.Machine

-- Each pending proof holds a stack of its own: they are checked one after the other.
set_option Elab.async false

open Sys2Proof

/-- With room ED offers all it owes: POSITIONs, then refusals (R42). -/
theorem State.edSlotEmptied_room (s : State) (hphase : s.sp.phase = .running) (hel : keysRise s.ed.elView = true)
    (han : keysRise s.ed.anView = true) (href : s.ed.refusals.length ≤ 8)
    (hroom : s.hlc.queue.length + s.hlc.slots.length + (s.owedItems.length + s.ed.refusals.length) ≤ 16) :
    s.edSlotEmptied = (s.queued ((s.owedItems.map fun i => s.positionFrame i.1 i.2)
      ++ s.ed.refusals.map RefusedMove.frame)).withEd { s.ed.unowed s.owedItems with refusals := [] } := by
  obtain ⟨x, hx⟩ : ∃ x, x = (s.queued (s.owedItems.map fun i => s.positionFrame i.1 i.2)).withEd
      (s.ed.unowed s.owedItems) := ⟨_, rfl⟩
  have hpositions : s.offerPositions s.owedItems = (x, true) := by
    rw [hx]
    exact s.offerPositions_room s.owedItems hphase hel han (fun _ h => State.views_of_owed h) (by omega)
  have hqueue : x.hlc.queue.length = s.hlc.queue.length + s.owedItems.length := by
    rw [hx]
    exact (length_foldl_enqueue _ _).trans (by rw [List.length_map])
  have hslots : x.hlc.slots = s.hlc.slots := by rw [hx]; rfl
  have hrefusals : x.ed.refusals = s.ed.refusals := by rw [hx]; rfl
  have hrest : x.offerRefusals 8 = (x.queued (s.ed.refusals.map RefusedMove.frame)).withEd
      { x.ed with refusals := [] } := by
    have h := owedRefusals.offers_room 8 x (by rw [hx]; exact hphase)
      (show x.ed.refusals.length ≤ 8 by rw [hrefusals]; exact href)
      (show _ + x.ed.refusals.length ≤ 16 by rw [hqueue, hslots, hrefusals]; omega)
    rw [State.offerRefusals_eq, h]
    show (x.queued (x.ed.refusals.map RefusedMove.frame)).withEd { x.ed with refusals := [] } = _
    rw [hrefusals]
  unfold State.edSlotEmptied
  rw [hpositions]
  show x.offerRefusals 8 = _
  rw [hrest, hx, ← State.queued_queued]
  rfl

/-! ## The planner (R145) -/

/-- The item of a MOVE. -/
def moveKey (m : ItemKind × Nat × Nat) : ItemKind × Nat := (m.1, m.2.1)

/-- The MOVEs of a list that are owed. -/
def State.movesOwed (s : State) (l : List (ItemKind × Nat × Nat)) : List (ItemKind × Nat × Nat) :=
  l.filter fun m => s.cp.owedMoves.contains (moveKey m)

/-- With room the owed MOVEs are queued in their order, and owed no more. -/
theorem State.offerMoves_room (n : Nat) (l : List (ItemKind × Nat × Nat)) : ∀ s : State, s.sp.phase = .running →
    ((s.movesOwed l).map moveKey).Nodup → s.hlc.queue.length + s.hlc.slots.length + (s.movesOwed l).length ≤ 16 →
    s.offerMoves n l = (s.queued ((s.movesOwed l).map fun m => .move (kindNat m.1) m.2.1 n m.2.2)).withCp
      { s.cp with owedMoves := s.cp.owedMoves.filter fun k => !((s.movesOwed l).map moveKey).contains k } := by
  induction l with
  | nil =>
    intro s _ _ _
    have hall : (s.cp.owedMoves.filter fun k => !((s.movesOwed []).map moveKey).contains k) = s.cp.owedMoves :=
      List.filter_eq_self.2 fun _ _ => rfl
    rw [hall]
    rfl
  | cons m l ih =>
    intro s hphase hnodup hroom
    unfold State.offerMoves
    by_cases howed : s.cp.owedMoves.contains (moveKey m) = true
    · have hmoves : s.movesOwed (m :: l) = m :: s.movesOwed l := List.filter_cons_of_pos howed
      rw [hmoves] at hnodup hroom
      rw [List.map_cons, List.nodup_cons] at hnodup
      rw [List.length_cons] at hroom
      have hoffer := s.offer_running (moveFrame n m.1 m.2.1 m.2.2) hphase (by omega)
      have hqueue : (enqueue s.hlc.queue (moveFrame n m.1 m.2.1 m.2.2)).length = s.hlc.queue.length + 1 :=
        length_enqueue _ _
      obtain ⟨x, hx⟩ : ∃ x, x = (s.queued [moveFrame n m.1 m.2.1 m.2.2]).withCp { s.cp with
          owedMoves := s.cp.owedMoves.filter (· != moveKey m) } := ⟨_, rfl⟩
      have hrest : x.movesOwed l = s.movesOwed l := by
        refine List.filter_congr fun y hy => ?_
        show x.cp.owedMoves.contains (moveKey y) = s.cp.owedMoves.contains (moveKey y)
        rw [hx, Bool.eq_iff_iff]
        by_cases hsame : moveKey y = moveKey m
        · have hy' : s.cp.owedMoves.contains (moveKey y) = false := by
            by_contra hcon
            rw [Bool.not_eq_false] at hcon
            exact hnodup.1 (List.mem_map.2 ⟨y, List.mem_filter.2 ⟨hy, hcon⟩, hsame⟩)
          exact absurd (hsame ▸ howed) (by rw [hy']; decide)
        · simp [hsame]
      have hnext := ih x (by rw [hx]; exact hphase) (by rw [hrest]; exact hnodup.2)
        (by
          rw [hrest, hx]
          show (enqueue s.hlc.queue (moveFrame n m.1 m.2.1 m.2.2)).length + s.hlc.slots.length + _ ≤ 16
          omega)
      refine (if_pos howed).trans ?_
      rw [hoffer]
      show State.offerMoves _ n l = _
      refine (congrArg (State.offerMoves · n l) hx.symm).trans (hnext.trans ?_)
      have hkeys : (x.cp.owedMoves.filter fun k => !((s.movesOwed l).map moveKey).contains k)
          = s.cp.owedMoves.filter fun k => !((m :: s.movesOwed l).map moveKey).contains k := by
        rw [hx]
        refine List.filter_filter.trans (List.filter_congr fun k _ => ?_)
        simp [bne, Bool.and_comm]
      rw [hrest, hmoves, hkeys, hx]
      rfl
    · have hmoves : s.movesOwed (m :: l) = s.movesOwed l := List.filter_cons_of_neg howed
      rw [hmoves] at hnodup hroom ⊢
      exact (if_neg howed).trans (ih s hphase hnodup hroom)

/-- With nothing owed no MOVE is offered. -/
theorem State.offerMoves_none {s : State} (h : s.cp.owedMoves = []) (n : Nat) (l : List (ItemKind × Nat × Nat)) :
    s.offerMoves n l = s := by
  induction l with
  | nil => rfl
  | cons m l ih =>
    unfold State.offerMoves
    rw [if_neg (by simp [h])]
    exact ih

/-! ## The ramp log (R88, R93) -/

/-- With room the owed RAMP-CANCELs are queued. -/
theorem State.offerOwedCancels_room (s : State) (hphase : s.sp.phase = .running) (hlen : s.rl.owedCancel.length ≤ 4)
    (hroom : s.hlc.queue.length + s.hlc.slots.length + s.rl.owedCancel.length ≤ 16) :
    s.offerOwedCancels 4 = (s.queued (s.rl.owedCancel.map .rampCancel)).withRl { s.rl with owedCancel := [] } := by
  rw [State.offerOwedCancels_eq, owedCancels.offers_room 4 s hphase hlen hroom]
  rfl

/-- With room an intent offered enters the log UNSENT, and its plan shows it (R88). -/
theorem State.offerIntent_room (s : State) (q : PickReq) (t : Nat) {n : Nat}
    (hn : nextNumber s.rl.numCtr s.intentNumbersUsed = n) (hphase : s.sp.phase = .running)
    (hroom : s.hlc.queue.length + s.hlc.slots.length < 16) (hlog : s.rl.intents.length < 32) :
    s.offerIntent q t = (((s.queued [.rampIntent n t]).withRl { s.rl with
        numCtr := n, request := some { q with waiting := false }
        intents := insertBy (intentBefore s.rampBase)
          { station := s.cfg.stationId, num := n, tick := t, order := none, own := some .unsent } s.rl.intents }).withCp
      { s.cp with plans := s.cp.plans.map fun p =>
          if p.id = q.plan then { p with intent := some (n, t) } else p }).report [.pickMade q.plan q.bySeq] := by
  have hlogged : (s.queued [.rampIntent n t]).roomForOwn = s.queued [.rampIntent n t] := if_pos hlog
  unfold State.offerIntent
  simp only [hn]
  rw [s.offer_running _ hphase hroom, if_pos rfl, hlogged]
  rfl

/-- With no pick waiting for the link RL offers its RAMP-CANCELs alone (R93). -/
theorem State.rampSlotEmptied_idle (s : State) (h : ∀ q, s.rl.request = some q → q.waiting = false)
    (hkeep : (s.offerOwedCancels 4).rl.request = s.rl.request) : s.rampSlotEmptied = s.offerOwedCancels 4 := by
  unfold State.rampSlotEmptied
  simp only [show Config.owedCancelSize = 4 from rfl, hkeep]
  split
  · next q hq => simp [h q hq]
  · rfl

/-- The search reads the settings and the ticks of the log. -/
theorem State.findTick_same {s t : State} (hcfg : t.cfg = s.cfg) (hlog : t.rl.intents = s.rl.intents) (q : PickReq) :
    t.findTick q = s.findTick q := by
  unfold State.findTick
  rw [hcfg, hlog]

/-- With a pick waiting for the link RL offers its RAMP-CANCELs, and the intent of the tick found afresh (R88, R93). -/
theorem State.rampSlotEmptied_waiting (s : State) {q : PickReq} {tick : Nat} (hphase : s.sp.phase = .running)
    (hlen : s.rl.owedCancel.length ≤ 4) (hreq : s.rl.request = some q) (hwaiting : q.waiting = true)
    (htick : s.findTick (q.raise s.now) = some tick) (hlog : s.rl.intents.length < 32)
    (hroom : s.hlc.queue.length + s.hlc.slots.length + (s.rl.owedCancel.length + 1) ≤ 16) :
    let n := nextNumber s.rl.numCtr s.intentNumbersUsed
    s.rampSlotEmptied = (((s.queued (s.rl.owedCancel.map .rampCancel ++ [.rampIntent n tick])).withRl { s.rl with
        owedCancel := [], numCtr := n, request := some { q with waiting := false }
        intents := insertBy (intentBefore s.rampBase)
          { station := s.cfg.stationId, num := n, tick := tick, order := none, own := some .unsent } s.rl.intents }).withCp
      { s.cp with plans := s.cp.plans.map fun p =>
          if p.id = q.plan then { p with intent := some (n, tick) } else p }).report [.pickMade q.plan q.bySeq] := by
  intro n
  obtain ⟨x, hx⟩ : ∃ x, x = (s.queued (s.rl.owedCancel.map .rampCancel)).withRl { s.rl with owedCancel := [] } := ⟨_, rfl⟩
  have hcancels : s.offerOwedCancels 4 = x := hx ▸ s.offerOwedCancels_room hphase hlen (by omega)
  have hqueue : x.hlc.queue.length = s.hlc.queue.length + s.rl.owedCancel.length := by
    rw [hx]
    exact (length_foldl_enqueue _ _).trans (by rw [List.length_map])
  have hslots : x.hlc.slots = s.hlc.slots := by rw [hx]; rfl
  have hfound : x.findTick (q.raise x.now) = some tick := by
    rw [State.findTick_same (s := s) (t := x) (by rw [hx]; simp [State.queued]) (by rw [hx]; rfl),
      show x.now = s.now by rw [hx]; rfl]
    exact htick
  have hrequest : x.rl.request = some q := by
    rw [hx]
    exact hreq
  unfold State.rampSlotEmptied
  simp only [show Config.owedCancelSize = 4 from rfl, hcancels, hrequest, hwaiting, if_true]
  refine (x.pickWithin_some q q tick hfound).trans ?_
  have hcfg : x.cfg = s.cfg := by
    rw [hx]
    simp [State.queued]
  have hnow : x.now = s.now := by rw [hx]; rfl
  have hbase : x.rampBase = s.rampBase := by
    unfold State.rampBase
    rw [hnow, hcfg]
  have hrl : x.rl = { s.rl with owedCancel := [] } := by rw [hx]; rfl
  have hnum : nextNumber x.rl.numCtr x.intentNumbersUsed = n := by
    have hused : x.intentNumbersUsed = s.intentNumbersUsed := by
      unfold State.intentNumbersUsed
      rw [hrl]
    rw [hused, hrl]
  rw [x.offerIntent_room q tick hnum (by rw [hx]; exact hphase) (by rw [hqueue, hslots]; omega) (by rw [hx]; exact hlog),
    hbase, hcfg, hrl, hx, ← State.queued_queued]
  rfl

end Sys2Proof.Machine
end

section
/-! SUPPORT. The freed place taken, and what the block told then does (R24). -/

namespace Sys2Proof.Machine

-- Each pending proof holds a stack of its own: they are checked one after the other.
set_option Elab.async false

open Sys2Proof

/-- The link after the freed place has taken a pending frame. -/
def Link.entered (l : Link) (f : Frame) (slots : List Frame) : Link :=
  { l with queue := enqueue l.queue f, slots := slots }

/-- The pending frame of lowest priority number enters, and its block is told (R24). -/
theorem exec_pendingSlotEmptied (s : State) {f : Frame} {before rest : List Frame} (hlen : s.hlc.queue.length < 16)
    (hslots : s.hlc.slots = before ++ f :: rest) (hbefore : ∀ g ∈ before, framePriority f < framePriority g)
    (hrest : ∀ g ∈ rest, framePriority f ≤ framePriority g) :
    exec .pendingSlotEmptied s = .next (drain reportFuel
      (((s.withReports []).withHlc (s.hlc.entered f (before ++ rest))).slotEmptied (frameBlock f))) := by
  have hpick : pickSlot s.hlc.slots = some (f, before ++ rest) := hslots ▸ pickSlot_first f rest hrest before hbefore
  have henters : (s.withReports []).slotEnters =
      ((s.withReports []).withHlc (s.hlc.entered f (before ++ rest))).slotEmptied (frameBlock f) := by
    unfold State.slotEnters
    rw [if_pos (show (s.withReports []).hlc.queue.length < Config.queueSize from hlen)]
    show (match pickSlot s.hlc.slots with
      | some (f, rest) => _
      | none => _) = _
    rw [hpick]
    rfl
  show run State.slotEnters s = _
  rw [run_next, henters]

/-- A test of STOPPING outside it comes to nothing. -/
theorem drain_stopTest_other {s : State} (hphase : s.sp.phase ≠ .stopping) (hreports : s.reports = []) :
    drain reportFuel (s.report [.stopTest]) = s := by
  refine (drain_inert [.stopTest] _ _ (by rw [show (s.report [.stopTest]).reports = s.reports ++ _ from rfl, hreports]; rfl)
    (by decide) fun r hr rest => ?_).trans ?_
  · rw [List.mem_singleton.1 hr]
    exact State.stopTest_other hphase
  · show s.withReports [] = s
    rw [← hreports]
    rfl

/-- A block that owes nothing does nothing. -/
theorem State.slotEmptied_nothing (s : State) (b : Block) (hobj : s.cm.owedObj = []) (hrel : s.cm.owedRel = [])
    (hair : ∀ b ∈ s.cm.own, b.owedAir = false) (hmoves : s.cp.owedMoves = []) (hitems : s.owedItems = [])
    (href : s.ed.refusals = []) (hcancel : s.rl.owedCancel = [])
    (hpick : ∀ q, s.rl.request = some q → q.waiting = false) :
    s.slotEmptied b = s ∨ s.slotEmptied b = s.report [.stopTest] := by
  cases b with
  | cm =>
    refine .inr ?_
    show s.cmSlotEmptied = _
    unfold State.cmSlotEmptied
    rw [State.offerOwedObjects_eq, owedObjects.offers_nil _ hobj]
    simp only [if_true]
    rw [State.offerOwedAirs_none hair]
    simp only [if_true]
    rw [State.offerOwedReleases_eq, owedReleases.offers_nil _ hrel]
  | cp =>
    refine .inl ?_
    show s.cpSlotEmptied = _
    unfold State.cpSlotEmptied
    split
    · split
      · exact State.offerMoves_none hmoves _ _
      · rfl
    · rfl
  | ed =>
    refine .inl ?_
    show s.edSlotEmptied = _
    unfold State.edSlotEmptied
    rw [hitems]
    show s.offerRefusals 8 = s
    rw [State.offerRefusals_eq, owedRefusals.offers_nil _ href]
  | rl =>
    have hcancels : s.offerOwedCancels 4 = s := by
      rw [State.offerOwedCancels_eq, owedCancels.offers_nil _ hcancel]
    refine .inl ((s.rampSlotEmptied_idle hpick (by rw [hcancels])).trans hcancels)
  | hlc => exact .inl rfl

/-- The search for a tick does not read the link. -/
theorem State.findTick_withHlc (s : State) (l : Link) (q : PickReq) :
    ((s.withReports []).withHlc l).findTick (q.raise ((s.withReports []).withHlc l).now) = s.findTick (q.raise s.now) :=
  State.findTick_same (s := s) (t := (s.withReports []).withHlc l) (by simp) rfl _

/-- A pick made that is the planner's, or comes outside TRIPPED, asks nothing more. -/
theorem drain_pickMade {s : State} {plan : Nat} {bySeq : Bool} (h : bySeq = false ∨ s.ts.state ≠ .tripped)
    (hreports : s.reports = []) : drain reportFuel (s.report [.pickMade plan bySeq]) = s := by
  have hpicked : ∀ l, deliver (.pickMade plan bySeq) (s.withReports l) = s.withReports l := fun l => by
    show State.pickMade _ plan bySeq = _
    unfold State.pickMade State.restartPicked
    rcases h with h | h
    · rw [h]
      rfl
    · split
      · split
        · exact if_neg fun hand => h hand.1
        · rfl
      · rfl
  refine (drain_inert [.pickMade plan bySeq] _ _
    (by rw [show (s.report [.pickMade plan bySeq]).reports = s.reports ++ _ from rfl, hreports]; rfl) (Nat.le_of_ble_eq_true rfl)
    fun r hr rest => ?_).trans ?_
  · rw [List.mem_singleton.1 hr]
    exact hpicked rest
  · show s.withReports [] = s
    rw [← hreports]
    rfl

/-- With one place, taken, and no BEACON to give way the queue is full. -/
theorem State.fullFor_entered (s : State) {f : Frame} {slots : List Frame} (hphase : s.sp.phase = .running)
    (hlen : s.hlc.queue.length = 15) (hbeacons : ∀ x ∈ s.hlc.queue, isBeacon x.frame = false) (hf : isBeacon f = false)
    (hslots : ∀ g ∈ slots, frameBlock g ≠ frameBlock f) :
    ((s.withReports []).withHlc (s.hlc.entered f slots)).FullFor (frameBlock f) where
  phase := hphase
  full := by
    show ¬ (enqueue s.hlc.queue f).length + slots.length < 16
    rw [length_enqueue]
    omega
  beacons x hx := by
    rcases (mem_insertBy ..).1 hx with rfl | hx
    · exact hf
    · exact hbeacons x hx
  free := hslots

/-- CM then offers its first OBJECT alone (R24, R81). -/
theorem State.cmSlotEmptied_full {s : State} (h : s.FullFor .cm) {o o' : Nat × Nat × Nat} {more : List (Nat × Nat × Nat)}
    (hobj : s.cm.owedObj = o :: o' :: more) :
    s.cmSlotEmptied = ((s.pended (.object o.1 o.2.1 o.2.2)).withCm { s.cm with owedObj := o' :: more }).report [.stopTest] := by
  have hoffers := owedObjects.offers_full 6 h (fun _ => ⟨rfl, rfl⟩) hobj
  unfold State.cmSlotEmptied
  rw [State.offerOwedObjects_eq, show Config.owedListSize = 6 + 2 from rfl, hoffers]
  rfl

/-- ED then offers its first refusal alone (R24, R42). -/
theorem State.edSlotEmptied_full {s : State} (h : s.FullFor .ed) (hitems : s.owedItems = []) {r : RefusedMove}
    {more : List RefusedMove} (href : s.ed.refusals = r :: more) :
    s.edSlotEmptied = (s.pended r.frame).withEd { s.ed with refusals := more } := by
  have hoffers := owedRefusals.offers_full 6 h (fun _ => ⟨rfl, rfl⟩) href
  unfold State.edSlotEmptied
  rw [hitems]
  show s.offerRefusals (6 + 2) = _
  rw [State.offerRefusals_eq, hoffers]
  rfl

/-- RL then offers its first RAMP-CANCEL alone (R24, R93). -/
theorem State.rampSlotEmptied_full {s : State} (h : s.FullFor .rl) {n : Nat} {more : List Nat}
    (hcancel : s.rl.owedCancel = n :: more) (hpick : ∀ q, s.rl.request = some q → q.waiting = false) :
    s.rampSlotEmptied = (s.pended (.rampCancel n)).withRl { s.rl with owedCancel := more } := by
  have hoffers : s.offerOwedCancels 4 = (s.pended (.rampCancel n)).withRl { s.rl with owedCancel := more } := by
    rw [State.offerOwedCancels_eq, show 4 = 2 + 2 from rfl, owedCancels.offers_full 2 h (fun _ => ⟨rfl, rfl⟩) hcancel]
    rfl
  exact (s.rampSlotEmptied_idle hpick (by rw [hoffers]; rfl)).trans hoffers

end Sys2Proof.Machine
end

section
open Sys2Proof Sys2Proof.Machine

/-- Settles O12: the frame chosen enters (`pickSlot_first`), and its block offers its owed lists in turn
(`Owed.offers_room`), or the first frame alone where the queue is full (`Owed.offers_full`). -/
theorem freedPlaceTakesPendingFrame : Obligations.FreedPlaceTakesPendingFrame := by
  intro s f before rest hlen hslots hbefore hrest entered offered fits
  have hexec := exec_pendingSlotEmptied s hlen hslots hbefore hrest
  have hcount : s.hlc.slots.length = (before ++ rest).length + 1 := by
    rw [hslots]
    simp
    omega
  obtain ⟨e, he⟩ : ∃ e, e = (s.withReports []).withHlc (s.hlc.entered f (before ++ rest)) := ⟨_, rfl⟩
  have hqueue : e.hlc.queue.length = s.hlc.queue.length + 1 := by
    rw [he]
    exact length_enqueue _ _
  have hpending : e.hlc.slots.length + 1 = s.hlc.slots.length := by
    rw [he, hcount]
    rfl
  have hreports : e.reports = [] := by rw [he]; rfl
  have hroom : ∀ n, fits n → e.hlc.queue.length + e.hlc.slots.length + n ≤ 16 := fun n hn => by
    have : s.hlc.queue.length + s.hlc.slots.length + n ≤ 16 := hn
    omega
  rw [hexec, ← he]
  refine ⟨fun hphase hobj hrel hair hmoves hitems href hcancel hpick => ?_, fun hphase => ⟨?_, ?_, ?_, ?_, ?_⟩⟩
  · have hsame : drain reportFuel (e.slotEmptied (frameBlock f)) = e := by
      have hnothing := e.slotEmptied_nothing (frameBlock f) (by rw [he]; exact hobj) (by rw [he]; exact hrel)
        (by rw [he]; exact hair) (by rw [he]; exact hmoves) (by rw [he]; exact hitems) (by rw [he]; exact href)
        (by rw [he]; exact hcancel) (by rw [he]; exact hpick)
      rcases hnothing with h | h
      · rw [h, drain_rest _ _ hreports]
      · rw [h, drain_stopTest_other (by rw [he]; exact hphase) hreports]
    rw [hsame, he]
    rfl
  · intro hblock hobj hrel hown airs hfits
    have hslot := e.cmSlotEmptied_room (by rw [he]; exact hphase) (by rw [he]; exact hobj) (by rw [he]; exact hrel)
      (by rw [he]; exact hown) (by rw [he] at hroom ⊢; exact hroom _ hfits)
    rw [hblock]
    show Host.Outcome.next (drain reportFuel e.cmSlotEmptied) = _
    rw [hslot, drain_stopTest_other (by rw [he]; exact fun h => nomatch h.symm.trans hphase) (by rw [he]; rfl), he]
    rfl
  · intro hblock hel han href hfits
    have hslot := e.edSlotEmptied_room (by rw [he]; exact hphase) (by rw [he]; exact hel) (by rw [he]; exact han)
      (by rw [he]; exact href) (by rw [he] at hroom ⊢; exact hroom _ hfits)
    have hunowed := e.unowed_owedItems (by rw [he]; exact hel) (by rw [he]; exact han)
    rw [hblock]
    show Host.Outcome.next (drain reportFuel e.edSlotEmptied) = _
    rw [hslot, hunowed, drain_rest _ _ (by rw [he]; rfl), he]
    rfl
  · intro p n hblock hplan hbooking key moves hnodup hfits
    have hslot : e.cpSlotEmptied = e.offerMoves n (s.planMoves p) := by
      unfold State.cpSlotEmptied
      rw [show e.currentPlan = some p by rw [he]; exact hplan]
      simp only [hbooking]
      rw [he]
      rfl
    have hmoves : e.movesOwed (s.planMoves p) = moves := by rw [he]; rfl
    have hoffers := State.offerMoves_room n (s.planMoves p) e (by rw [he]; exact hphase)
      (by rw [hmoves]; exact hnodup) (by rw [hmoves]; exact hroom _ hfits)
    rw [hblock]
    show Host.Outcome.next (drain reportFuel e.cpSlotEmptied) = _
    rw [hslot, hoffers, hmoves, drain_rest _ _ (by rw [he]; rfl), he]
    rfl
  · intro hblock hcancel
    rw [hblock]
    refine ⟨fun hpick hfits => ?_, fun q tick hreq hwaiting hseq htick hlog hfits => ?_⟩
    · have hcancels := e.offerOwedCancels_room (by rw [he]; exact hphase) (by rw [he]; exact hcancel)
        (by rw [he] at hroom ⊢; exact hroom _ hfits)
      show Host.Outcome.next (drain reportFuel e.rampSlotEmptied) = _
      rw [e.rampSlotEmptied_idle (by rw [he]; exact hpick) (by rw [hcancels]; rfl), hcancels,
        drain_rest _ _ (by rw [he]; rfl), he]
      rfl
    · have hslot := e.rampSlotEmptied_waiting (q := q) (tick := tick) (by rw [he]; exact hphase) (by rw [he]; exact hcancel)
        (by rw [he]; exact hreq) hwaiting ((he ▸ s.findTick_withHlc _ q).trans htick) (by rw [he]; exact hlog)
        (by rw [he] at hroom ⊢; exact hroom _ hfits)
      show Host.Outcome.next (drain reportFuel e.rampSlotEmptied) = _
      rw [hslot, drain_pickMade (by rw [he]; exact hseq) (by rw [he]; rfl), he]
      rfl
  · intro hfull hbeacons hf hfree held
    have hfor : e.FullFor (frameBlock f) := he ▸ s.fullFor_entered hphase hfull hbeacons hf hfree
    refine ⟨fun o o' more hblock hobj => ?_, fun r more hblock hitems href => ?_, fun n more hblock hcancel hpick => ?_⟩
    · rw [hblock] at hfor ⊢
      show Host.Outcome.next (drain reportFuel e.cmSlotEmptied) = _
      rw [State.cmSlotEmptied_full hfor (by rw [he]; exact hobj),
        drain_stopTest_other (by rw [he]; exact fun h => nomatch h.symm.trans hphase) (by rw [he]; rfl), he]
      rfl
    · rw [hblock] at hfor ⊢
      show Host.Outcome.next (drain reportFuel e.edSlotEmptied) = _
      rw [State.edSlotEmptied_full hfor (by rw [he]; exact hitems) (by rw [he]; exact href),
        drain_rest _ _ (by rw [he]; rfl), he]
      rfl
    · rw [hblock] at hfor ⊢
      show Host.Outcome.next (drain reportFuel e.rampSlotEmptied) = _
      rw [State.rampSlotEmptied_full hfor (by rw [he]; exact hcancel) (by rw [he]; exact hpick),
        drain_rest _ _ (by rw [he]; rfl), he]
      rfl
end

section
/-! SUPPORT. Attempts: their starts, their ends by success, and what SENT reports do (R17, R18, R20, R21, R61, R89). -/

namespace Sys2Proof.Machine

-- Each pending proof holds a stack of its own: they are checked one after the other.
set_option Elab.async false

open Sys2Proof

/-! ## Start and lost arbitration -/

/-- An attempt starts with the head frame (R17). -/
theorem exec_attemptStart (s : State) {x : QFrame} {rest : List QFrame} (hqueue : s.hlc.queue = x :: rest)
    (hnone : s.hlc.attempt = none) (hsends : sendsIn s.sp.phase = true) (herr : s.hlc.txErr < 32) :
    exec .attemptStart s = .next ((s.withReports []).withHlc
      { s.hlc with queue := { x with sending := true } :: rest, attempt := some (s.tb.sow * 100 + s.tb.tis) }) := by
  have hmay : (s.withReports []).mayStart = true := by
    show (!s.hlc.queue.isEmpty && s.hlc.attempt.isNone && sendsIn s.sp.phase && decide (s.hlc.txErr < 32)) = true
    rw [hqueue, hnone, hsends, decide_eq_true herr]
    rfl
  have hstart : s.hlc.startAttempt (s.tb.sow * 100 + s.tb.tis) =
      { s.hlc with queue := { x with sending := true } :: rest, attempt := some (s.tb.sow * 100 + s.tb.tis) } := by
    unfold Link.startAttempt
    rw [hqueue]
  have heff : (s.withReports []).attemptStart = (s.withReports []).withHlc
      (s.hlc.startAttempt (s.tb.sow * 100 + s.tb.tis)) := if_pos hmay
  show run State.attemptStart s = _
  rw [run_rest _ s (by rw [heff]; rfl), heff, hstart]

/-- A lost arbitration leaves the frame queued (R18). -/
theorem exec_lostArbitration (s : State) (hattempt : s.hlc.attempt ≠ none) :
    exec .lostArbitration s = .next ((s.withReports []).withHlc
      { s.hlc with queue := s.hlc.queue.map fun y => { y with sending := false }, attempt := none }) := by
  have heff : (s.withReports []).lostArbitration = (s.withReports []).withHlc s.hlc.endAttempt :=
    if_pos (Option.isSome_iff_ne_none.2 hattempt)
  show run State.lostArbitration s = _
  rw [run_rest _ s (by rw [heff]; rfl), heff]
  rfl

/-! ## Success -/

/-- The link after the head frame has been sent: the frame is gone, the error count is clear, the frame has its number. -/
def Link.sentHead (l : Link) (rest : List QFrame) : Link :=
  { l with queue := rest, attempt := none, txErr := 0, seq := (l.seq + 1) % 4294967296 }

/-- A success is reported to the frame's producer with the frame's number (R21, R26). -/
theorem exec_frameSent (s : State) {x : QFrame} {rest : List QFrame} (hqueue : s.hlc.queue = x :: rest)
    (hattempt : s.hlc.attempt ≠ none) (hx : x.sending = true) (hrest : ∀ y ∈ rest, y.sending = false) :
    exec .frameSent s = .next (drain reportFuel
      (((s.withReports []).withHlc (s.hlc.sentHead rest)).frameReported x.frame (s.hlc.sentHead rest).seq)) := by
  have hsucceed : s.hlc.succeed = s.hlc.sentHead rest := by
    have hfilter : s.hlc.queue.filter (fun x => !x.sending) = rest := by
      rw [hqueue, List.filter_cons_of_neg (by simp [hx])]
      exact List.filter_eq_self.2 fun y hy => by simp [hrest y hy]
    unfold Link.succeed
    rw [hfilter]
    rfl
  have hframe : s.hlc.sendingFrame = some x.frame := by
    unfold Link.sendingFrame
    rw [hqueue, List.find?_cons_of_pos hx]
    rfl
  obtain ⟨n, hn⟩ := Option.ne_none_iff_exists'.1 hattempt
  have heff : (s.withReports []).frameSent =
      ((s.withReports []).withHlc s.hlc.succeed).frameReported x.frame s.hlc.succeed.seq := by
    unfold State.frameSent
    rw [show (s.withReports []).hlc.attempt = some n from hn,
      show (s.withReports []).hlc.sendingFrame = some x.frame from hframe]
    rfl
  show run State.frameSent s = _
  rw [run_next, heff, hsucceed]

/-- The SENT report of a kind other than CLAIM and RAMP-INTENT does nothing. -/
theorem State.frameReported_other (s : State) {f : Frame} (n : Nat) (hclaim : ∀ d, f ≠ .claim d)
    (hintent : ∀ n a, f ≠ .rampIntent n a) : s.frameReported f n = s := by
  cases f with
  | claim d => exact absurd rfl (hclaim d)
  | rampIntent n a => exact absurd rfl (hintent n a)
  | _ => rfl

/-- The SENT report of a CLAIM starts its booking's listen timer (R61). -/
theorem State.claimSent_listens (s : State) {num : Nat} (h : s.cm.unsent.contains num = false) :
    s.claimSent num = s.withCm { s.cm with own := s.cm.own.map fun b =>
      if b.desc.num = num ∧ b.state = .tentative ∧ b.sent = false then { b with sent := true, listen := some s.cfg.tLSN }
      else b } := by
  have hmap : (s.cm.own.map fun b => if b.desc.num = num then
        if b.state = .tentative ∧ b.sent = false then { b with sent := true, listen := some s.cfg.tLSN } else b
      else b) = s.cm.own.map fun b =>
        if b.desc.num = num ∧ b.state = .tentative ∧ b.sent = false then
          { b with sent := true, listen := some s.cfg.tLSN } else b :=
    List.map_congr_left fun b _ => by
      by_cases hb : b.desc.num = num
      · simp only [hb, if_true, true_and]
      · simp only [hb, if_false, false_and]
  unfold State.claimSent
  rw [if_neg (by rw [h]; decide)]
  exact congrArg (fun l => s.withCm { s.cm with own := l }) hmap

/-- The RELEASE of a booking that has gone while its CLAIM was unsent is offered (R61). -/
theorem State.claimSent_gone (s : State) {num : Nat} (h : s.cm.unsent.contains num = true)
    (hphase : s.sp.phase = .running) (hroom : s.hlc.queue.length + s.hlc.slots.length < 16) :
    s.claimSent num = (s.queued [.release num]).withCm { s.cm with unsent := s.cm.unsent.filter (· != num) } := by
  unfold State.claimSent
  rw [if_pos h, State.offerRelease_running (s.withCm { s.cm with unsent := s.cm.unsent.filter (· != num) }) num hphase hroom]
  rfl

/-- With room a RAMP-CANCEL offered is queued. -/
theorem State.offerCancel_room (s : State) (num : Nat) (hphase : s.sp.phase = .running)
    (hroom : s.hlc.queue.length + s.hlc.slots.length < 16) : s.offerCancel num = s.queued [.rampCancel num] := by
  unfold State.offerCancel
  simp only [s.offer_running _ hphase hroom, if_true]

/-- The RAMP-CANCEL of an intent that has gone while unsent is offered (R88). -/
theorem State.intentSent_gone (s : State) {num : Nat} (n : Nat) (h : s.rl.unsent.contains num = true)
    (hphase : s.sp.phase = .running) (hroom : s.hlc.queue.length + s.hlc.slots.length < 16) :
    s.intentSent num n = (s.queued [.rampCancel num]).withRl { s.rl with unsent := s.rl.unsent.filter (· != num) } := by
  unfold State.intentSent
  rw [if_pos h, State.offerCancel_room (s.withRl { s.rl with unsent := s.rl.unsent.filter (· != num) }) num hphase hroom]
  rfl

/-- The ticks of the intents whose link order precedes `n`. -/
def State.ticksBefore (s : State) (num n : Nat) : List Nat :=
  (s.rl.intents.filter fun z => !(z.own.isSome && z.num == num)
    && (z.order.map fun o => seqPrecedes o n).getD false).map Intent.tick

theorem State.recheckPasses_eq (s : State) (num tick n : Nat) :
    s.recheckPasses num tick n = windowRule s.cfg.nRMP s.cfg.tWRMP (s.ticksBefore num n) tick := by
  have hfilter : (s.rl.intents.filter fun x => !(x.own.isSome && x.num == num)
      && (match x.order with
        | some o => seqPrecedes o n
        | none => false)) = s.rl.intents.filter fun z => !(z.own.isSome && z.num == num)
      && (z.order.map fun o => seqPrecedes o n).getD false :=
    List.filter_congr fun z _ => by cases z.order <;> rfl
  exact congrArg (fun l => windowRule s.cfg.nRMP s.cfg.tWRMP (l.map Intent.tick) tick) hfilter

/-- An intent that passes the re-check is ANNOUNCED under its link order (R89). -/
theorem State.intentSent_passes (s : State) {num n : Nat} {y : Intent} (h : s.rl.unsent.contains num = false)
    (hy : s.unsentIntent num = some y) (hpass : windowRule s.cfg.nRMP s.cfg.tWRMP (s.ticksBefore num n) y.tick = true) :
    s.intentSent num n = s.withRl { s.rl with intents := s.rl.intents.map (Intent.announce num n) } := by
  unfold State.intentSent
  rw [if_neg (by rw [h]; decide), hy]
  simp only
  rw [if_pos ((s.recheckPasses_eq num y.tick n).trans hpass)]

/-- One that fails is withdrawn with a RAMP-CANCEL, and a tick is picked again (R89). -/
theorem State.intentSent_fails (s : State) {num n : Nat} {y : Intent} (h : s.rl.unsent.contains num = false)
    (hy : s.unsentIntent num = some y) (hfail : windowRule s.cfg.nRMP s.cfg.tWRMP (s.ticksBefore num n) y.tick = false) :
    s.intentSent num n = (((s.filterIntents fun y => !y.isPending).hideIntent num).offerCancel num).pickAgain := by
  unfold State.intentSent
  rw [if_neg (by rw [h]; decide), hy]
  simp only
  rw [if_neg (by rw [s.recheckPasses_eq, hfail]; decide)]

/-! ## The pick made again (R87, R88) -/

/-- What a pick made again needs of the state it is made in: the log without its pending intents, the link at `l`, and
everything else but the plans' marks as it was. -/
structure State.PickState (s : State) (l : Link) (v : State) : Prop where
  hlc : v.hlc = l
  rl : v.rl = { s.rl with intents := s.rl.intents.filter fun z => !z.isPending }
  cm : v.cm = s.cm
  ts : v.ts = s.ts
  ed : v.ed = s.ed
  sp : v.sp = s.sp
  tb : v.tb = s.tb
  cfg : v.cfg = s.cfg
  reports : v.reports = []

theorem State.PickState.now_eq {s v : State} {l : Link} (h : s.PickState l v) : v.now = s.now := by
  unfold State.now
  rw [h.tb]

/-- The search is that of the intents left. -/
theorem State.PickState.findTick_eq {s v : State} {l : Link} (h : s.PickState l v) (q : PickReq) : v.findTick q =
    searchTick (windowRule s.cfg.nRMP s.cfg.tWRMP ((s.rl.intents.filter fun z => !z.isPending).map Intent.tick))
      q.desired q.lowest s.cfg.tSLK q.limit := by
  unfold State.findTick
  rw [h.cfg, h.rl]

/-- A tick found for the held request is offered. -/
theorem State.PickState.pickAgain_eq {s v : State} {l : Link} {q : PickReq} {tick : Nat} (h : s.PickState l v)
    (hreq : s.rl.request = some q)
    (hsearch : searchTick (windowRule s.cfg.nRMP s.cfg.tWRMP ((s.rl.intents.filter fun z => !z.isPending).map Intent.tick))
      (q.raise s.now).desired (q.raise s.now).lowest s.cfg.tSLK (q.raise s.now).limit = some tick) :
    v.pickAgain = v.offerIntent q tick := by
  have hfind : v.findTick (q.raise v.now) = some tick := by
    rw [h.now_eq, h.findTick_eq]
    exact hsearch
  unfold State.pickAgain
  rw [show v.rl.request = some q by rw [h.rl]; exact hreq]
  exact v.pickWithin_some q q tick hfind

/-- A pick made again from the held request (R87, R88). -/
theorem picksAgain_of {c : Instr} {s v : State} {q : PickReq} {l : Link} (hv : s.PickState l v)
    (hexec : exec c s = .next (drain reportFuel v.pickAgain)) (hphase : s.sp.phase = .running)
    (hroom : l.queue.length + l.slots.length < 16) (hreq : s.rl.request = some q) : PicksAgain c s q q l := by
  intro tick hseq hlen hsearch
  generalize hn : nextNumber s.rl.numCtr _ = num
  have hnow := hv.now_eq
  have hnum : nextNumber v.rl.numCtr v.intentNumbersUsed = num := by
    rw [← hn]
    unfold State.intentNumbersUsed
    rw [hv.rl]
  have hpick : v.pickAgain = v.offerIntent q tick := hv.pickAgain_eq hreq hsearch
  have hbase : v.rampBase = s.rampBase := by
    unfold State.rampBase
    rw [hnow, hv.cfg]
  have hsequencer : q.bySeq = false ∨ v.ts.state ≠ .tripped := by
    rw [hv.ts]
    exact hseq
  rw [hpick, v.offerIntent_room q tick hnum (by rw [hv.sp]; exact hphase) (by rw [hv.hlc]; exact hroom)
      (by rw [hv.rl]; exact hlen),
    drain_pickMade (by exact hsequencer) (by exact hv.reports)] at hexec
  refine ⟨_, hexec, ?_, ?_, ?_, ?_, hv.cm, hv.ts, hv.ed, hv.sp⟩
  · exact congrArg (fun k : Link => { k with queue := enqueue k.queue (.rampIntent num tick) }) hv.hlc
  · exact congrArg (fun r : RampLog => { r with
      intents := insertBy (intentBefore v.rampBase)
        { station := v.cfg.stationId, num := num, tick := tick, order := none, own := some .unsent } v.rl.intents
      numCtr := num, request := some { q with waiting := false } }) hv.rl
  · show List.Perm (insertBy _ _ v.rl.intents) _
    rw [hv.rl, hv.cfg]
    exact insertBy_perm _ _ _
  · intro p hp hid
    obtain ⟨y, -, rfl⟩ := List.mem_map.1 hp
    by_cases hy : y.id = q.plan
    · rw [if_pos hy]
    · rw [if_neg hy] at hid
      exact absurd hid hy

end Sys2Proof.Machine
end

section
/-! SUPPORT. Failed attempts: the charge, the drop, and what DROPPED reports do (R17, R20, R21, R42, R61, R81, R88, R145). -/

namespace Sys2Proof.Machine

-- Each pending proof holds a stack of its own: they are checked one after the other.
set_option Elab.async false

open Sys2Proof

/-! ## The charge -/

/-- A charge that leaves the head frame a further attempt. -/
theorem Link.charge_kept (l : Link) {hit : QFrame → Bool} {x : QFrame} {rest : List QFrame} (hqueue : l.queue = x :: rest)
    (hx : hit x = true) (hfew : x.attempts < 7) :
    l.charge hit = ({ l with queue := { x with attempts := x.attempts + 1 } :: rest }, none) := by
  have hcharge : chargeFirst hit (x :: rest) = ({ x with attempts := x.attempts + 1 } :: rest, none) := by
    unfold chargeFirst
    rw [if_pos hx, if_pos (show x.attempts + 1 < Config.attemptLimit by
      show _ < 8
      omega)]
  unfold Link.charge
  rw [hqueue, hcharge]

/-- The 8th charge drops the head frame. -/
theorem Link.charge_dropped (l : Link) {hit : QFrame → Bool} {x : QFrame} {rest : List QFrame} (hqueue : l.queue = x :: rest)
    (hx : hit x = true) (hmany : 7 ≤ x.attempts) :
    l.charge hit = ({ l with queue := rest, txErr := min 32 (l.txErr + 1) }, some x.frame) := by
  have hcharge : chargeFirst hit (x :: rest) = (rest, some x.frame) := by
    unfold chargeFirst
    rw [if_pos hx, if_neg (show ¬ x.attempts + 1 < Config.attemptLimit by
      show ¬ _ < 8
      omega)]
  unfold Link.charge
  rw [hqueue, hcharge]
  rfl

/-- The link after the head frame has been dropped. -/
def Link.lostHead (l : Link) (rest : List QFrame) : Link :=
  { l with attempt := none, queue := rest, txErr := min 32 (l.txErr + 1) }

/-- Frames in no attempt stay as they are when an attempt ends. -/
theorem map_sending_false {l : List QFrame} (h : ∀ y ∈ l, y.sending = false) :
    (l.map fun y => { y with sending := false }) = l :=
  (List.map_congr_left fun y hy => by rw [← h y hy]).trans (List.map_id' l)

theorem exec_attemptAbort_kept (s : State) {x : QFrame} {rest : List QFrame} (hqueue : s.hlc.queue = x :: rest)
    (hattempt : s.hlc.attempt ≠ none) (hx : x.sending = true) (hrest : ∀ y ∈ rest, y.sending = false)
    (hfew : x.attempts < 7) : exec .attemptAbort s = .next ((s.withReports []).withHlc
      { s.hlc with
        attempt := none, queue := { x with attempts := x.attempts + 1, sending := false } :: rest }) := by
  have heff : (s.withReports []).attemptAbort = (s.withReports []).withHlc { s.hlc with
      attempt := none, queue := { x with attempts := x.attempts + 1, sending := false } :: rest } := by
    unfold State.attemptAbort
    rw [if_pos (show (s.withReports []).hlc.attempt.isSome = true from Option.isSome_iff_ne_none.2 hattempt)]
    simp only [State.withReports_hlc, s.hlc.charge_kept hqueue hx hfew]
    refine congrArg (State.withHlc (s.withReports [])) ?_
    unfold Link.endAttempt
    rw [List.map_cons, map_sending_false hrest]
  show run State.attemptAbort s = _
  rw [run_rest _ s (by rw [heff]; rfl), heff]

theorem exec_attemptAbort_dropped (s : State) {x : QFrame} {rest : List QFrame} (hqueue : s.hlc.queue = x :: rest)
    (hattempt : s.hlc.attempt ≠ none) (hx : x.sending = true) (hrest : ∀ y ∈ rest, y.sending = false)
    (hmany : 7 ≤ x.attempts) : exec .attemptAbort s = .next (drain reportFuel
      (((s.withReports []).withHlc (s.hlc.lostHead rest)).frameDropped x.frame)) := by
  have heff : (s.withReports []).attemptAbort =
      ((s.withReports []).withHlc (s.hlc.lostHead rest)).frameDropped x.frame := by
    unfold State.attemptAbort
    rw [if_pos (show (s.withReports []).hlc.attempt.isSome = true from Option.isSome_iff_ne_none.2 hattempt)]
    simp only [State.withReports_hlc, s.hlc.charge_dropped hqueue hx hmany]
    refine congrArg (fun l => State.frameDropped ((s.withReports []).withHlc l) x.frame) ?_
    unfold Link.endAttempt
    rw [map_sending_false hrest]
    rfl
  show run State.attemptAbort s = _
  rw [run_next, heff]

/-- A busy timeout may act: a frame waits, none is being sent, the phase sends, and the link has not failed. -/
theorem State.mayStart_waiting (s : State) {x : QFrame} {rest : List QFrame} (hqueue : s.hlc.queue = x :: rest)
    (hattempt : s.hlc.attempt = none) (hsends : sendsIn s.sp.phase = true) (herr : s.hlc.txErr < 32) :
    (s.withReports []).mayStart = true := by
  show (!s.hlc.queue.isEmpty && s.hlc.attempt.isNone && sendsIn s.sp.phase && decide (s.hlc.txErr < 32)) = true
  rw [hqueue, hattempt, hsends, decide_eq_true herr]
  rfl

theorem exec_busyTimeout_kept (s : State) {x : QFrame} {rest : List QFrame} (hqueue : s.hlc.queue = x :: rest)
    (hattempt : s.hlc.attempt = none) (hsends : sendsIn s.sp.phase = true) (herr : s.hlc.txErr < 32)
    (hfew : x.attempts < 7) : exec .busyTimeout s = .next ((s.withReports []).withHlc
      { s.hlc with
        attempt := none, queue := { x with attempts := x.attempts + 1, sending := x.sending } :: rest }) := by
  have heff : (s.withReports []).busyTimeout = (s.withReports []).withHlc { s.hlc with
      attempt := none, queue := { x with attempts := x.attempts + 1, sending := x.sending } :: rest } := by
    unfold State.busyTimeout State.chargeFrame
    rw [if_pos (s.mayStart_waiting hqueue hattempt hsends herr)]
    simp only [State.withReports_hlc, s.hlc.charge_kept hqueue (hit := fun _ => true) rfl hfew]
    rw [← hattempt]
  show run State.busyTimeout s = _
  rw [run_rest _ s (by rw [heff]; rfl), heff]

theorem exec_busyTimeout_dropped (s : State) {x : QFrame} {rest : List QFrame} (hqueue : s.hlc.queue = x :: rest)
    (hattempt : s.hlc.attempt = none) (hsends : sendsIn s.sp.phase = true) (herr : s.hlc.txErr < 32)
    (hmany : 7 ≤ x.attempts) : exec .busyTimeout s = .next (drain reportFuel
      (((s.withReports []).withHlc (s.hlc.lostHead rest)).frameDropped x.frame)) := by
  have heff : (s.withReports []).busyTimeout =
      ((s.withReports []).withHlc (s.hlc.lostHead rest)).frameDropped x.frame := by
    unfold State.busyTimeout State.chargeFrame
    rw [if_pos (s.mayStart_waiting hqueue hattempt hsends herr)]
    simp only [State.withReports_hlc, s.hlc.charge_dropped hqueue (hit := fun _ => true) rfl hmany]
    unfold Link.lostHead
    rw [← hattempt]
  show run State.busyTimeout s = _
  rw [run_next, heff]

/-! ## The claim map's DROPPED reports (R61, R81) -/

/-- A CLAIM dropped for a booking that has gone takes it off the unsent list. -/
theorem State.claimDropped_gone (s : State) {num : Nat} (h : s.cm.unsent.contains num = true) :
    s.claimDropped num = s.withCm { s.cm with unsent := s.cm.unsent.filter (· != num) } := if_pos h

/-- A CLAIM dropped takes its booking away, and its requester is told (R61). -/
theorem State.claimDropped_booked (s : State) {num : Nat} {b : OwnBooking} (h : s.cm.unsent.contains num = false)
    (hb : s.ownBooking num = some b) (hstate : b.state = .tentative) (hsent : b.sent = false) :
    s.claimDropped num = (s.withCm { s.cm with own := s.cm.own.filter fun z => z.desc.num != num }).withReports
      (s.reports ++ [.stopTest] ++ [.told b.req num .dropped, .permitTest, .restartTest]) := by
  unfold State.claimDropped
  rw [if_neg (by rw [h]; decide), hb]
  exact if_pos ⟨hstate, hsent⟩

/-- A plan with no route in service is BLOCKED at its route choice (R140). -/
theorem State.chooseRoute_unserviceable (s : State) {p : Plan} (hexcluded : p.excluded = [])
    (hroutes : ∀ r ∈ s.routesTo p.ant, s.serviceable p.ant r.2.steps = false) : s.chooseRoute p = s.blockPlan p := by
  have hall : (s.routesTo p.ant).filter (fun r => !p.excluded.contains r.1) = s.routesTo p.ant :=
    List.filter_eq_self.2 fun r _ => by simp [hexcluded]
  have hnone : ((s.routesTo p.ant).map fun r => (r.2.steps, s.planOn p r.1 r.2.steps)).filter
      (fun x => s.routeFree x.2.1 x.1 (x.2.1.w.getD 0)) = [] := by
    refine List.filter_eq_nil_iff.2 fun x hx => ?_
    obtain ⟨r, hr, rfl⟩ := List.mem_map.1 hx
    have hant : (s.planOn p r.1 r.2.steps).1.ant = p.ant := rfl
    simp [State.routeFree, hant, hroutes r hr]
  have hsame : { p with excluded := [] } = p := by rw [← hexcluded]
  unfold State.chooseRoute
  simp only [hall, hnone, hsame]
  split
  · rfl
  · rfl

/-- A routing plan whose CLAIM was dropped is to choose its route again (R61, R142). -/
theorem State.planTold_dropped (s : State) {p : Plan} {n : Nat} (hplans : s.cp.plans = [p]) (hstate : p.state = .routing)
    (hcont : p.cont = false) (hbooking : p.booking = some n) : s.planTold p.id n .dropped =
      (s.withCp { s.cp with plans := [{ p with booking := none, state := .routing }] }).report [.routeChoice p.id] := by
  have hput := State.putPlan_alone s (q := { p with booking := none, state := .routing }) hplans rfl
  have hwaits : p.state.waiting = true := by rw [hstate]; rfl
  unfold State.planTold
  rw [State.plan_of_singleton hplans]
  dsimp only
  rw [if_neg (by simp [hbooking]), if_pos hwaits, hput, if_neg (by simp [hcont])]

/-- The one plan, routing without a booking, is BLOCKED where no route is in service (R140). -/
theorem State.chooseFor_unserviceable (s : State) {p : Plan} (hplans : s.cp.plans = [p]) (hstate : p.state = .routing)
    (hbooking : p.booking = none) (hcont : p.cont = false) (hexcluded : p.excluded = [])
    (hroutes : ∀ r ∈ s.routesTo p.ant, s.serviceable p.ant r.2.steps = false) :
    s.chooseFor p.id = s.withCp { s.cp with plans := [{ p with state := .blocked }] } := by
  unfold State.chooseFor
  rw [State.plan_of_singleton hplans]
  dsimp only
  rw [if_pos ⟨.inl hstate, hbooking, hcont⟩, s.chooseRoute_unserviceable hexcluded hroutes]
  exact State.putPlan_alone s hplans rfl

/-- A routing plan whose CLAIM was dropped chooses again, and with no route in service it is BLOCKED (R61, R140). -/
theorem drain_claimDropped (s : State) {p : Plan} {n : Nat} (hplans : s.cp.plans = [p]) (hphase : s.sp.phase = .running)
    (hidle : s.ts.state = .idle) (hstate : p.state = .routing) (hcont : p.cont = false) (hexcluded : p.excluded = [])
    (hroutes : ∀ r ∈ s.routesTo p.ant, s.serviceable p.ant r.2.steps = false) (hbooking : p.booking = some n)
    (hreports : s.reports = [.stopTest, .told (.plan p.id) n .dropped, .permitTest, .restartTest]) :
    drain reportFuel s = (s.withReports []).withCp
      { s.cp with plans := [{ p with booking := none, state := .blocked }] } := by
  obtain ⟨u, hu⟩ : ∃ u, u = s.withCp { s.cp with plans := [{ p with booking := none, state := .routing }] } := ⟨_, rfl⟩
  have hstop : ∀ l, deliver .stopTest (s.withReports l) = s.withReports l := fun l =>
    State.stopTest_other (s := s.withReports l) (fun h => nomatch h.symm.trans hphase)
  have htold : ∀ l, deliver (.told (.plan p.id) n .dropped) (s.withReports l) = u.withReports (l ++ [.routeChoice p.id]) :=
    fun l => by
      rw [hu]
      exact State.planTold_dropped (s.withReports l) hplans hstate hcont hbooking
  have htests : ∀ r ∈ [Report.permitTest, .restartTest], ∀ rest, deliver r (u.withReports rest) = u.withReports rest := by
    intro r hr rest
    have hidle' : u.ts.state = .idle := by
      rw [hu]
      exact hidle
    simp only [List.mem_cons, List.not_mem_nil, or_false] at hr
    rcases hr with rfl | rfl
    · simp [deliver, State.permitTest, hidle']
    · simp [deliver, State.restartTest, hidle']
  have hchoice : deliver (.routeChoice p.id) (u.withReports []) = (s.withReports []).withCp
      { s.cp with plans := [{ p with booking := none, state := .blocked }] } := by
    rw [hu]
    exact State.chooseFor_unserviceable
      ((s.withCp { s.cp with plans := [{ p with booking := none, state := .routing }] }).withReports []) rfl rfl rfl hcont
      hexcluded hroutes
  calc drain reportFuel s
      = drain (99998 + 1) (deliver .stopTest (s.withReports _)) := drain_cons 99999 s _ _ hreports
    _ = drain (99998 + 1) (s.withReports _) := congrArg _ (hstop _)
    _ = drain 99998 (deliver (.told (.plan p.id) n .dropped) (s.withReports [.permitTest, .restartTest])) :=
        drain_cons 99998 _ _ _ rfl
    _ = drain 99998 (u.withReports ([.permitTest, .restartTest] ++ [.routeChoice p.id])) := congrArg _ (htold _)
    _ = drain (99995 + 1) (u.withReports [.routeChoice p.id]) :=
        drain_skip [.permitTest, .restartTest] 99998 _ _ rfl (by decide) htests
    _ = drain 99995 (deliver (.routeChoice p.id) (u.withReports [])) := drain_cons 99995 _ _ _ rfl
    _ = _ := by
      rw [hchoice]
      exact drain_rest _ _ rfl

end Sys2Proof.Machine
end

section
/-! SUPPORT. What the producers do with DROPPED reports, told of the state after the frame has gone (R42, R61, R81, R88,
R145), and the end of an attempt as a whole. -/

namespace Sys2Proof.Machine

-- Each pending proof holds a stack of its own: they are checked one after the other.
set_option Elab.async false

open Sys2Proof

/-! ## DROPPED reports -/

/-- A dropped AIR is owed again while its booking is ACTIVE (R81). -/
theorem State.frameDropped_air (s : State) (n : Nat) : s.frameDropped (.air n) = s.withCm { s.cm with
    own := s.cm.own.map fun b => if b.desc.num = n ∧ b.state = .active then { b with owedAir := true } else b } := by
  have hmap : (s.cm.own.map fun b => if b.desc.num = n then
        if b.state = .active then { b with owedAir := true } else b
      else b) = s.cm.own.map fun b =>
        if b.desc.num = n ∧ b.state = .active then { b with owedAir := true } else b :=
    List.map_congr_left fun b _ => by
      by_cases hb : b.desc.num = n
      · simp only [hb, if_true, true_and]
      · simp only [hb, if_false, false_and]
  exact congrArg (fun l => s.withCm { s.cm with own := l }) hmap

/-- Frames that are not offered again: BEACON, OBJECT, RAMP-CANCEL, REFUSED, and a MOVE with no current plan (R42, R145). -/
theorem State.frameDropped_spent (s : State) {f : Frame} (h : (∃ b, f = .beacon b) ∨ (∃ a n o, f = .object a n o)
    ∨ (∃ n, f = .rampCancel n) ∨ (∃ p, f = .position p ∧ p.report = 4)
    ∨ (s.currentPlan = none ∧ ∃ k i n g, f = .move k i n g)) : s.frameDropped f = s := by
  rcases h with ⟨b, rfl⟩ | ⟨a, n, o, rfl⟩ | ⟨n, rfl⟩ | ⟨p, rfl, hrefused⟩ | ⟨hcurrent, k, i, n, g, rfl⟩
  · rfl
  · rfl
  · rfl
  · exact if_pos (.inl hrefused)
  · show s.moveDropped k i n g = s
    unfold State.moveDropped
    rw [hcurrent]

/-- An item's kind is read back from its code. -/
theorem kindNat_inverse (k : ItemKind) : (if kindNat k = 0 then ItemKind.element else .antenna) = k := by
  cases k <;> rfl

/-- A dropped state POSITION of a home item is offered again with the item's state of now (R42). -/
theorem State.positionDropped_offered (s : State) {p : PosReport} {k : ItemKind} (hreport : p.report ≠ 4)
    (hkind : p.kind = kindNat k) (hhome : s.isHome k p.item = true) (hphase : s.sp.phase = .running)
    (hroom : s.hlc.queue.length + s.hlc.slots.length < 16)
    (hlone : ∀ f ∈ s.hlc.queue.map QFrame.frame ++ s.hlc.slots, ∀ p', f = .position p' → p'.kind = p.kind →
      p'.item = p.item → p'.report = 4) :
    s.positionDropped p = (s.queued [s.positionFrame k p.item]).setOwed k p.item false := by
  have hnone : s.positionOffered p.kind p.item = false := by
    refine Bool.eq_false_iff.2 fun hany => ?_
    obtain ⟨f, hf, htest⟩ := List.any_eq_true.1 hany
    cases f with
    | position p' =>
      simp only [Bool.and_eq_true, beq_iff_eq, bne_iff_ne] at htest
      obtain ⟨⟨hk, hi⟩, hr⟩ := htest
      exact hr (hlone _ hf p' rfl hk hi)
    | _ => exact nomatch htest
  have hk : (if p.kind = 0 then ItemKind.element else .antenna) = k := by rw [hkind, kindNat_inverse]
  have hdispatches : dispatchesIn s.phase = true := by
    rw [show s.phase = .running from hphase]
    rfl
  unfold State.positionDropped
  simp only [hk]
  rw [if_neg (by simp [hreport, hnone, hhome])]
  unfold State.owePosition
  rw [if_pos hdispatches, s.offer_running _ hphase hroom]
  rfl

/-- The owed mark is all of the view that `setOwed` changes. -/
theorem State.setOwed_views (s : State) (k : ItemKind) (item : Nat) (b : Bool) (i : Nat) :
    ((s.setOwed k item b).elv i).state = (s.elv i).state ∧ ((s.setOwed k item b).elv i).pos = (s.elv i).pos
      ∧ ((s.setOwed k item b).anv i).state = (s.anv i).state ∧ ((s.setOwed k item b).anv i).az = (s.anv i).az := by
  cases k with
  | element =>
    have helv := s.elv_putElv item i { s.elv item with owed := b }
    rw [show s.setOwed .element item b = s.putElv item { s.elv item with owed := b } from rfl, helv]
    refine ⟨?_, ?_, rfl, rfl⟩ <;> split <;> simp_all
  | antenna =>
    have hanv := s.anv_putAnv item i { s.anv item with owed := b }
    rw [show s.setOwed .antenna item b = s.putAnv item { s.anv item with owed := b } from rfl, hanv]
    refine ⟨rfl, rfl, ?_, ?_⟩ <;> split <;> simp_all

/-- `setOwed` changes the drive's record alone. -/
theorem State.setOwed_eq_withEd (s : State) (k : ItemKind) (item : Nat) (b : Bool) :
    ∃ e, s.setOwed k item b = s.withEd e := by
  cases k <;> exact ⟨_, rfl⟩

/-- A dropped MOVE still needed is offered again (R145). -/
theorem State.moveDropped_needed (s : State) {k : ItemKind} {item n g : Nat} {p : Plan} (hcurrent : s.currentPlan = some p)
    (hstate : p.state = .switching) (hbooking : p.booking = some n) (hhome : s.isHome k item = false)
    (hstands : s.planItemStands p k item = false) (hphase : s.sp.phase = .running)
    (hroom : s.hlc.queue.length + s.hlc.slots.length < 16) :
    s.moveDropped (kindNat k) item n g = s.queued [.move (kindNat k) item n g] := by
  unfold State.moveDropped
  simp only [hcurrent, kindNat_inverse]
  rw [if_pos ⟨hstate, hbooking, hstands⟩]
  unfold State.moveItem
  rw [if_neg (by rw [hhome]; decide)]
  simp only [s.offer_running _ hphase hroom, if_true]
  rfl

/-- A RAMP-INTENT dropped for an intent that has gone takes it off the unsent list. -/
theorem State.intentDropped_gone (s : State) {num : Nat} (h : s.rl.unsent.contains num = true) :
    s.intentDropped num = s.withRl { s.rl with unsent := s.rl.unsent.filter (· != num) } := if_pos h

/-- A dropped RAMP-INTENT is withdrawn and a tick picked again (R88). -/
theorem State.intentDropped_picks (s : State) {num : Nat} {y : Intent} (h : s.rl.unsent.contains num = false)
    (hy : s.unsentIntent num = some y) :
    s.intentDropped num = ((s.filterIntents fun y => !y.isPending).hideIntent num).pickAgain := by
  unfold State.intentDropped
  rw [if_neg (by rw [h]; decide), hy]

/-! ## The command after its effect -/

/-- The state in which the link stands at `l` and no report is outstanding. -/
def State.atLink (s : State) (l : Link) : State := (s.withReports []).withHlc l

/-- Withdrawing the pending intent and hiding it from the plans prepares a pick made again. -/
theorem State.PickState.withdrawn (s : State) (l : Link) (num : Nat) :
    s.PickState l (((s.atLink l).filterIntents fun y => !y.isPending).hideIntent num) where
  hlc := rfl
  rl := rfl
  cm := rfl
  ts := rfl
  ed := rfl
  sp := rfl
  tb := rfl
  cfg := rfl
  reports := rfl

/-- Frames queued after the withdrawal leave it prepared, with the link longer. -/
theorem State.PickState.queued {s v : State} {l : Link} (h : s.PickState l v) (fs : List Frame) :
    s.PickState { l with queue := fs.foldl enqueue l.queue } (v.queued fs) where
  hlc := congrArg (fun k : Link => { k with queue := fs.foldl enqueue k.queue }) h.hlc
  rl := h.rl
  cm := h.cm
  ts := h.ts
  ed := h.ed
  sp := h.sp
  tb := h.tb
  cfg := h.cfg
  reports := h.reports

/-- A dropped CLAIM takes its booking away; a quiet station does nothing more (R61). -/
theorem drain_claimDropped_quiet (s : State) {num : Nat} {b : OwnBooking} (hreports : s.reports = [])
    (hunsent : s.cm.unsent.contains num = false) (hb : s.ownBooking num = some b) (hstate : b.state = .tentative)
    (hsent : b.sent = false) (hquiet : s.quiet = true) :
    drain reportFuel (s.claimDropped num) = s.withCm { s.cm with
      own := s.cm.own.filter fun z => z.desc.num != num } := by
  have hidle : ∀ r ∈ [Report.stopTest, .told b.req num .dropped, .permitTest, .restartTest], r.idle = true := by
    simp [Report.idle]
  have hdrain := drain_quiet [.stopTest, .told b.req num .dropped, .permitTest, .restartTest] reportFuel
    ((s.withCm { s.cm with own := s.cm.own.filter fun z => z.desc.num != num }).withReports _) rfl
    (show 4 ≤ reportFuel by decide) hquiet hidle
  rw [s.claimDropped_booked hunsent hb hstate hsent, hreports]
  refine hdrain.trans ?_
  rw [← hreports]
  rfl

/-- A dropped CLAIM of a plan with no route in service leaves the plan BLOCKED without a booking (R61, R140). -/
theorem drain_claimDropped_plan (s : State) {num : Nat} {b : OwnBooking} {p : Plan} (hreports : s.reports = [])
    (hunsent : s.cm.unsent.contains num = false) (hb : s.ownBooking num = some b) (hstate : b.state = .tentative)
    (hsent : b.sent = false) (hphase : s.sp.phase = .running) (hidle : s.ts.state = .idle) (hplans : s.cp.plans = [p])
    (hown : s.cm.own = [b]) (hrouting : p.state = .routing) (hcont : p.cont = false) (hexcluded : p.excluded = [])
    (hroutes : ∀ r ∈ s.routesTo p.ant, s.serviceable p.ant r.2.steps = false) (hbooking : p.booking = some num)
    (hreq : b.req = .plan p.id) :
    drain reportFuel (s.claimDropped num) = (s.withCm { s.cm with own := [] }).withCp
      { s.cp with plans := [{ p with booking := none, state := .blocked }] } := by
  have hnone : (s.cm.own.filter fun z => z.desc.num != num) = [] := by
    rw [hown, List.filter_cons_of_neg (by simp [State.ownBooking_num hb])]
    rfl
  rw [s.claimDropped_booked hunsent hb hstate hsent, hreports, hnone, hreq]
  refine (drain_claimDropped ((s.withCm { s.cm with own := [] }).withReports _) hplans hphase hidle hrouting hcont
    hexcluded hroutes hbooking rfl).trans ?_
  rw [← hreports]
  rfl

end Sys2Proof.Machine
end

section
/-! SUPPORT. Attempts as a whole: what success and the 8th failed charge come to, for every kind of frame. -/

namespace Sys2Proof.Machine

-- Each pending proof holds a stack of its own: they are checked one after the other.
set_option Elab.async false

open Sys2Proof

/-- A producer's answer, rewritten under delivery. -/
theorem next_of_effect {c : Instr} {s u v : State} (hexec : exec c s = .next (drain reportFuel u)) (hu : u = v) :
    exec c s = .next (drain reportFuel v) := by
  rw [hexec, hu]

/-- A producer's answer that hands over no report is where the command ends. -/
theorem next_of_rest {c : Instr} {s u t : State} (hexec : exec c s = .next (drain reportFuel u)) (hu : u = t)
    (ht : t.reports = [] := by rfl) : exec c s = .next t := by
  rw [hexec, hu, drain_rest _ _ ht]

end Sys2Proof.Machine
end

section

open Sys2Proof Sys2Proof.Machine

/-- Settles O10: the link's own part is one equation for each command; what SENT and DROPPED reports come to is one lemma for
each producer. -/
theorem attemptsRunTheirCourse : Obligations.AttemptsRunTheirCourse := by
  intro s x rest hqueue w room
  refine ⟨exec_attemptStart s hqueue, exec_lostArbitration s, ?_, ?_⟩
  · intro hattempt hx hrest sent
    have hexec := exec_frameSent s hqueue hattempt hx hrest
    refine ⟨fun hclaim hintent => next_of_rest hexec (State.frameReported_other _ _ hclaim hintent), ?_, ?_⟩
    · intro d hd
      rw [hd] at hexec
      exact ⟨fun hunsent => next_of_rest hexec ((s.atLink sent).claimSent_listens hunsent),
        fun hunsent ⟨hphase, hroom⟩ => next_of_rest hexec ((s.atLink sent).claimSent_gone hunsent hphase hroom)⟩
    · intro num tick hf
      rw [hf] at hexec
      refine ⟨fun hunsent ⟨hphase, hroom⟩ =>
        next_of_rest hexec ((s.atLink sent).intentSent_gone _ hunsent hphase hroom), ?_⟩
      intro y hunsent hy before
      refine ⟨fun hpass => next_of_rest hexec ((s.atLink sent).intentSent_passes hunsent hy hpass), ?_⟩
      intro q hfail ⟨hphase, hroom⟩ hreq
      have hone : rest.length + s.hlc.slots.length < 16 := by omega
      refine picksAgain_of ((State.PickState.withdrawn s sent num).queued [.rampCancel num]) ?_ hphase ?_ hreq
      · exact next_of_effect hexec (((s.atLink sent).intentSent_fails hunsent hy hfail).trans
          (congrArg State.pickAgain (State.offerCancel_room _ num hphase hone)))
      · show (enqueue rest (.rampCancel num)).length + s.hlc.slots.length < 16
        rw [length_enqueue]
        omega
  · intro hrest lost gone fails
    have hfails : ∀ c still, (x.attempts < 7 → exec c s = .next (w.withHlc
          { s.hlc with attempt := none, queue := { x with attempts := x.attempts + 1, sending := still } :: rest })) →
        (7 ≤ x.attempts → exec c s = .next (drain reportFuel ((s.atLink lost).frameDropped x.frame))) →
        fails c still := by
      intro c still hkept hdropped
      refine ⟨hkept, fun hmany => ?_⟩
      have hexec := hdropped hmany
      refine ⟨fun hspent => next_of_rest hexec (State.frameDropped_spent _ hspent), fun n hn => ?_, fun n hn => ?_,
        fun d hd => ?_, fun p k hp hreport hkind hhome ⟨hphase, hroom⟩ hlone => ?_,
        fun k item n g p hm hcurrent hstate hbooking hhome hstands ⟨hphase, hroom⟩ => ?_, fun num tick hf => ?_⟩
      · rw [hn] at hexec
        exact next_of_rest hexec rfl
      · rw [hn] at hexec
        exact next_of_rest hexec (State.frameDropped_air _ n)
      · rw [hd] at hexec
        refine ⟨fun hunsent => next_of_rest hexec (State.claimDropped_gone _ hunsent), ?_⟩
        intro b hunsent hb hstate hsent
        refine ⟨fun hquiet => ?_, ?_⟩
        · exact hexec.trans (congrArg _
            (drain_claimDropped_quiet (s.atLink lost) rfl hunsent hb hstate hsent hquiet))
        · intro p hphase hexercise hidle hplans hown hrouting hcont hexcluded hroutes hbooking hreq
          exact hexec.trans (congrArg _ (drain_claimDropped_plan (s.atLink lost) rfl hunsent hb hstate hsent
            hphase hidle hplans hown hrouting hcont hexcluded hroutes hbooking hreq))
      · rw [hp] at hexec
        obtain ⟨e, he⟩ := State.setOwed_eq_withEd
          ((s.atLink lost).queued [(s.atLink lost).positionFrame k p.item]) k p.item false
        have heff := (s.atLink lost).positionDropped_offered hreport hkind hhome hphase hroom hlone
        refine ⟨_, next_of_rest hexec (heff.trans he), rfl, rfl, rfl, rfl, fun i => ?_⟩
        rw [← he]
        exact State.setOwed_views _ k p.item false i
      · rw [hm] at hexec ⊢
        exact next_of_rest hexec
          ((s.atLink lost).moveDropped_needed hcurrent hstate hbooking hhome hstands hphase hroom)
      · rw [hf] at hexec
        refine ⟨fun hunsent => next_of_rest hexec (State.intentDropped_gone _ hunsent), ?_⟩
        intro y q hunsent hy ⟨hphase, hroom⟩ hreq
        exact picksAgain_of (State.PickState.withdrawn s lost num)
          (next_of_effect hexec ((s.atLink lost).intentDropped_picks hunsent hy)) hphase hroom hreq
    exact ⟨fun hattempt hx => hfails _ _ (exec_attemptAbort_kept s hqueue hattempt hx hrest)
        (exec_attemptAbort_dropped s hqueue hattempt hx hrest),
      fun hattempt hsends herr => hfails _ _ (exec_busyTimeout_kept s hqueue hattempt hsends herr)
        (exec_busyTimeout_dropped s hqueue hattempt hsends herr)⟩

end

section
/-! SUPPORT. LOAD-ELEMENT, LOAD-ANTENNA and LOAD-ROUTE: each answer as the case of its checks, and what an accepted record
leaves (R34, R35, R36). -/

namespace Sys2Proof.Machine

open Sys2Proof

/-! ## A record stored under its key -/

/-- Each record under another key reads as before. -/
theorem State.element_stored (s : State) (id i : Nat) (r : ElementRec) (v : List (Nat × ElView)) :
    (s.withEd { s.ed with elements := putKey id r s.ed.elements, elView := v }).element i
      = if i = id then some r else s.element i := by
  unfold State.element
  split
  · next h => rw [h]; exact lookupKey_putKey_self _ _ _
  · next h => exact lookupKey_putKey_other _ _ _ _ h

theorem State.antenna_stored (s : State) (id i : Nat) (r : AntennaRec) (v : List (Nat × AnView)) :
    (s.withEd { s.ed with antennas := putKey id r s.ed.antennas, anView := v }).antenna i
      = if i = id then some r else s.antenna i := by
  unfold State.antenna
  split
  · next h => rw [h]; exact lookupKey_putKey_self _ _ _
  · next h => exact lookupKey_putKey_other _ _ _ _ h

/-- A view put where it is read changes no view: a load gives an unloaded item the fresh one. -/
theorem State.elv_putElv_self (s : State) (id i : Nat) : (s.putElv id (s.elv id)).elv i = s.elv i := by
  rw [s.elv_putElv]
  split
  · next h => rw [h]
  · rfl

theorem State.anv_putAnv_self (s : State) (id i : Nat) : (s.putAnv id (s.anv id)).anv i = s.anv i := by
  rw [s.anv_putAnv]
  split
  · next h => rw [h]
  · rfl

/-! ## LOAD-ELEMENT (R34) -/

/-- The fields of a LOAD-ELEMENT are in range. -/
def elementInRange (l : List Byte) : Prop :=
  field l 0 1 ≤ 95 ∧ field l 1 1 ≤ 15 ∧ 2 ≤ field l 2 1 ∧ field l 2 1 ≤ 8 ∧ 1 ≤ field l 3 2 ∧ field l 3 2 ≤ 1000
    ∧ field l 7 1 ≤ 1

/-- The record an accepted LOAD-ELEMENT stores. -/
def elementLoaded (l : List Byte) : ElementRec :=
  { home := field l 1 1, count := field l 2 1, rating := field l 3 2
    nominal := (max 100 (min 60000 (field l 5 2)) + 9) / 10, inService := field l 7 1 == 1 }

/-- How many other elements have the home of a LOAD-ELEMENT. -/
def State.elementsBeside (s : State) (l : List Byte) : Nat :=
  s.ed.elements.countP fun p => p.1 != field l 0 1 && p.2.home == field l 1 1

theorem State.doLoadElement_outOfRange (s : State) {l : List Byte} (h : ¬ elementInRange l) :
    s.doLoadElement l = s.answer .badArg := by
  unfold elementInRange at h
  exact if_pos (by omega)

theorem State.doLoadElement_full (s : State) {l : List Byte} (h : elementInRange l) (hfull : 16 ≤ s.elementsBeside l) :
    s.doLoadElement l = s.answer .full := by
  unfold elementInRange at h
  exact (if_neg (by omega)).trans (if_pos hfull)

/-- A loaded step that the new record would no longer fit refuses it, after FULL (assumption 25). -/
theorem State.doLoadElement_unfit (s : State) {l : List Byte} (h : elementInRange l) (hroom : s.elementsBeside l < 16)
    (hloaded : s.element (field l 0 1) ≠ none)
    (hstep : ∃ r ∈ s.ed.routes, ∃ st ∈ r.2.steps, st.1 = field l 0 1 ∧ field l 2 1 ≤ st.2) :
    s.doLoadElement l = s.answer .badArg := by
  unfold elementInRange at h
  refine (if_neg (by omega)).trans ((if_neg (Nat.not_le.2 hroom)).trans (if_pos ?_))
  simpa [Option.isSome_iff_ne_none, hloaded] using hstep

theorem State.doLoadElement_accepted (s : State) {l : List Byte} (h : elementInRange l)
    (hroom : s.elementsBeside l < 16)
    (hsteps : ∀ r ∈ s.ed.routes, ∀ st ∈ r.2.steps, st.1 = field l 0 1 → st.2 < field l 2 1) :
    s.doLoadElement l = (s.withEd { s.ed with
        elements := putKey (field l 0 1) (elementLoaded l) s.ed.elements
        elView := putKey (field l 0 1) (s.elv (field l 0 1)) s.ed.elView }).answer
      (if 100 ≤ field l 5 2 ∧ field l 5 2 ≤ 60000 then .ok else .okClamped) := by
  unfold elementInRange at h
  have hfit : ((s.element (field l 0 1)).isSome
      && s.ed.routes.any fun r => r.2.steps.any fun st => st.1 == field l 0 1 && decide (field l 2 1 ≤ st.2)) = false := by
    simp only [Bool.and_eq_false_imp, List.any_eq_false, List.any_eq_true]
    rintro - r hr ⟨st, hst, hunfit⟩
    obtain ⟨hid, hcount⟩ : st.1 = field l 0 1 ∧ field l 2 1 ≤ st.2 := by simpa using hunfit
    exact absurd (hsteps r hr st hst hid) (Nat.not_lt.2 hcount)
  refine (if_neg (by omega)).trans ((if_neg (Nat.not_le.2 hroom)).trans ((if_neg (by rw [hfit]; simp)).trans ?_))
  have hnominal : msTicks (clampTo 100 60000 (field l 5 2)).1 = (max 100 (min 60000 (field l 5 2)) + 9) / 10 :=
    msTicks_of_le (Nat.le_trans (by decide) (Nat.le_max_left _ _))
  rw [State.okIf, clampTo_changed (by decide), hnominal]
  congr 1
  by_cases hms : 100 ≤ field l 5 2 ∧ field l 5 2 ≤ 60000 <;> simp [hms]

/-! ## LOAD-ANTENNA (R35) -/

/-- The slew fields of a LOAD-ANTENNA. -/
def slewLoaded (l : List Byte) : SlewRec :=
  { lo := field l 7 2, hi := field l 9 2, rate := field l 11 1, deflt := field l 12 2 }

/-- The fields of a LOAD-ANTENNA are in range. -/
def antennaInRange (l : List Byte) : Prop :=
  let w := slewLoaded l
  field l 0 1 ≤ 31 ∧ field l 1 1 ≤ 15 ∧ field l 2 2 ≤ 16383 ∧ 1 ≤ field l 4 2 ∧ field l 4 2 ≤ 1000
    ∧ (field l 6 1 = 0 ∨ (field l 6 1 = 1 ∧ w.lo ≤ w.hi ∧ w.hi ≤ 359 ∧ 5 ≤ w.rate ∧ w.rate ≤ 200
      ∧ w.lo ≤ w.deflt ∧ w.deflt ≤ w.hi))

/-- The record an accepted LOAD-ANTENNA stores. -/
def antennaLoaded (l : List Byte) : AntennaRec :=
  { home := field l 1 1, bands := field l 2 2, rating := field l 4 2
    slew := if field l 6 1 = 1 then some (slewLoaded l) else none }

/-- How many other antennas have the home of a LOAD-ANTENNA. -/
def State.antennasBeside (s : State) (l : List Byte) : Nat :=
  s.ed.antennas.countP fun p => p.1 != field l 0 1 && p.2.home == field l 1 1

/-- LOAD-ANTENNA by its two checks. -/
theorem State.doLoadAntenna_eq (s : State) (l : List Byte) [Decidable (antennaInRange l)] :
    s.doLoadAntenna l = if ¬ antennaInRange l then s.answer .badArg
      else if 8 ≤ s.antennasBeside l then s.answer .full
      else (s.withEd { s.ed with
        antennas := putKey (field l 0 1) (antennaLoaded l) s.ed.antennas
        anView := putKey (field l 0 1) (s.anv (field l 0 1)) s.ed.anView }).answer .ok := by
  unfold State.doLoadAntenna
  extract_lets id home bands rating slewable w
  have hbad : (31 < id ∨ 15 < home ∨ 16383 < bands ∨ rating < 1 ∨ 1000 < rating ∨ 1 < slewable
      ∨ (slewable = 1 ∧ (359 < w.hi ∨ w.hi < w.lo ∨ w.rate < 5 ∨ 200 < w.rate ∨ w.deflt < w.lo
        ∨ w.hi < w.deflt))) ↔ ¬ antennaInRange l := by
    show _ ↔ ¬ (id ≤ 31 ∧ home ≤ 15 ∧ bands ≤ 16383 ∧ 1 ≤ rating ∧ rating ≤ 1000
      ∧ (slewable = 0 ∨ (slewable = 1 ∧ w.lo ≤ w.hi ∧ w.hi ≤ 359 ∧ 5 ≤ w.rate ∧ w.rate ≤ 200
        ∧ w.lo ≤ w.deflt ∧ w.deflt ≤ w.hi)))
    omega
  simp only [hbad]
  rfl

/-! ## LOAD-ROUTE (R36) -/

theorem distinctSteps_iff (l : List (Nat × Nat)) : distinctSteps l = true ↔ (l.map Prod.fst).Nodup := by
  induction l with
  | nil => simp [distinctSteps]
  | cons st rest ih =>
    simp only [distinctSteps, Bool.and_eq_true, Bool.not_eq_true', List.any_eq_false, beq_iff_eq, ih, List.map_cons,
      List.nodup_cons, List.mem_map]
    exact and_congr_left fun _ => ⟨fun h ⟨x, hx, e⟩ => h x hx e, fun h x hx e => h ⟨x, hx, e⟩⟩

/-- Two bytes make a step. -/
theorem length_stepPairs (n : Nat) : ∀ l : List Byte, l.length = 2 * n → (stepPairs l).length = n := by
  induction n with
  | zero => intro l h; rw [List.length_eq_zero_iff.1 h]; rfl
  | succ n ih =>
    intro l h
    match l, h with
    | a :: b :: rest, h =>
      simp only [stepPairs, List.length_cons, ih rest (by simp at h; omega)]

/-- A field inside the payload does not read the bytes clocked in after it. -/
theorem field_append {l : List Byte} (extra : List Byte) {off k : Nat} (h : off + k ≤ l.length) :
    field (l ++ extra) off k = field l off k := by
  unfold field
  rw [List.drop_append_of_le_length (by omega), List.take_append_of_le_length (by simp; omega)]

/-- The fields of a LOAD-ROUTE are in range: its antenna is loaded, and its steps name loaded elements at positions of
theirs, none twice. -/
def State.routeInRange (s : State) (l : List Byte) : Prop :=
  field l 0 1 ≤ 47 ∧ (s.antenna (field l 1 1)).isSome = true ∧ field l 2 1 ≤ 2
    ∧ (∀ st ∈ stepPairs (l.drop 4), ∃ e, s.element st.1 = some e ∧ st.2 < e.count)
    ∧ ((stepPairs (l.drop 4)).map Prod.fst).Nodup

/-- The record an accepted LOAD-ROUTE stores. -/
def routeLoaded (l : List Byte) : RouteRec :=
  { antenna := field l 1 1, pref := field l 2 1, steps := stepPairs (l.drop 4) }

/-- How many other routes lead to the antenna of a LOAD-ROUTE. -/
def State.routesBeside (s : State) (l : List Byte) : Nat :=
  s.ed.routes.countP fun p => p.1 != field l 0 1 && p.2.antenna == field l 1 1

/-- LOAD-ROUTE, with as many bytes as its step count announces, by its two checks. -/
theorem State.doLoadRoute_eq (s : State) {l : List Byte} (hlen : l.length = 4 + 2 * field l 3 1)
    (hone : 1 ≤ field l 3 1) (hsix : field l 3 1 ≤ 6) [Decidable (s.routeInRange l)] :
    s.doLoadRoute l = if ¬ s.routeInRange l then s.answer .badArg
      else if 3 ≤ s.routesBeside l then s.answer .full
      else (s.withEd { s.ed with
        routes := putKey (field l 0 1) (routeLoaded l) s.ed.routes }).answer .ok := by
  have hcount : (stepPairs (l.drop 4)).length = field l 3 1 := length_stepPairs _ _ (by simp; omega)
  have htake : (stepPairs (l.drop 4)).take (field l 3 1) = stepPairs (l.drop 4) := by
    rw [← hcount, List.take_length]
  have hsome : (stepPairs (l.drop 4)).isEmpty = false := by
    cases hl : stepPairs (l.drop 4) with
    | nil => rw [hl] at hcount; simp at hcount; omega
    | cons => rfl
  have hall : (stepPairs (l.drop 4)).all (fun st => match s.element st.1 with
      | some r => decide (st.2 < r.count)
      | none => false) = true ↔ ∀ st ∈ stepPairs (l.drop 4), ∃ e, s.element st.1 = some e ∧ st.2 < e.count := by
    rw [List.all_eq_true]
    refine forall₂_congr fun st _ => ?_
    cases s.element st.1 <;> simp
  unfold State.doLoadRoute
  extract_lets id ant pref steps stepOk
  have hsteps : steps = stepPairs (l.drop 4) := htake
  have hbad : (47 < id ∨ (s.antenna ant).isNone ∨ 2 < pref ∨ steps.isEmpty ∨ 6 < steps.length
      ∨ steps.all stepOk = false ∨ distinctSteps steps = false) ↔ ¬ s.routeInRange l := by
    rw [hsteps, hsome, hcount, ← Bool.not_eq_true (List.all _ _), ← Bool.not_eq_true (distinctSteps _), distinctSteps_iff,
      show (stepPairs (l.drop 4)).all stepOk = true ↔ _ from hall, State.routeInRange, ← Option.not_isSome]
    have : ¬ 6 < field l 3 1 := by omega
    grind
  simp only [hbad]
  rw [hsteps]
  rfl

end Sys2Proof.Machine
end

section
open Sys2Proof Sys2Proof.Machine

/-- Settles O51: each load by the cases of its checks, served with its answer; an accepted record is read back under its
key, and no other is touched. -/
theorem plantRecordsAreLoaded : Obligations.PlantRecordsAreLoaded := by
  classical
  intro s l extra hresp hphase win id
  refine ⟨fun hlen => ?_, fun hlen => ?_, fun hlen hone hsix => ?_⟩
  · have serves := fun {a : Answer} => serves_of_effect (c := .loadElement win) (s := s) (code := 3) (payload := l)
      (extra := extra) rfl hresp rfl (by simp [payloadLength, hlen]) (by omega) (by simp [takenIn, hphase]) (a := a)
    intro home count rating ms valid others
    refine ⟨fun h => serves (State.doLoadElement_outOfRange _ h) rfl,
      fun h hfull => serves (State.doLoadElement_full _ h hfull) rfl,
      fun h hroom hloaded hstep => serves (State.doLoadElement_unfit _ h hroom hloaded hstep) rfl, fun h hroom hsteps => ?_⟩
    refine ⟨_, serves (State.doLoadElement_accepted _ h hroom hsteps) rfl, rfl, ?_, fun i hi => ?_,
      fun i => s.elv_putElv_self id i⟩
    · exact (s.element_stored id id (elementLoaded l) _).trans (if_pos rfl)
    · exact (s.element_stored id i (elementLoaded l) _).trans (if_neg hi)
  · have serves := fun {a : Answer} => serves_of_effect (c := .loadAntenna win) (s := s) (code := 4) (payload := l)
      (extra := extra) rfl hresp rfl (by simp [payloadLength, hlen]) (by omega) (by simp [takenIn, hphase]) (a := a)
    have heq := fun u : State => u.doLoadAntenna_eq l
    intro home w valid others
    refine ⟨fun h => serves ((heq _).trans (if_pos h)) rfl,
      fun h hfull => serves ((heq _).trans ((if_neg (not_not.2 h)).trans (if_pos hfull))) rfl, fun h hroom => ?_⟩
    refine ⟨_, serves ((heq _).trans ((if_neg (not_not.2 h)).trans (if_neg (Nat.not_le.2 hroom)))) rfl, rfl, ?_,
      fun i hi => ?_, fun i => s.anv_putAnv_self id i⟩
    · exact (s.antenna_stored id id (antennaLoaded l) _).trans (if_pos rfl)
    · exact (s.antenna_stored id i (antennaLoaded l) _).trans (if_neg hi)
  · have hcount : field (l ++ extra) 3 1 = field l 3 1 := field_append extra (by omega)
    have serves := fun {a : Answer} => serves_of_effect (c := .loadRoute win) (s := s) (code := 5) (payload := l)
      (extra := extra) rfl hresp rfl
      (by simp only [payloadLength, hcount, List.length_append]
          rw [if_pos (by omega), hlen]) (by omega) (by simp [takenIn, hphase]) (a := a)
    have heq := fun u : State => u.doLoadRoute_eq hlen hone hsix
    intro steps valid others
    refine ⟨fun h => serves ((heq _).trans (if_pos h)) rfl,
      fun h hfull => serves ((heq _).trans ((if_neg (not_not.2 h)).trans (if_pos hfull))) rfl, fun h hroom => ?_⟩
    refine ⟨_, serves ((heq _).trans ((if_neg (not_not.2 h)).trans (if_neg (Nat.not_le.2 hroom)))) rfl, rfl, ?_,
      fun i hi => ?_⟩
    · exact lookupKey_putKey_self id (routeLoaded l) _
    · exact lookupKey_putKey_other i id (routeLoaded l) _ hi
end

section
/-! SUPPORT. The plant: the element drive and the levels on its lines. What the other blocks do leaves it as it was, and so
does delivery while no exercise is in progress; here that is said once of every operation that delivery calls, in the order
of the model's files. -/

namespace Sys2Proof.Machine

open Sys2Proof

/-- What only the element drive, its commands and the exercise change. -/
structure Plant where
  ed   : Drive
  pins : Pins

/-- The plant of a state. -/
def State.plant (s : State) : Plant := { ed := s.ed, pins := s.pins }

theorem State.ed_of_plant {s t : State} (h : t.plant = s.plant) : t.ed = s.ed := congrArg Plant.ed h

theorem State.pins_of_plant {s t : State} (h : t.plant = s.plant) : t.pins = s.pins := congrArg Plant.pins h

/-! ## Setters -/

@[simp] theorem State.withTb_plant (s : State) (v : Timebase) : (s.withTb v).plant = s.plant := rfl
@[simp] theorem State.withHlc_plant (s : State) (v : Link) : (s.withHlc v).plant = s.plant := rfl
@[simp] theorem State.withCm_plant (s : State) (v : ClaimMap) : (s.withCm v).plant = s.plant := rfl
@[simp] theorem State.withRl_plant (s : State) (v : RampLog) : (s.withRl v).plant = s.plant := rfl
@[simp] theorem State.withSs_plant (s : State) (v : Schedule) : (s.withSs v).plant = s.plant := rfl
@[simp] theorem State.withPd_plant (s : State) (v : Directory) : (s.withPd v).plant = s.plant := rfl
@[simp] theorem State.withCp_plant (s : State) (v : Planner) : (s.withCp v).plant = s.plant := rfl
@[simp] theorem State.withTs_plant (s : State) (v : Sequencer) : (s.withTs v).plant = s.plant := rfl
@[simp] theorem State.withSp_plant (s : State) (v : Port) : (s.withSp v).plant = s.plant := rfl
@[simp] theorem State.withFlags_plant (s : State) (v : Flags) : (s.withFlags v).plant = s.plant := rfl
@[simp] theorem State.withReports_plant (s : State) (v : List Report) : (s.withReports v).plant = s.plant := rfl
@[simp] theorem State.report_plant (s : State) (rs : List Report) : (s.report rs).plant = s.plant := rfl

/-- A fold of operations that leave the plant leaves it. -/
@[simp] theorem foldl_plant {α : Type} (f : State → α → State) (hf : ∀ s x, (f s x).plant = s.plant)
    (l : List α) : ∀ s : State, (l.foldl f s).plant = s.plant := by
  induction l with
  | nil => intro s; rfl
  | cons x rest ih => intro s; exact (ih _).trans (hf s x)

theorem State.plant_of_bookingFrame {s t : State} (h : s.bookingFrame t) : t.plant = s.plant := by
  rw [h]; rfl

/-! ## The preset directory -/

@[simp] theorem State.setPresetSet_plant (s : State) (i : Nat) (x : PresetSet) :
    (s.setPresetSet i x).plant = s.plant := rfl

@[simp] theorem State.dualMatch_plant (s : State) (f a : Nat) : (s.dualMatch f a).plant = s.plant := by
  simp only [State.dualMatch]
  split <;> rfl

@[simp] theorem State.lookup_plant (s : State) (f a : Nat) : (s.lookup f a).1.plant = s.plant := by
  simp only [State.lookup]
  (repeat' split) <;> simp

@[simp] theorem State.releasePin_plant (s : State) (i w : Nat) : (s.releasePin i w).plant = s.plant := rfl

@[simp] theorem State.tuneStartRead_plant (s : State) (i w f a : Nat) :
    (s.tuneStartRead i w f a).1.plant = s.plant := rfl

/-! ## The link and own bookings -/

@[simp] theorem State.offer_plant (s : State) (f : Frame) :
    (s.offer f).1.plant = s.plant := State.plant_of_bookingFrame (s.bookingFrame_offer f)

@[simp] theorem State.updOwn_plant (s : State) (num : Nat) (f : OwnBooking → OwnBooking) :
    (s.updOwn num f).plant = s.plant := rfl

@[simp] theorem State.removeOwn_plant (s : State) (b : OwnBooking) (release : Bool) :
    (s.removeOwn b release).plant = s.plant := State.plant_of_bookingFrame (s.bookingFrame_removeOwn b release)

@[simp] theorem State.endOwn_plant (s : State) (b : OwnBooking) (what : Told) :
    (s.endOwn b what).plant = s.plant := State.plant_of_bookingFrame (s.bookingFrame_endOwn b what)

@[simp] theorem State.releaseTest_plant (s : State) :
    s.releaseTest.plant = s.plant := State.plant_of_bookingFrame (s.bookingFrame_releaseTest)

@[simp] theorem State.releaseBooking_plant (s : State) (num : Nat) :
    (s.releaseBooking num).plant = s.plant := State.plant_of_bookingFrame (s.bookingFrame_releaseBooking num)

@[simp] theorem State.requestBooking_plant (s : State) (req : Requester) (d : Desc) :
    (s.requestBooking req d).1.plant = s.plant := State.plant_of_bookingFrame (s.bookingFrame_requestBooking req d)

/-! ## The ramp log -/

@[simp] theorem State.updPlan_plant (s : State) (id : Nat) (f : Plan → Plan) : (s.updPlan id f).plant = s.plant := rfl

@[simp] theorem State.showIntent_plant (s : State) (id : Nat) (i : Option (Nat × Nat)) :
    (s.showIntent id i).plant = s.plant := rfl

@[simp] theorem State.hideIntent_plant (s : State) (num : Nat) : (s.hideIntent num).plant = s.plant := rfl

@[simp] theorem State.insertIntent_plant (s : State) (x : Intent) : (s.insertIntent x).plant = s.plant := rfl

@[simp] theorem State.filterIntents_plant (s : State) (keep : Intent → Bool) :
    (s.filterIntents keep).plant = s.plant := rfl

@[simp] theorem State.offerCancel_plant (s : State) (num : Nat) : (s.offerCancel num).plant = s.plant := by
  simp only [State.offerCancel]
  split <;> simp

@[simp] theorem State.withdrawIntent_plant (s : State) : s.withdrawIntent.plant = s.plant := by
  simp only [State.withdrawIntent]
  (repeat' split) <;> simp

@[simp] theorem State.cancelPick_plant (s : State) : s.cancelPick.plant = s.plant := by simp [State.cancelPick]

@[simp] theorem State.roomForOwn_plant (s : State) : s.roomForOwn.plant = s.plant := by
  simp only [State.roomForOwn]
  (repeat' split) <;> simp

@[simp] theorem State.offerIntent_plant (s : State) (q : PickReq) (t : Nat) :
    (s.offerIntent q t).plant = s.plant := by
  simp only [State.offerIntent]
  split <;> simp

@[simp] theorem State.pickWithin_plant (s : State) (q search : PickReq) :
    (s.pickWithin q search).plant = s.plant := by
  cases h : s.findTick (search.raise s.now) with
  | some t => rw [s.pickWithin_some q search t h]; exact s.offerIntent_plant q t
  | none => rw [s.pickWithin_none q search h]; rfl

@[simp] theorem State.pickFrom_plant (s : State) (q : PickReq) :
    (s.pickFrom q).plant = s.plant := by simp [State.pickFrom]

@[simp] theorem State.requestPick_plant (s : State) (q : PickReq) : (s.requestPick q).plant = s.plant := by
  unfold State.requestPick
  split <;> simp

@[simp] theorem State.tuneEnded_plant (s : State) (q : PickReq) : (s.tuneEnded q).plant = s.plant := by
  simp only [State.tuneEnded]
  (repeat' split) <;> simp

/-! ## The transmitter sequencer -/

@[simp] theorem State.retime_plant (s : State) : s.retime.plant = s.plant := rfl

@[simp] theorem State.setSeq_plant (s : State) (st : SeqState) :
    (s.setSeq st).plant = s.plant := by simp [State.setSeq]

@[simp] theorem State.send_plant (s : State) (m : TxMsg) : (s.send m).plant = s.plant := rfl

@[simp] theorem State.dropTrips_plant (s : State) : s.dropTrips.plant = s.plant := rfl

@[simp] theorem State.enterLockout_plant (s : State) : s.enterLockout.plant = s.plant := by simp [State.enterLockout]

@[simp] theorem State.enterTripped_plant (s : State) : s.enterTripped.plant = s.plant := by simp [State.enterTripped]

@[simp] theorem State.trip_plant (s : State) (c : TripCause) : (s.trip c).plant = s.plant := by
  simp only [State.trip]
  split <;> simp

@[simp] theorem State.permitTest_plant (s : State) : s.permitTest.plant = s.plant := by
  simp only [State.permitTest]
  (repeat' split) <;> simp

@[simp] theorem State.commandTune_plant (s : State) (freq program t : Nat) (pos : Option (Nat × Nat × Nat)) :
    (s.commandTune freq program t pos).plant = s.plant := by
  simp only [State.commandTune]
  (repeat' split) <;> simp

@[simp] theorem State.rampDown_plant (s : State) : s.rampDown.plant = s.plant := by
  unfold State.rampDown
  split <;> simp

@[simp] theorem State.abandonRestart_plant (s : State) : s.abandonRestart.plant = s.plant := rfl

@[simp] theorem State.restartTest_plant (s : State) : s.restartTest.plant = s.plant := by
  simp only [State.restartTest]
  (repeat' split) <;> simp

@[simp] theorem State.restartPicked_plant (s : State) (plan : Nat) : (s.restartPicked plan).plant = s.plant := by
  simp only [State.restartPicked]
  (repeat' split) <;> simp

@[simp] theorem State.leaveTripped_plant (s : State) : s.leaveTripped.plant = s.plant := by
  simp only [State.leaveTripped]
  (repeat' split) <;> simp

/-! ## The changeover planner -/

@[simp] theorem State.logRecord_plant (s : State) (r : AirRecord) : (s.logRecord r).plant = s.plant := by
  unfold State.logRecord
  split <;> rfl

@[simp] theorem State.planLeaves_plant (s : State) (p : Plan) : (s.planLeaves p).plant = s.plant := by
  unfold State.planLeaves
  split <;> simp

@[simp] theorem State.dropPin_plant (s : State) (p : Plan) : (s.dropPin p).plant = s.plant := by
  unfold State.dropPin
  split <;> simp

@[simp] theorem State.dropBooking_plant (s : State) (p : Plan) : (s.dropBooking p).plant = s.plant := by
  unfold State.dropBooking
  split <;> simp

@[simp] theorem State.dropPlan_plant (s : State) (p : Plan) (out : Option (AirOutcome × Option AirCause)) :
    (s.dropPlan p out).plant = s.plant := by
  unfold State.dropPlan
  split <;> simp

@[simp] theorem State.putPlan_plant (s : State) (p : Plan) : (s.putPlan p).plant = s.plant := rfl

@[simp] theorem State.blockPlan_plant (s : State) (p : Plan) : (s.blockPlan p).plant = s.plant := rfl

@[simp] theorem State.claimFor_plant (s : State) (p : Plan) (d : Desc) : (s.claimFor p d).plant = s.plant := by
  simp only [State.claimFor]
  split <;> simp

@[simp] theorem State.chooseRoute_plant (s : State) (p : Plan) : (s.chooseRoute p).plant = s.plant := by
  simp only [State.chooseRoute]
  (repeat' split) <;> simp

@[simp] theorem State.chooseFor_plant (s : State) (id : Nat) : (s.chooseFor id).plant = s.plant := by
  simp only [State.chooseFor]
  (repeat' split) <;> simp

@[simp] theorem State.retryBlocked_plant (s : State) : s.retryBlocked.plant = s.plant := by simp [State.retryBlocked]

@[simp] theorem State.recompute_plant (s : State) (id : Nat) : (s.recompute id).plant = s.plant := by
  simp only [State.recompute]
  (repeat' split) <;> simp

@[simp] theorem State.recomputeAll_plant (s : State) : s.recomputeAll.plant = s.plant := by simp [State.recomputeAll]

@[simp] theorem State.voidPin_plant (s : State) (set way : Nat) : (s.voidPin set way).plant = s.plant := by
  simp only [State.voidPin]
  rw [foldl_plant _ State.recompute_plant, foldl_plant _ fun s id => s.updPlan_plant id _]

@[simp] theorem State.lookupFor_plant (s : State) (p : Plan) :
    (s.lookupFor p).1.plant = s.plant := by simp [State.lookupFor]

@[simp] theorem State.planFresh_plant (s : State) (p : Plan) :
    (s.planFresh p).plant = s.plant := by simp [State.planFresh]

@[simp] theorem State.stopContinuation_plant (s : State) (p : Plan) :
    (s.stopContinuation p).plant = s.plant := by simp [State.stopContinuation]

@[simp] theorem State.planContinuation_plant (s : State) (p q : Plan) : (s.planContinuation p q).plant = s.plant := by
  simp only [State.planContinuation]
  split <;> simp

@[simp] theorem State.takeOffer_plant (s : State) (o : Offer) : (s.takeOffer o).1.plant = s.plant := by
  simp only [State.takeOffer]
  (repeat' split) <;> simp

@[simp] theorem State.contCheck_plant (s : State) : s.contCheck.plant = s.plant := by
  refine foldl_plant _ (fun s id => ?_) _ s
  (repeat' split) <;> simp

@[simp] theorem State.finishPlan_plant (s : State) (p : Plan) :
    (s.finishPlan p).plant = s.plant := by simp [State.finishPlan]

@[simp] theorem State.planReleased_plant (s : State) (p : Plan) :
    (s.planReleased p).plant = s.plant := by simp [State.planReleased]

@[simp] theorem State.enterEnding_plant (s : State) (p : Plan) (out : Option (AirOutcome × AirCause)) :
    (s.enterEnding p out).plant = s.plant := by
  simp only [State.enterEnding]
  (repeat' split) <;> simp

@[simp] theorem State.readAtTune_plant (s : State) (p : Plan) : (s.readAtTune p).1.plant = s.plant := by
  simp only [State.readAtTune]
  (repeat' split) <;> simp

@[simp] theorem State.startTune_plant (s : State) (p : Plan) : (s.startTune p).plant = s.plant := by
  simp only [State.startTune]
  split <;> simp

@[simp] theorem State.planTold_plant (s : State) (id num : Nat) (what : Told) :
    (s.planTold id num what).plant = s.plant := by
  simp only [State.planTold]
  (repeat' split) <;> simp

@[simp] theorem State.routeFault_plant (s : State) (p : Plan) :
    (s.routeFault p).plant = s.plant := by simp [State.routeFault]

@[simp] theorem State.planMoveRefused_plant (s : State) (num : Nat) (kind : ItemKind) (item _reason : Nat) :
    (s.planMoveRefused num kind item _reason).plant = s.plant := by
  simp only [State.planMoveRefused]
  (repeat' split) <;> simp

@[simp] theorem State.planViewChanged_plant (s : State) (kind : ItemKind) (item : Nat) :
    (s.planViewChanged kind item).plant = s.plant := by
  simp only [State.planViewChanged]
  (repeat' split) <;> simp

@[simp] theorem State.planHomeGone_plant (s : State) (kind : ItemKind) (item : Nat) :
    (s.planHomeGone kind item).plant = s.plant := by
  simp only [State.planHomeGone]
  (repeat' split) <;> simp

@[simp] theorem State.planTuned_plant (s : State) : s.planTuned.plant = s.plant := by
  simp only [State.planTuned]
  (repeat' split) <;> simp

@[simp] theorem State.planTuneFailed_plant (s : State) : s.planTuneFailed.plant = s.plant := by
  simp only [State.planTuneFailed]
  (repeat' split) <;> simp

@[simp] theorem State.planPickRefused_plant (s : State) (id : Nat) : (s.planPickRefused id).plant = s.plant := by
  simp only [State.planPickRefused]
  (repeat' split) <;> simp

@[simp] theorem State.planTripped_plant (s : State) : s.planTripped.plant = s.plant := by
  simp only [State.planTripped]
  (repeat' split) <;> simp

@[simp] theorem State.planLockedOut_plant (s : State) : s.planLockedOut.plant = s.plant := by
  unfold State.planLockedOut
  split <;> simp

@[simp] theorem State.planNoRestart_plant (s : State) : s.planNoRestart.plant = s.plant := by
  simp only [State.planNoRestart]
  (repeat' split) <;> simp

/-! ## The schedule store -/

@[simp] theorem State.markEntry_plant (s : State) (idx abs : Nat) : (s.markEntry idx abs).plant = s.plant := rfl

@[simp] theorem State.markAdhoc_plant (s : State) (slot : Nat) : (s.markAdhoc slot).plant = s.plant := rfl

@[simp] theorem State.offerOcc_plant (s : State) (o : OccRef) : (s.offerOcc o).plant = s.plant := by
  simp only [State.offerOcc]
  (repeat' split) <;> simp

@[simp] theorem State.openTest_plant (s : State) : s.openTest.plant = s.plant := by
  unfold State.openTest
  split <;> simp

/-! ## Reports -/

@[simp] theorem State.pickMade_plant (s : State) (plan : Nat) (bySeq : Bool) :
    (s.pickMade plan bySeq).plant = s.plant := by
  unfold State.pickMade
  split <;> simp

@[simp] theorem State.pickRefused_plant (s : State) (plan : Nat) (bySeq : Bool) :
    (s.pickRefused plan bySeq).plant = s.plant := by
  unfold State.pickRefused
  split <;> simp

/-! ## Delivery -/

/-- While no exercise is in progress a report that is none of the drive's own phases leaves the plant. -/
theorem deliver_plant (r : Report) (s : State) (hex : s.ed.exercise = none) (hgo : s.sp.phase ≠ .stopping) :
    (deliver r s).plant = s.plant := by
  cases r with
  | told req num what => cases req <;> simp [deliver, State.told, State.exerciseTold, hex]
  | moveRefused => simp [deliver, State.moveRefused, hex]
  | elementSet => simp [deliver, State.exerciseSet, hex]
  | elementFault => simp [deliver, State.exerciseStops, hex]
  | stopTest => simp [deliver, State.stopTest, State.phase, hgo]
  | _ => simp [deliver]

/-- What is handed over within a step leaves the plant, while no exercise is in progress. -/
theorem drain_plant (n : Nat) (s : State) (hex : s.ed.exercise = none) (hgo : s.sp.phase ≠ .stopping) :
    (drain n s).plant = s.plant := by
  refine (drain_induct (P := fun u => u.plant = s.plant ∧ u.sp.phase = s.sp.phase) (fun _ _ hu => hu)
    (fun r u ⟨hplant, hphase⟩ => ?_) n s ⟨rfl, rfl⟩).1
  have hgo' : u.sp.phase ≠ .stopping := hphase ▸ hgo
  exact ⟨(deliver_plant r u (State.ed_of_plant hplant ▸ hex) hgo').trans hplant,
    (congrArg Clock.phase (deliver_clock r u fun _ => hgo')).trans hphase⟩

end Sys2Proof.Machine
end

section
/-! SUPPORT. The views of the plant: what a change of one view entry, its report and the delivery after them leave in the
element drive (R37, R42). -/

namespace Sys2Proof.Machine

open Sys2Proof

/-! ## Views read from the plant -/

theorem State.elv_of_plant {s t : State} (h : t.plant = s.plant) (i : Nat) : t.elv i = s.elv i := by
  unfold State.elv
  rw [State.ed_of_plant h]

theorem State.anv_of_plant {s t : State} (h : t.plant = s.plant) (i : Nat) : t.anv i = s.anv i := by
  unfold State.anv
  rw [State.ed_of_plant h]

/-- A command outside STOPPING, while no exercise is in progress: what it delivers leaves plant and clock as its effect left
them. -/
theorem run_plant {f : State → State} {s : State} (hex : (f (s.withReports [])).ed.exercise = none)
    (hgo : (f (s.withReports [])).sp.phase ≠ .stopping) :
    ∃ t, run f s = .next t ∧ t.plant = (f (s.withReports [])).plant ∧ t.clock = (f (s.withReports [])).clock :=
  ⟨_, rfl, drain_plant _ _ hex hgo, drain_clock _ _ hgo⟩

/-- The same in RUNNING, for a command whose effect leaves the clock. -/
theorem run_plant_running {f : State → State} {s : State} (hphase : s.sp.phase = .running)
    (hclock : (f (s.withReports [])).clock = s.clock) (hex : (f (s.withReports [])).ed.exercise = none) :
    ∃ t, run f s = .next t ∧ t.plant = (f (s.withReports [])).plant ∧ t.clock = s.clock := by
  obtain ⟨t, hrun, hplant, htclock⟩ := run_plant hex (by
    rw [show (f (s.withReports [])).sp.phase = .running from (State.phase_of_clock hclock).trans hphase]
    decide)
  exact ⟨t, hrun, hplant, htclock.trans hclock⟩

/-! ## One view entry changed -/

@[simp] theorem State.judgeOne_plant (s : State) (b : OwnBooking) : (s.judgeOne b).plant = s.plant := by
  simp only [State.judgeOne, State.tell]
  (repeat' split) <;> simp

@[simp] theorem State.judgeItem_plant (s : State) (kind : ItemKind) (item : Nat) :
    (s.judgeItem kind item).plant = s.plant := by simp [State.judgeItem]

theorem State.changeElv_plant (s : State) (id : Nat) (v : ElView) : (s.changeElv id v).plant = (s.putElv id v).plant := by
  simp only [State.changeElv, State.viewChange]
  (repeat' split) <;> simp

theorem State.changeAnv_plant (s : State) (id : Nat) (v : AnView) : (s.changeAnv id v).plant = (s.putAnv id v).plant := by
  simp only [State.changeAnv, State.viewChange]
  split <;> simp

/-- Of the plant only the view entry of element `id` differs: it is `v`, but for the owed mark. -/
structure State.ShowsElement (s t : State) (id : Nat) (v : ElView) : Prop where
  ed     : t.ed = { s.ed with elView := t.ed.elView }
  pins   : t.pins = s.pins
  entry  : ∃ owed, t.elv id = { v with owed := owed }
  others : ∀ i, i ≠ id → t.elv i = s.elv i

/-- Of the plant only the view entry of antenna `id` differs: it is `v`, but for the owed mark. -/
structure State.ShowsAntenna (s t : State) (id : Nat) (v : AnView) : Prop where
  ed     : t.ed = { s.ed with anView := t.ed.anView }
  pins   : t.pins = s.pins
  entry  : ∃ owed, t.anv id = { v with owed := owed }
  others : ∀ i, i ≠ id → t.anv i = s.anv i

section
variable {s t : State} {id : Nat} {v : ElView} (h : s.ShowsElement t id v)
include h

theorem State.ShowsElement.state : (t.elv id).state = v.state := by
  obtain ⟨owed, e⟩ := h.entry
  rw [e]

theorem State.ShowsElement.pos : (t.elv id).pos = v.pos := by
  obtain ⟨owed, e⟩ := h.entry
  rw [e]

theorem State.ShowsElement.history : (t.elv id).history = v.history := by
  obtain ⟨owed, e⟩ := h.entry
  rw [e]

theorem State.ShowsElement.idle : (t.elv id).idle = v.idle := by
  obtain ⟨owed, e⟩ := h.entry
  rw [e]

theorem State.ShowsElement.motion : (t.elv id).motion = v.motion := by
  obtain ⟨owed, e⟩ := h.entry
  rw [e]

end

section
variable {s t : State} {id : Nat} {v : AnView} (h : s.ShowsAntenna t id v)
include h

theorem State.ShowsAntenna.state : (t.anv id).state = v.state := by
  obtain ⟨owed, e⟩ := h.entry
  rw [e]

theorem State.ShowsAntenna.az : (t.anv id).az = v.az := by
  obtain ⟨owed, e⟩ := h.entry
  rw [e]

end

theorem State.ShowsElement.of_plant {s t u : State} {id : Nat} {v : ElView} (h : s.ShowsElement t id v)
    (hu : u.plant = t.plant) : s.ShowsElement u id v where
  ed := by rw [State.ed_of_plant hu]; exact h.ed
  pins := (State.pins_of_plant hu).trans h.pins
  entry := by rw [State.elv_of_plant hu]; exact h.entry
  others i hi := (State.elv_of_plant hu i).trans (h.others i hi)

theorem State.ShowsAntenna.of_plant {s t u : State} {id : Nat} {v : AnView} (h : s.ShowsAntenna t id v)
    (hu : u.plant = t.plant) : s.ShowsAntenna u id v where
  ed := by rw [State.ed_of_plant hu]; exact h.ed
  pins := (State.pins_of_plant hu).trans h.pins
  entry := by rw [State.anv_of_plant hu]; exact h.entry
  others i hi := (State.anv_of_plant hu i).trans (h.others i hi)

theorem State.showsElement_putElv (s : State) (id : Nat) (v : ElView) : s.ShowsElement (s.putElv id v) id v :=
  ⟨rfl, rfl, ⟨v.owed, (s.elv_putElv id id v).trans (if_pos rfl)⟩, fun i hi => (s.elv_putElv id i v).trans (if_neg hi)⟩

theorem State.showsAntenna_putAnv (s : State) (id : Nat) (v : AnView) : s.ShowsAntenna (s.putAnv id v) id v :=
  ⟨rfl, rfl, ⟨v.owed, (s.anv_putAnv id id v).trans (if_pos rfl)⟩, fun i hi => (s.anv_putAnv id i v).trans (if_neg hi)⟩

/-- An owed report sets the owed mark or clears it; of the view it changes no more (R42). -/
theorem State.owePosition_plant (s : State) (kind : ItemKind) (item : Nat) :
    (s.owePosition kind item).plant = s.plant ∨ ∃ b, (s.owePosition kind item).plant = (s.setOwed kind item b).plant := by
  simp only [State.owePosition]
  split
  · have hed := State.ed_of_plant (s.offer_plant (s.positionFrame kind item))
    have hpins := State.pins_of_plant (s.offer_plant (s.positionFrame kind item))
    refine .inr ⟨!(s.offer (s.positionFrame kind item)).2, ?_⟩
    cases kind <;> simp [State.setOwed, State.putElv, State.putAnv, State.elv, State.anv, State.plant, hed, hpins]
  · exact .inl rfl

theorem State.ShowsElement.owePosition {s t : State} {id : Nat} {v : ElView} (h : s.ShowsElement t id v) :
    s.ShowsElement (t.owePosition .element id) id v := by
  rcases t.owePosition_plant .element id with e | ⟨b, e⟩
  · exact h.of_plant e
  · refine State.ShowsElement.of_plant (t := t.setOwed .element id b) ?_ e
    obtain ⟨owed, hentry⟩ := h.entry
    have hview := t.elv_putElv id (v := { t.elv id with owed := b })
    exact ⟨congrArg (fun d : Drive => { d with elView := (t.setOwed .element id b).ed.elView }) h.ed, h.pins,
      ⟨b, (hview id).trans (by rw [if_pos rfl, hentry])⟩, fun i hi => ((hview i).trans (if_neg hi)).trans (h.others i hi)⟩

theorem State.ShowsAntenna.owePosition {s t : State} {id : Nat} {v : AnView} (h : s.ShowsAntenna t id v) :
    s.ShowsAntenna (t.owePosition .antenna id) id v := by
  rcases t.owePosition_plant .antenna id with e | ⟨b, e⟩
  · exact h.of_plant e
  · refine State.ShowsAntenna.of_plant (t := t.setOwed .antenna id b) ?_ e
    obtain ⟨owed, hentry⟩ := h.entry
    have hview := t.anv_putAnv id (v := { t.anv id with owed := b })
    exact ⟨congrArg (fun d : Drive => { d with anView := (t.setOwed .antenna id b).ed.anView }) h.ed, h.pins,
      ⟨b, (hview id).trans (by rw [if_pos rfl, hentry])⟩, fun i hi => ((hview i).trans (if_neg hi)).trans (h.others i hi)⟩

/-- What a home element's view takes (R37, R42). -/
theorem State.showsElement_homeElv (s : State) (id : Nat) (state : ViewState) (pos : Option Nat) (motion : Nat) :
    s.ShowsElement (s.homeElv id state pos motion) id { s.elv id with state := state, pos := pos, motion := motion } :=
  ((s.showsElement_putElv id _).of_plant (s.changeElv_plant id _)).owePosition

/-- What a home antenna's view takes (R37, R42). -/
theorem State.showsAntenna_homeAnv (s : State) (id : Nat) (state : ViewState) (az : Option Nat) :
    s.ShowsAntenna (s.homeAnv id state az) id { s.anv id with state := state, az := az } :=
  ((s.showsAntenna_putAnv id _).of_plant (s.changeAnv_plant id _)).owePosition

end Sys2Proof.Machine
end

section
/-! SUPPORT. The sense lines (R204): what an item is sensed at once the lines of its channel take a level; and the ends of
motions and the changes that come unbidden, up to what they hand over (R47, R48, R50). -/

namespace Sys2Proof.Machine

open Sys2Proof

/-! ## Lines and what they show (R204) -/

/-- The position the lines of an element's channel show. -/
def ElementRec.shows (e : ElementRec) (valid : Bool) (code : Nat) : Option Nat :=
  if valid = true ∧ code < e.count then some code else none

/-- The azimuth a code of an antenna's lines shows. -/
def azimuthShown (code : Nat) : Option Nat := if code < 360 then some code else none

/-- The state with the lines of element channel `c` at a level. -/
def State.elLinesAt (s : State) (c : Nat) (valid : Bool) (code : Nat) : State :=
  s.withPins { s.pins with elLines := s.pins.elLines.set c (valid, code) }

/-- The state with the lines of antenna channel `c` at a level. -/
def State.anLinesAt (s : State) (c code : Nat) : State :=
  s.withPins { s.pins with anLines := s.pins.anLines.set c code }

theorem State.sensedPos_elLinesAt (s : State) {el c code : Nat} {valid : Bool} {e : ElementRec}
    (hchan : channelOf el s.ed.elChan = some c) (helement : s.element el = some e) (hc : c < s.pins.elLines.length) :
    (s.elLinesAt c valid code).sensedPos el = e.shows valid code := by
  have hline : (s.elLinesAt c valid code).pins.elLines[c]? = some (valid, code) := List.getElem?_set_self hc
  unfold State.sensedPos
  rw [show (s.elLinesAt c valid code).ed.elChan = s.ed.elChan from rfl, hchan,
    show (s.elLinesAt c valid code).element el = some e from helement]
  simp only [hline]
  cases valid <;> simp [ElementRec.shows]

theorem State.sensedAz_anLinesAt (s : State) {an c code : Nat} (hchan : channelOf an s.ed.anChan = some c)
    (hc : c < s.pins.anLines.length) : (s.anLinesAt c code).sensedAz an = azimuthShown code := by
  have hline : (s.anLinesAt c code).pins.anLines[c]? = some code := List.getElem?_set_self hc
  unfold State.sensedAz
  rw [show (s.anLinesAt c code).ed.anChan = s.ed.anChan from rfl, hchan]
  simp only [hline]
  rfl

theorem State.driveElLines_at (s : State) {el c code : Nat} (valid : Bool) (hchan : channelOf el s.ed.elChan = some c)
    (hcode : code ≤ 7) : s.driveElLines el valid code = s.elLinesAt c valid code := by
  unfold State.driveElLines
  rw [hchan]
  show s.withPins { s.pins with elLines := s.pins.elLines.set c (valid, code % 8) } = _
  rw [Nat.mod_eq_of_lt (by omega)]
  rfl

theorem State.driveAnLines_at (s : State) {an c code : Nat} (hchan : channelOf an s.ed.anChan = some c)
    (hcode : code ≤ 511) : s.driveAnLines an code = s.anLinesAt c code := by
  unfold State.driveAnLines
  rw [hchan]
  show s.withPins { s.pins with anLines := s.pins.anLines.set c (code % 512) } = _
  rw [Nat.mod_eq_of_lt (by omega)]
  rfl

/-! ## The end of a motion (R47, R40) -/

/-- The view entry of an element whose motion of `measured` ticks ends: the motion joins its history, its idle time
restarts (R40, R52). -/
def ElView.moved (v : ElView) (measured : Nat) : ElView :=
  { v with history := appendMotion v.history measured, idle := 0 }

/-- The state in which an element's motion has ended, its lines and its history as given. -/
def State.arrived (s : State) (el target measured : Nat) : State :=
  let u := (s.driveElLines el true target).withEd { s.ed with motion := none }
  u.putElv el ((u.elv el).moved measured)

theorem State.driveElLines_ed (s : State) (el : Nat) (valid : Bool) (code : Nat) :
    (s.driveElLines el valid code).ed = s.ed := by
  obtain ⟨pins, h⟩ := s.driveElLines_pins el valid code
  rw [h]
  rfl

theorem State.driveAnLines_ed (s : State) (an code : Nat) : (s.driveAnLines an code).ed = s.ed := by
  obtain ⟨pins, h⟩ := s.driveAnLines_pins an code
  rw [h]
  rfl

theorem State.targetSensed_some (s : State) {m : Motion} (hm : s.ed.motion = some m) :
    s.targetSensed = ((s.arrived m.req.item m.req.target (max 1 m.count)).homeElv m.req.item .set
      (some m.req.target) (max 1 m.count)).report [.elementSet m.req.item] := by
  unfold State.targetSensed
  rw [hm]
  simp only [State.arrived]
  rfl

theorem State.motionTimeout_some (s : State) {m : Motion} {valid : Bool} {code : Nat} (hm : s.ed.motion = some m)
    (htimer : m.timer = 0) (hoff : (s.driveElLines m.req.item valid code).sensedPos m.req.item ≠ some m.req.target) :
    s.motionTimeout valid code = (((s.driveElLines m.req.item valid code).withEd { s.ed with motion := none }).homeElv
      m.req.item .fault ((s.driveElLines m.req.item valid code).sensedPos m.req.item) 0).report
        [.elementFault m.req.item] := by
  obtain ⟨pins, hpins⟩ := s.driveElLines_pins m.req.item valid code
  rw [hpins] at hoff ⊢
  unfold State.motionTimeout
  rw [hm]
  simp only [hpins, if_pos (And.intro htimer hoff)]
  rfl

/-- The motion of an element ends at its target (R47). -/
theorem State.targetSensed_shows (s : State) {m : Motion} (hm : s.ed.motion = some m) :
    (s.arrived m.req.item m.req.target (max 1 m.count)).ShowsElement s.targetSensed m.req.item
      { (s.elv m.req.item).moved (max 1 m.count) with
        state := .set, pos := some m.req.target, motion := max 1 m.count } := by
  have hshow := (s.arrived m.req.item m.req.target (max 1 m.count)).showsElement_homeElv m.req.item .set
    (some m.req.target) (max 1 m.count)
  have helv : (s.arrived m.req.item m.req.target (max 1 m.count)).elv m.req.item
      = (s.elv m.req.item).moved (max 1 m.count) := (State.elv_putElv _ _ _ _).trans (if_pos rfl)
  rw [helv] at hshow
  rw [s.targetSensed_some hm]
  exact hshow.of_plant (State.report_plant _ _)

/-- The motion timer ends first: the drive stops and the element is FAULT at what its lines show (R47). -/
theorem State.motionTimeout_shows (s : State) {m : Motion} {valid : Bool} {code : Nat} (hm : s.ed.motion = some m)
    (htimer : m.timer = 0) (hoff : (s.driveElLines m.req.item valid code).sensedPos m.req.item ≠ some m.req.target) :
    ((s.driveElLines m.req.item valid code).withEd { s.ed with motion := none }).ShowsElement
      (s.motionTimeout valid code) m.req.item { s.elv m.req.item with
        state := .fault, pos := (s.driveElLines m.req.item valid code).sensedPos m.req.item, motion := 0 } := by
  rw [s.motionTimeout_some hm htimer hoff]
  exact (State.showsElement_homeElv _ _ _ _ _).of_plant (State.report_plant _ _)

end Sys2Proof.Machine
end

section
open Sys2Proof Sys2Proof.Machine

/-- Settles O18: each end of a motion changes one view entry, and what it hands over leaves the plant. -/
theorem motionsEnd : Obligations.MotionsEnd := by
  refine ⟨fun s m hphase hex hm hhistory => ?_, fun s m valid code c e hphase hex hm htimer hcode helement hchan hc hoff => ?_⟩
  · have hshow := (s.withReports []).targetSensed_shows hm
    have hed := hshow.ed
    obtain ⟨t, hexec, hplant, hclock⟩ := run_plant_running (f := State.targetSensed) hphase
      (State.targetSensed_clock _) (by rw [hed]; exact hex)
    have hshow := hshow.of_plant hplant
    have hmotion : appendMotion (s.elv m.req.item).history (max 1 m.count)
        = appendBounded Config.historySize (s.elv m.req.item).history (max 1 m.count) := if_neg (by omega)
    have hother : ∀ i, i ≠ m.req.item → t.elv i = s.elv i := fun i hi =>
      (hshow.others i hi).trans ((State.elv_putElv _ _ _ _).trans (if_neg hi))
    refine ⟨t, hexec, congrArg Drive.motion hshow.ed, congrArg Clock.tb hclock, hshow.state, hshow.pos, hshow.idle,
      hshow.motion, hshow.history.trans hmotion, ?_, fun i hi => ?_⟩
    · rw [hshow.history.trans hmotion]
      exact length_appendBounded 4 _ _ hhistory (by decide)
    · rw [hother i hi]
      exact ⟨rfl, rfl, rfl⟩
  · have hlines := (s.withReports []).driveElLines_at valid (el := m.req.item) (c := c) hchan hcode
    have hsensed : ((s.withReports []).elLinesAt c valid code).sensedPos m.req.item = e.shows valid code :=
      State.sensedPos_elLinesAt _ hchan helement hc
    have hmiss : e.shows valid code ≠ some m.req.target := by
      unfold ElementRec.shows
      split
      · next hvalid => exact fun h => hoff ⟨hvalid.1, hvalid.2, Option.some.inj h⟩
      · exact nofun
    have hshow := (s.withReports []).motionTimeout_shows (valid := valid) (code := code) hm htimer
      (by rw [hlines, hsensed]; exact hmiss)
    rw [hlines, hsensed] at hshow
    obtain ⟨t, hexec, hplant, -⟩ := run_plant_running (f := fun u => u.motionTimeout valid code) hphase
      (State.motionTimeout_clock _ _ _) (by rw [hshow.ed]; exact hex)
    have hshow := hshow.of_plant hplant
    exact ⟨t, hexec, congrArg Drive.motion hshow.ed, hshow.state, hshow.pos, hshow.history,
      congrArg Pins.elLines hshow.pins⟩
end

section
/-! SUPPORT. Unbidden changes of the sense lines, up to what they hand over (R48, R50). -/

namespace Sys2Proof.Machine

open Sys2Proof

/-- A command whose effect is known and hands nothing over. -/
theorem run_of_eq {f : State → State} {s t : State} (h : f (s.withReports []) = t) (hreports : t.reports = []) :
    run f s = .next t := by
  subst h
  exact run_rest f s hreports

theorem State.inMotion_element_isNone (s : State) {el : Nat} (h : ∀ m, s.ed.motion = some m → m.req.item ≠ el) :
    s.inMotion .element el = none := by
  unfold State.inMotion
  cases hm : s.ed.motion with
  | none => rfl
  | some m => simpa [Option.filter] using h m hm

theorem State.inMotion_antenna_isNone (s : State) {an : Nat} (h : ∀ w, s.ed.slew = some w → w.req.item ≠ an) :
    s.inMotion .antenna an = none := by
  unfold State.inMotion
  cases hw : s.ed.slew with
  | none => rfl
  | some w => simpa [Option.filter] using h w hw

section
variable {s : State} {c el code : Nat} {valid : Bool} (hchan : s.ed.elChan[c]? = some el) (hcode : code ≤ 7)
include hchan hcode

/-- What an unbidden change of an element's lines does (R48). -/
theorem State.unbiddenElement_eq : s.unbiddenElement c valid code =
    if (s.elLinesAt c valid code).sensedPos el = s.sensedPos el ∨ (s.inMotion .element el).isSome
        ∨ (s.elv el).state = .out then s.elLinesAt c valid code
    else (s.elLinesAt c valid code).homeElv el .fault ((s.elLinesAt c valid code).sensedPos el) 0 := by
  unfold State.unbiddenElement setAt
  rw [hchan, Nat.mod_eq_of_lt (by omega)]
  rfl

/-- Of an OUT element the lines change and no more. -/
theorem State.unbiddenElement_out (hout : (s.elv el).state = .out) :
    s.unbiddenElement c valid code = s.elLinesAt c valid code := by
  rw [State.unbiddenElement_eq hchan hcode, if_pos (.inr (.inr hout))]

/-- Any other element is FAULT at what its lines show. -/
theorem State.unbiddenElement_faults (hshown : (s.elLinesAt c valid code).sensedPos el ≠ s.sensedPos el)
    (hrest : s.inMotion .element el = none) (hout : (s.elv el).state ≠ .out) :
    s.unbiddenElement c valid code =
      (s.elLinesAt c valid code).homeElv el .fault ((s.elLinesAt c valid code).sensedPos el) 0 := by
  rw [State.unbiddenElement_eq hchan hcode, if_neg (by simp [hshown, hrest, hout])]

end

section
variable {s : State} {c an code : Nat} (hchan : s.ed.anChan[c]? = some an) (hcode : code ≤ 511)
include hchan hcode

/-- What an unbidden change of an antenna's lines does (R48, R50). -/
theorem State.unbiddenAntenna_eq : s.unbiddenAntenna c code =
    if (s.anLinesAt c code).sensedAz an = s.sensedAz an ∨ (s.inMotion .antenna an).isSome
        ∨ (s.anv an).state = .out ∨ (s.antenna an).bind AntennaRec.slew = none then s.anLinesAt c code
    else (s.anLinesAt c code).homeAnv an .fault ((s.anLinesAt c code).sensedAz an) := by
  unfold State.unbiddenAntenna setAt
  rw [hchan, Nat.mod_eq_of_lt (by omega)]
  rfl

/-- Of an antenna that is OUT or does not slew the lines change and no more. -/
theorem State.unbiddenAntenna_unheard (hout : (s.anv an).state = .out ∨ (s.antenna an).bind AntennaRec.slew = none) :
    s.unbiddenAntenna c code = s.anLinesAt c code := by
  rw [State.unbiddenAntenna_eq hchan hcode, if_pos (.inr (.inr hout))]

/-- Any other antenna is FAULT at what its lines show. -/
theorem State.unbiddenAntenna_faults (hshown : (s.anLinesAt c code).sensedAz an ≠ s.sensedAz an)
    (hrest : s.inMotion .antenna an = none) (hout : (s.anv an).state ≠ .out)
    (hslew : (s.antenna an).bind AntennaRec.slew ≠ none) :
    s.unbiddenAntenna c code = (s.anLinesAt c code).homeAnv an .fault ((s.anLinesAt c code).sensedAz an) := by
  rw [State.unbiddenAntenna_eq hchan hcode, if_neg (by simp [hshown, hrest, hout, hslew])]

end

end Sys2Proof.Machine
end

section
open Sys2Proof Sys2Proof.Machine

/-- Settles O20: the lines change; an item that is heard shows FAULT at them, and of any other nothing else changes. -/
theorem unbiddenChangeFaultsItem : Obligations.UnbiddenChangeFaultsItem := by
  constructor
  · intro s c el code valid e hphase hex hcode hc hat hchan helement hrest shown hshown
    have hsensed : ((s.withReports []).elLinesAt c valid code).sensedPos el = shown :=
      State.sensedPos_elLinesAt _ hchan helement hc
    by_cases hout : (s.elv el).state = .out
    · have hlines := (s.withReports []).unbiddenElement_out (valid := valid) hat hcode hout
      exact ⟨_, run_of_eq (f := fun u => u.unbiddenElement c valid code) hlines rfl, rfl, fun h => absurd hout h,
        fun _ => rfl⟩
    · have heq := (s.withReports []).unbiddenElement_faults (valid := valid) hat hcode (hsensed ▸ hshown)
        (State.inMotion_element_isNone _ hrest) hout
      have hshow := ((s.withReports []).elLinesAt c valid code).showsElement_homeElv el .fault shown 0
      rw [← hsensed, ← heq, hsensed] at hshow
      obtain ⟨t, hexec, hplant, -⟩ := run_plant_running (f := fun u => u.unbiddenElement c valid code) hphase
        (State.unbiddenElement_clock _ _ _ _) (by rw [hshow.ed]; exact hex)
      have hshow := hshow.of_plant hplant
      exact ⟨t, hexec, congrArg Pins.elLines hshow.pins, fun _ => ⟨hshow.state, hshow.pos⟩, fun h => absurd h hout⟩
  · intro s c an code valid a hphase hex hcode hc hat hchan hantenna hrest shown hshown
    have hsensed : ((s.withReports []).anLinesAt c code).sensedAz an = shown := State.sensedAz_anLinesAt _ hchan hc
    have hbind : (s.antenna an).bind AntennaRec.slew = a.slew := by rw [hantenna]; rfl
    by_cases hout : (s.anv an).state = .out ∨ a.slew = none
    · have hlines := (s.withReports []).unbiddenAntenna_unheard hat hcode (hbind ▸ hout)
      exact ⟨_, run_of_eq (f := fun u => u.unbiddenAntenna c code) hlines rfl, rfl,
        fun h h' => absurd hout (not_or.2 ⟨h, h'⟩), fun _ => rfl⟩
    · obtain ⟨hin, hslew⟩ := not_or.1 hout
      have heq := (s.withReports []).unbiddenAntenna_faults hat hcode (hsensed ▸ hshown)
        (State.inMotion_antenna_isNone _ hrest) hin (hbind ▸ hslew)
      have hshow := ((s.withReports []).anLinesAt c code).showsAntenna_homeAnv an .fault shown
      rw [← hsensed, ← heq, hsensed] at hshow
      obtain ⟨t, hexec, hplant, -⟩ := run_plant_running (f := fun u => u.unbiddenAntenna c code) hphase
        (State.unbiddenAntenna_clock _ _ _) (by rw [hshow.ed]; exact hex)
      have hshow := hshow.of_plant hplant
      exact ⟨t, hexec, congrArg Pins.anLines hshow.pins, fun _ _ => ⟨hshow.state, hshow.az⟩, fun h => absurd h hout⟩
end

section
/-! SUPPORT. The tests of a request (R44): what each asks, in words that name no Boolean operation; and what the refusal,
the answer and the turn of a request do (R42, R45, R46, R49). -/

namespace Sys2Proof.Machine

open Sys2Proof

/-! ## The tests of a request (R44) -/

/-- The booking asks for the item at the target; an exercise's asks for its element at any position (R44, R54). -/
def asksAt (d : Desc) (k : ItemKind) (item target : Nat) (exercise : Prop) : Prop :=
  match k with
  | .element => ∃ pos, (item, pos) ∈ d.steps ∧ (pos = target ∨ exercise)
  | .antenna => d.antenna = some item ∧ d.azimuth = some target

/-- The booking is on the item now (R44). -/
def State.Rivals (s : State) (k : ItemKind) (item : Nat) (d : Desc) : Prop :=
  d.includes k item = true ∧ containsTick d.start d.stop s.now = true

/-- The request's booking stands: its interval contains now, it asks for the item, and every other held booking on the item
now ranks behind it (R44). -/
def State.Stands (s : State) (k : ItemKind) (r : Request) (d : Desc) (x : Standing) (exercise : Prop) : Prop :=
  containsTick d.start d.stop s.now = true ∧ asksAt d k r.item r.target exercise
    ∧ (∀ b ∈ s.cm.own, ¬ (r.station = s.cfg.stationId ∧ b.desc.num = r.booking) → s.Rivals k r.item b.desc →
      x.ahead b.standing = true)
    ∧ ∀ y ∈ s.cm.map, y.isKey r.station r.booking = false → y.held = true → s.Rivals k r.item y.desc →
      x.ahead y.standing = true

/-- Test 3 of R44. -/
def State.Held (s : State) (k : ItemKind) (r : Request) : Prop :=
  (r.station = s.cfg.stationId ∧ ∃ b, s.ownBooking r.booking = some b
      ∧ s.Stands k r b.desc b.standing (b.req = .exercise))
    ∨ (¬ r.station = s.cfg.stationId ∧ ∃ y, s.peerRec r.station r.booking = some y ∧ y.held = true
      ∧ s.Stands k r y.desc y.standing False)

/-- Test 4 of R44. -/
def State.ActiveElsewhere (s : State) (k : ItemKind) (r : Request) : Prop :=
  (∃ b ∈ s.cm.own, b.state = .active ∧ b.desc.includes k r.item = true
      ∧ ¬ (r.station = s.cfg.stationId ∧ b.desc.num = r.booking))
    ∨ ∃ y ∈ s.cm.map, y.mark = .active ∧ y.desc.includes k r.item = true ∧ y.isKey r.station r.booking = false

theorem State.asksFor_iff (s : State) (d : Desc) (station booking : Nat) (k : ItemKind) (item target : Nat) :
    s.asksFor d station booking k item target = true ↔
      asksAt d k item target (s.isExercise station booking = true) := by
  cases k with
  | element => simp [State.asksFor, asksAt]
  | antenna => simp [State.asksFor, asksAt]

theorem State.ranksFirst_iff (s : State) (x : Standing) (station booking : Nat) (k : ItemKind) (item : Nat) :
    s.ranksFirst x station booking k item = true ↔
      (∀ b ∈ s.cm.own, ¬ (station = s.cfg.stationId ∧ b.desc.num = booking) → s.Rivals k item b.desc →
        x.ahead b.standing = true)
      ∧ ∀ y ∈ s.cm.map, y.isKey station booking = false → y.held = true → s.Rivals k item y.desc →
        x.ahead y.standing = true := by
  unfold State.ranksFirst State.Rivals
  rw [Bool.and_eq_true, List.all_eq_true, List.all_eq_true]
  refine and_congr (forall₂_congr fun b _ => ?_) (forall₂_congr fun y _ => ?_)
  · simp only [Bool.or_eq_true, Bool.and_eq_true, beq_iff_eq, Bool.not_eq_true', ← Bool.not_eq_true]
    tauto
  · simp only [Bool.or_eq_true, Bool.not_eq_true', ← Bool.not_eq_true]
    tauto

/-- An exercise's own booking is the one that says so. -/
theorem State.isExercise_own (s : State) {num : Nat} {b : OwnBooking} (hb : s.ownBooking num = some b) :
    s.isExercise s.cfg.stationId num = true ↔ b.req = .exercise := by simp [State.isExercise, hb]

theorem State.isExercise_peer (s : State) {station : Nat} (h : station ≠ s.cfg.stationId) (num : Nat) :
    s.isExercise station num = false := by simp [State.isExercise, h]

theorem State.requestHeld_own (s : State) (k : ItemKind) {r : Request} (h : r.station = s.cfg.stationId) :
    s.requestHeld k r.item r.target r.station r.booking = true ↔
      ∃ b, s.ownBooking r.booking = some b ∧ s.Stands k r b.desc b.standing (b.req = .exercise) := by
  unfold State.requestHeld State.heldBooking
  rw [if_pos h]
  cases hb : s.ownBooking r.booking with
  | none => simp
  | some b =>
    simp only [Option.map_some, Bool.and_eq_true, State.asksFor_iff, State.ranksFirst_iff, Option.some.injEq,
      exists_eq_left', State.Stands, and_assoc]
    rw [h, s.isExercise_own hb]

theorem State.requestHeld_peer (s : State) (k : ItemKind) {r : Request} (h : r.station ≠ s.cfg.stationId) :
    s.requestHeld k r.item r.target r.station r.booking = true ↔
      ∃ y, s.peerRec r.station r.booking = some y ∧ y.held = true ∧ s.Stands k r y.desc y.standing False := by
  unfold State.requestHeld State.heldBooking
  rw [if_neg h]
  cases hy : s.peerRec r.station r.booking with
  | none => simp
  | some y =>
    cases hheld : y.held with
    | false => simp [Option.filter, hheld]
    | true =>
      simp only [Option.filter, hheld, if_true, Option.map_some, Bool.and_eq_true, State.asksFor_iff,
        State.ranksFirst_iff, Option.some.injEq, exists_eq_left', State.Stands, and_assoc, true_and,
        s.isExercise_peer h, Bool.false_eq_true]

theorem State.requestHeld_iff (s : State) (k : ItemKind) (r : Request) :
    s.requestHeld k r.item r.target r.station r.booking = true ↔ s.Held k r := by
  unfold State.Held
  by_cases h : r.station = s.cfg.stationId
  · simp [h, ← s.requestHeld_own k h]
  · simp [h, s.requestHeld_peer k h]

theorem State.activeElsewhere_iff (s : State) (k : ItemKind) (r : Request) :
    s.activeElsewhere k r.item r.station r.booking = true ↔ s.ActiveElsewhere k r := by
  simp [State.activeElsewhere, State.ActiveElsewhere, and_assoc, imp_iff_not_or]

/-- The first of tests 2 to 4 that refuses (R44). -/
theorem State.turnRefusal_out {s : State} {k : ItemKind} {r : Request} (h : s.itemState k r.item = .out) :
    s.turnRefusal k r = some 2 := if_pos h

section
variable {s : State} {k : ItemKind} {r : Request} (hin : s.itemState k r.item ≠ .out)
include hin

theorem State.turnRefusal_notHeld (h : ¬ s.Held k r) : s.turnRefusal k r = some 3 := by
  rw [← s.requestHeld_iff k r, Bool.not_eq_true] at h
  rw [State.turnRefusal, if_neg hin, if_pos h]

theorem State.turnRefusal_active (h : s.Held k r) (hactive : s.ActiveElsewhere k r) : s.turnRefusal k r = some 4 := by
  rw [← s.requestHeld_iff k r] at h
  rw [← s.activeElsewhere_iff k r] at hactive
  rw [State.turnRefusal, if_neg hin, if_neg (by simp [h]), if_pos hactive]

theorem State.turnRefusal_none (h : s.Held k r) (hactive : ¬ s.ActiveElsewhere k r) : s.turnRefusal k r = none := by
  rw [← s.requestHeld_iff k r] at h
  rw [← s.activeElsewhere_iff k r] at hactive
  rw [State.turnRefusal, if_neg hin, if_neg (by simp [h]), if_neg hactive]

end

/-! ## A refusal (R42, R44) -/

theorem State.refuse_own {s : State} {r : Request} (h : r.station = s.cfg.stationId) (k : ItemKind) (reason : Nat) :
    s.refuse k r reason = s.report [.moveRefused r.booking k r.item reason] := if_pos h

/-- The REFUSED that answers a peer's request. -/
def Request.refusal (r : Request) (k : ItemKind) (reason : Nat) : Frame :=
  .position { kind := kindNat k, item := r.item, report := 4, value := some r.target, motion := 0
              reqStation := r.station, reqBooking := r.booking, reason := reason }

theorem offerPermitted_position (p : PosReport) : ∀ phase, offerPermitted phase (.position p) = dispatchesIn phase
  | .config | .joining | .running | .stopping | .halted | .linkFault => rfl

theorem State.refuse_peer {s : State} {r : Request} (h : r.station ≠ s.cfg.stationId)
    (hphase : dispatchesIn s.sp.phase = true) (hroom : s.hlc.queue.length + s.hlc.slots.length < 16) (k : ItemKind)
    (reason : Nat) : s.refuse k r reason = s.queued [r.refusal k reason] := by
  have hoffer := s.offer_room (r.refusal k reason) ((offerPermitted_position _ _).trans hphase) hroom
  unfold State.refuse
  rw [if_neg h]
  show (if (s.offer (r.refusal k reason)).2 then (s.offer (r.refusal k reason)).1 else _) = _
  rw [hoffer]
  rfl

/-- With no plan and no exercise there to take it, a refusal handed to its requester changes nothing. -/
theorem deliver_moveRefused {s : State} (hplans : s.cp.plans = []) (hex : s.ed.exercise = none) (num : Nat)
    (k : ItemKind) (item reason : Nat) : deliver (.moveRefused num k item reason) s = s := by
  show s.moveRefused num k item reason = s
  unfold State.moveRefused State.planMoveRefused State.currentPlan
  rw [hex, hplans]
  rfl

theorem drain_moveRefused {s : State} (hplans : s.cp.plans = []) (hex : s.ed.exercise = none) (n num : Nat)
    (k : ItemKind) (item reason : Nat) :
    drain (n + 1) ((s.withReports []).report [.moveRefused num k item reason]) = s.withReports [] := by
  rw [drain_cons _ _ _ [] rfl]
  exact (congrArg (drain n) (deliver_moveRefused (s := s.withReports []) hplans hex num k item reason)).trans
    (drain_rest n _ rfl)

/-! ## A turn (R46, R49) -/

/-- The state with the head of the drive queue taken out. -/
def State.driveLeft (s : State) (rest : List Request) : State := s.withEd { s.ed with driveQ := rest }

/-- The state with the head of the slew queue taken out. -/
def State.slewLeft (s : State) (rest : List Request) : State := s.withEd { s.ed with slewQ := rest }

section
variable {s : State} {r : Request} {rest : List Request} (hm : s.ed.motion = none) (hq : s.ed.driveQ = r :: rest)
include hm hq

theorem State.driveTurn_refused {c : Nat} (h : (s.driveLeft rest).turnRefusal .element r = some c) :
    s.driveTurn = (s.driveLeft rest).refuse .element r c := by
  unfold State.driveTurn
  rw [hm, hq]
  show (match (s.driveLeft rest).turnRefusal .element r with | some c => _ | none => _) = _
  rw [h]
  rfl

theorem State.driveTurn_passes (h : (s.driveLeft rest).turnRefusal .element r = none) :
    s.driveTurn = if s.sensedPos r.item = some r.target then (s.driveLeft rest).answerAt .element r.item r.target
      else (s.driveLeft rest).startMotion r := by
  unfold State.driveTurn
  rw [hm, hq]
  show (match (s.driveLeft rest).turnRefusal .element r with | some c => _ | none => _) = _
  rw [h]
  rfl

theorem State.driveTurn_answers (h : (s.driveLeft rest).turnRefusal .element r = none)
    (hat : s.sensedPos r.item = some r.target) : s.driveTurn = (s.driveLeft rest).answerAt .element r.item r.target :=
  (State.driveTurn_passes hm hq h).trans (if_pos hat)

theorem State.driveTurn_starts (h : (s.driveLeft rest).turnRefusal .element r = none)
    (hoff : s.sensedPos r.item ≠ some r.target) : s.driveTurn = (s.driveLeft rest).startMotion r :=
  (State.driveTurn_passes hm hq h).trans (if_neg hoff)

end

section
variable {s : State} {r : Request} {rest : List Request} (hw : s.ed.slew = none) (hq : s.ed.slewQ = r :: rest)
include hw hq

theorem State.slewTurn_refused {c : Nat} (h : (s.slewLeft rest).turnRefusal .antenna r = some c) :
    s.slewTurn = (s.slewLeft rest).refuse .antenna r c := by
  unfold State.slewTurn
  rw [hw, hq]
  show (match (s.slewLeft rest).turnRefusal .antenna r with | some c => _ | none => _) = _
  rw [h]
  rfl

theorem State.slewTurn_passes (h : (s.slewLeft rest).turnRefusal .antenna r = none) :
    s.slewTurn = if s.sensedAz r.item = some r.target then (s.slewLeft rest).answerAt .antenna r.item r.target
      else (s.slewLeft rest).startSlew r := by
  unfold State.slewTurn
  rw [hw, hq]
  show (match (s.slewLeft rest).turnRefusal .antenna r with | some c => _ | none => _) = _
  rw [h]
  rfl

theorem State.slewTurn_answers (h : (s.slewLeft rest).turnRefusal .antenna r = none)
    (hat : s.sensedAz r.item = some r.target) : s.slewTurn = (s.slewLeft rest).answerAt .antenna r.item r.target :=
  (State.slewTurn_passes hw hq h).trans (if_pos hat)

theorem State.slewTurn_starts (h : (s.slewLeft rest).turnRefusal .antenna r = none)
    (hoff : s.sensedAz r.item ≠ some r.target) : s.slewTurn = (s.slewLeft rest).startSlew r :=
  (State.slewTurn_passes hw hq h).trans (if_neg hoff)

end

end Sys2Proof.Machine
end

section
/-! SUPPORT. Turns that start a motion or a slew, or answer at target, up to what they hand over (R46, R47, R49). -/

namespace Sys2Proof.Machine

open Sys2Proof

theorem State.showsElement_answerAt (s : State) (id target : Nat) :
    s.ShowsElement (s.answerAt .element id target) id
      { s.elv id with state := .set, pos := some target, motion := (s.elv id).answeredMotion } :=
  (s.showsElement_homeElv id .set (some target) _).of_plant (State.report_plant _ _)

theorem State.showsAntenna_answerAt (s : State) (id target : Nat) :
    s.ShowsAntenna (s.answerAt .antenna id target) id { s.anv id with state := .set, az := some target } :=
  s.showsAntenna_homeAnv id .set (some target)

theorem State.showsElement_startMotion (s : State) {r : Request} {e : ElementRec} (he : s.element r.item = some e) :
    (s.withEd { s.ed with motion := some { req := r, count := 0, timer := 2 * e.nominal + 100 } }).ShowsElement
      (s.startMotion r) r.item { s.elv r.item with state := .moving, pos := (s.elv r.item).pos, motion := 0 } := by
  unfold State.startMotion
  rw [he]
  exact State.showsElement_homeElv _ r.item .moving _ 0

theorem State.showsAntenna_startSlew (s : State) {r : Request} {a : AntennaRec} {w : SlewRec}
    (ha : s.antenna r.item = some a) (hw : a.slew = some w) :
    (s.withEd { s.ed with
      slew := some { req := r, timer := 2 * w.time (s.sensedAz r.item) r.target + 100 } }).ShowsAntenna
      (s.startSlew r) r.item { s.anv r.item with state := .moving, az := (s.anv r.item).az } := by
  unfold State.startSlew
  rw [ha, Option.bind_some, hw]
  exact State.showsAntenna_homeAnv _ r.item .moving _

/-- A command whose whole effect is a refusal of a peer's request. -/
theorem run_refuse_peer {f : State → State} {s left : State} {r : Request} {k : ItemKind} {reason : Nat}
    (heff : f (s.withReports []) = (left.withReports []).refuse k r reason) (hphase : left.sp.phase = .running)
    (hstation : r.station ≠ left.cfg.stationId) (hroom : left.hlc.queue.length + left.hlc.slots.length < 16) :
    run f s = .next ((left.withReports []).queued [r.refusal k reason]) :=
  run_of_eq (heff.trans (State.refuse_peer (s := left.withReports []) hstation (by
    rw [show (left.withReports []).sp.phase = .running from hphase]
    rfl) hroom k reason)) rfl

/-- A command whose whole effect is a refusal that nothing is there to take. -/
theorem run_refuse_own {f : State → State} {s left : State} {r : Request} {k : ItemKind} {reason : Nat}
    (heff : f (s.withReports []) = (left.withReports []).refuse k r reason) (hstation : r.station = left.cfg.stationId)
    (hplans : left.cp.plans = []) (hex : left.ed.exercise = none) : run f s = .next (left.withReports []) := by
  unfold run
  rw [heff.trans (State.refuse_own (s := left.withReports []) hstation k reason)]
  exact congrArg _ (drain_moveRefused hplans hex 99999 r.booking k r.item reason)

end Sys2Proof.Machine
end

section
open Sys2Proof Sys2Proof.Machine

/-- Settles O17: a turn is refused, answered at target or starts the motion, by the tests of R44 at the turn. -/
theorem driveTurnMovesElement : Obligations.DriveTurnMovesElement := by
  constructor
  · intro s r rest e hphase hex hm hq he left
    refine ⟨fun hpass => ?_, fun reason hrefused => ⟨fun hstation hroom => ?_, fun hstation hplans => ?_⟩⟩
    · by_cases hat : s.sensedPos r.item = some r.target
      · have hshow := ((s.withReports []).driveLeft rest).showsElement_answerAt r.item r.target
        rw [← State.driveTurn_answers (s := s.withReports []) hm hq hpass hat] at hshow
        obtain ⟨t, hexec, hplant, hclock⟩ := run_plant_running (f := State.driveTurn) hphase
          (State.driveTurn_clock _) (by rw [hshow.ed]; exact hex)
        have hshow := hshow.of_plant hplant
        exact ⟨t, hexec, congrArg Drive.driveQ hshow.ed, congrArg Clock.tb hclock, hshow.pins, fun h => absurd hat h,
          fun _ => ⟨(congrArg Drive.motion hshow.ed).trans hm, hshow.state, hshow.pos, hshow.history, hshow.motion⟩⟩
      · have hshow := ((s.withReports []).driveLeft rest).showsElement_startMotion he
        rw [← State.driveTurn_starts (s := s.withReports []) hm hq hpass hat] at hshow
        obtain ⟨t, hexec, hplant, hclock⟩ := run_plant_running (f := State.driveTurn) hphase
          (State.driveTurn_clock _) (by rw [hshow.ed]; exact hex)
        have hshow := hshow.of_plant hplant
        exact ⟨t, hexec, congrArg Drive.driveQ hshow.ed, congrArg Clock.tb hclock, hshow.pins,
          fun _ => ⟨congrArg Drive.motion hshow.ed, hshow.state, hshow.pos⟩, fun h => absurd h hat⟩
    · exact run_refuse_peer (f := State.driveTurn) (left := s.driveLeft rest)
        (State.driveTurn_refused (s := s.withReports []) hm hq hrefused) hphase hstation hroom
    · exact run_refuse_own (f := State.driveTurn) (left := s.driveLeft rest)
        (State.driveTurn_refused (s := s.withReports []) hm hq hrefused) hstation hplans hex
  · intro s k r home out asks rivals stands held active
    have hout : out ↔ s.itemState k r.item = .out := by cases k <;> exact Iff.rfl
    rw [hout]
    exact ⟨State.turnRefusal_out, State.turnRefusal_notHeld, State.turnRefusal_active, State.turnRefusal_none⟩
end

section
/-! SUPPORT. The ends of a slew, up to what they hand over (R50). -/

namespace Sys2Proof.Machine

open Sys2Proof

/-- The slew of an antenna ends at its target (R50). -/
theorem State.slewSensed_shows (s : State) {w : Slew} (hw : s.ed.slew = some w) :
    ((s.driveAnLines w.req.item w.req.target).withEd { s.ed with slew := none }).ShowsAntenna s.slewSensed w.req.item
      { s.anv w.req.item with state := .set, az := some w.req.target } := by
  obtain ⟨pins, hpins⟩ := s.driveAnLines_pins w.req.item w.req.target
  unfold State.slewSensed
  rw [hw]
  simp only [hpins]
  exact State.showsAntenna_homeAnv _ w.req.item .set _

/-- The slew timer ends first: the antenna is FAULT at what its lines show (R50). -/
theorem State.slewTimeout_shows (s : State) {w : Slew} {code : Nat} (hw : s.ed.slew = some w) (htimer : w.timer = 0)
    (hoff : (s.driveAnLines w.req.item code).sensedAz w.req.item ≠ some w.req.target) :
    ((s.driveAnLines w.req.item code).withEd { s.ed with slew := none }).ShowsAntenna (s.slewTimeout code) w.req.item
      { s.anv w.req.item with state := .fault, az := (s.driveAnLines w.req.item code).sensedAz w.req.item } := by
  obtain ⟨pins, hpins⟩ := s.driveAnLines_pins w.req.item code
  rw [hpins] at hoff ⊢
  unfold State.slewTimeout
  rw [hw]
  simp only [hpins, if_pos (And.intro htimer hoff)]
  exact State.showsAntenna_homeAnv _ w.req.item .fault _

end Sys2Proof.Machine
end

section
open Sys2Proof Sys2Proof.Machine

/-- Settles O19: a turn is refused, answered at target or starts the slew; each end of a slew changes one view entry. -/
theorem slewStartsAndEnds : Obligations.SlewStartsAndEnds := by
  intro s r a w c hphase hex ha hw hchan hc
  refine ⟨?_, fun n hslew => ?_, fun code hslew hcode hmiss => ?_⟩
  · intro rest hslew hq left
    refine ⟨fun hpass => ?_, fun reason hrefused => ⟨fun hstation hroom => ?_, fun hstation hplans => ?_⟩⟩
    · by_cases hat : s.sensedAz r.item = some r.target
      · have hshow := ((s.withReports []).slewLeft rest).showsAntenna_answerAt r.item r.target
        rw [← State.slewTurn_answers (s := s.withReports []) hslew hq hpass hat] at hshow
        obtain ⟨t, hexec, hplant, hclock⟩ := run_plant_running (f := State.slewTurn) hphase
          (State.slewTurn_clock _) (by rw [hshow.ed]; exact hex)
        have hshow := hshow.of_plant hplant
        exact ⟨t, hexec, congrArg Drive.slewQ hshow.ed, congrArg Clock.tb hclock, hshow.pins, fun h => absurd hat h,
          fun _ => ⟨(congrArg Drive.slew hshow.ed).trans hslew, hshow.state, hshow.az⟩⟩
      · have hshow := ((s.withReports []).slewLeft rest).showsAntenna_startSlew ha hw
        rw [← State.slewTurn_starts (s := s.withReports []) hslew hq hpass hat] at hshow
        obtain ⟨t, hexec, hplant, hclock⟩ := run_plant_running (f := State.slewTurn) hphase
          (State.slewTurn_clock _) (by rw [hshow.ed]; exact hex)
        have hshow := hshow.of_plant hplant
        exact ⟨t, hexec, congrArg Drive.slewQ hshow.ed, congrArg Clock.tb hclock, hshow.pins,
          fun _ => ⟨congrArg Drive.slew hshow.ed, hshow.state, hshow.az⟩, fun h => absurd h hat⟩
    · exact run_refuse_peer (f := State.slewTurn) (left := s.slewLeft rest)
        (State.slewTurn_refused (s := s.withReports []) hslew hq hrefused) hphase hstation hroom
    · exact run_refuse_own (f := State.slewTurn) (left := s.slewLeft rest)
        (State.slewTurn_refused (s := s.withReports []) hslew hq hrefused) hstation hplans hex
  · have hshow := (s.withReports []).slewSensed_shows hslew
    obtain ⟨t, hexec, hplant, -⟩ := run_plant_running (f := State.slewSensed) hphase (State.slewSensed_clock _) (by
      rw [hshow.ed]
      exact hex)
    have hshow := hshow.of_plant hplant
    exact ⟨t, hexec, congrArg Drive.slew hshow.ed, hshow.state, hshow.az⟩
  · have hlines := (s.withReports []).driveAnLines_at hchan hcode
    have hsensed : ((s.withReports []).anLinesAt c code).sensedAz r.item = azimuthShown code :=
      State.sensedAz_anLinesAt _ hchan hc
    have hoff : azimuthShown code ≠ some r.target := by
      unfold azimuthShown
      split
      · exact fun h => hmiss (Option.some.inj h)
      · exact nofun
    have hshow := (s.withReports []).slewTimeout_shows hslew rfl (by rw [hlines, hsensed]; exact hoff)
    rw [hlines, hsensed] at hshow
    obtain ⟨t, hexec, hplant, -⟩ := run_plant_running (f := fun u => u.slewTimeout code) hphase
      (State.slewTimeout_clock _ _) (by rw [hshow.ed]; exact hex)
    have hshow := hshow.of_plant hplant
    exact ⟨t, hexec, congrArg Drive.slew hshow.ed, hshow.state, hshow.az⟩
end

section
/-! SUPPORT. The home items at the entry to JOINING (R43, R52). -/

namespace Sys2Proof.Machine

open Sys2Proof

/-! ## Offers leave the views but for the owed marks (R42) -/

/-- Of the plant the owed marks alone differ. -/
structure State.OwedOnly (s t : State) : Prop where
  ed   : t.ed = { s.ed with elView := t.ed.elView, anView := t.ed.anView }
  pins : t.pins = s.pins
  elv  : ∀ i, ∃ b, t.elv i = { s.elv i with owed := b }
  anv  : ∀ i, ∃ b, t.anv i = { s.anv i with owed := b }

theorem State.OwedOnly.refl (s : State) : s.OwedOnly s := ⟨rfl, rfl, fun i => ⟨(s.elv i).owed, rfl⟩, fun i => ⟨(s.anv i).owed, rfl⟩⟩

theorem State.OwedOnly.trans {s t u : State} (h : s.OwedOnly t) (h' : t.OwedOnly u) : s.OwedOnly u where
  ed := h'.ed.trans (by rw [h.ed])
  pins := h'.pins.trans h.pins
  elv i := by
    obtain ⟨b, e⟩ := h.elv i
    obtain ⟨b', e'⟩ := h'.elv i
    exact ⟨b', by rw [e', e]⟩
  anv i := by
    obtain ⟨b, e⟩ := h.anv i
    obtain ⟨b', e'⟩ := h'.anv i
    exact ⟨b', by rw [e', e]⟩

theorem State.OwedOnly.of_plant {s t : State} (h : t.plant = s.plant) : s.OwedOnly t where
  ed := by rw [State.ed_of_plant h]
  pins := State.pins_of_plant h
  elv i := ⟨(s.elv i).owed, State.elv_of_plant h i⟩
  anv i := ⟨(s.anv i).owed, State.anv_of_plant h i⟩

theorem State.owedOnly_setOwed (s : State) (kind : ItemKind) (item : Nat) (b : Bool) :
    s.OwedOnly (s.setOwed kind item b) := by
  cases kind with
  | element =>
    refine ⟨rfl, rfl, fun i => ?_, (State.OwedOnly.refl s).anv⟩
    show ∃ c, (s.putElv item { s.elv item with owed := b }).elv i = _
    rw [s.elv_putElv]
    split
    · next h => exact ⟨b, by rw [h]⟩
    · exact (State.OwedOnly.refl s).elv i
  | antenna =>
    refine ⟨rfl, rfl, (State.OwedOnly.refl s).elv, fun i => ?_⟩
    show ∃ c, (s.putAnv item { s.anv item with owed := b }).anv i = _
    rw [s.anv_putAnv]
    split
    · next h => exact ⟨b, by rw [h]⟩
    · exact (State.OwedOnly.refl s).anv i

theorem State.owedOnly_offerPositions (l : List (ItemKind × Nat)) : ∀ s : State,
    s.OwedOnly (s.offerPositions l).1 := by
  induction l with
  | nil => exact State.OwedOnly.refl
  | cons x l ih =>
    intro s
    obtain ⟨k, i⟩ := x
    simp only [State.offerPositions]
    split
    · exact ((State.OwedOnly.of_plant (s.offer_plant _)).trans (State.owedOnly_setOwed _ k i false)).trans (ih _)
    · exact .refl s

/-! ## The views at the entry to JOINING (R43) -/

/-- The state in which the home items have their channels and nothing is queued, in motion or owed. -/
def State.channelled (s : State) : State :=
  s.withEd { s.ed with
    elChan := s.homeElements.take Config.homeElementLimit
    anChan := s.homeAntennas.take Config.homeAntennaLimit
    driveQ := [], slewQ := [], motion := none, slew := none, refusals := [], exPtr := none
    exercise := none }

/-- The state in which every item has its view afresh. -/
def State.joinedViews (s : State) : State :=
  s.channelled.withEd { s.channelled.ed with
    elView := s.ed.elements.map fun p =>
      (p.1, { s.channelled.joinElv p.1 p.2 with idle := if !s.ed.everStarted then 0 else (s.elv p.1).idle })
    anView := s.ed.antennas.map fun p => (p.1, s.channelled.joinAnv p.1 p.2)
    everStarted := true }

theorem State.edJoin_eq (s : State) : s.edJoin = (s.joinedViews.offerPositions s.joinedViews.owedItems).1 := rfl

theorem State.owedOnly_edJoin (s : State) : s.joinedViews.OwedOnly s.edJoin := State.owedOnly_offerPositions _ _

theorem State.elv_joinedViews (s : State) {i : Nat} {e : ElementRec} (he : s.element i = some e) :
    s.joinedViews.elv i =
      { s.channelled.joinElv i e with idle := if !s.ed.everStarted then 0 else (s.elv i).idle } := by
  refine Eq.trans (congrArg (fun o : Option ElView => o.getD ElView.fresh) (lookupKey_map _ i s.ed.elements)) ?_
  rw [show lookupKey i s.ed.elements = some e from he]
  rfl

theorem State.anv_joinedViews (s : State) {i : Nat} {a : AntennaRec} (ha : s.antenna i = some a) :
    s.joinedViews.anv i = s.channelled.joinAnv i a := by
  refine Eq.trans (congrArg (fun o : Option AnView => o.getD AnView.fresh) (lookupKey_map _ i s.ed.antennas)) ?_
  rw [show lookupKey i s.ed.antennas = some a from ha]
  rfl

section
variable {s : State} (hfirst : s.ed.everStarted = false)
include hfirst

/-- At the first START a home element is OUT by its record or sensed (R43). -/
theorem State.joinElv_home {i : Nat} {e : ElementRec} (hhome : e.home = s.cfg.stationId) :
    (s.joinElv i e).state = (if e.inService = false then .out else if (s.sensedPos i).isSome then .set else .fault)
      ∧ (s.joinElv i e).pos = s.sensedPos i := by
  have hhere : s.homeHere e.home = true := beq_iff_eq.2 hhome
  unfold State.joinElv
  simp only [hhere, hfirst, if_true]
  cases hservice : e.inService with
  | false => exact ⟨rfl, rfl⟩
  | true => cases hsensed : s.sensedPos i <;> simp [State.senseElement, hsensed]

/-- At the first START a home antenna is sensed where it slews (R43). -/
theorem State.joinAnv_home {i : Nat} {a : AntennaRec} (hhome : a.home = s.cfg.stationId) :
    (s.joinAnv i a).homeAbsent = false ∧ (s.joinAnv i a).state = (s.senseAntenna i).1
      ∧ (s.joinAnv i a).az = (s.senseAntenna i).2 := by
  have hhere : s.homeHere a.home = true := beq_iff_eq.2 hhome
  unfold State.joinAnv
  simp only [hhere, hfirst, if_true]
  exact ⟨rfl, rfl, rfl⟩

end

/-- An element homed elsewhere is UNKNOWN, its home absent (R39, R43). -/
theorem State.joinElv_elsewhere {s : State} {i : Nat} {e : ElementRec} (hhome : e.home ≠ s.cfg.stationId) :
    (s.joinElv i e).state = .unknown ∧ (s.joinElv i e).pos = none ∧ (s.joinElv i e).homeAbsent = true := by
  have hhere : s.homeHere e.home = false := by simpa [State.homeHere] using hhome
  unfold State.joinElv
  rw [hhere]
  exact ⟨rfl, rfl, rfl⟩

/-- An antenna homed elsewhere is UNKNOWN, its home absent (R39, R43). -/
theorem State.joinAnv_elsewhere {s : State} {i : Nat} {a : AntennaRec} (hhome : a.home ≠ s.cfg.stationId) :
    (s.joinAnv i a).state = .unknown ∧ (s.joinAnv i a).az = none ∧ (s.joinAnv i a).homeAbsent = true := by
  have hhere : s.homeHere a.home = false := by simpa [State.homeHere] using hhome
  unfold State.joinAnv
  rw [hhere]
  exact ⟨rfl, rfl, rfl⟩

/-! ## What is sensed, read from the plant -/

theorem State.sensedPos_of_plant {s t : State} (hchan : t.ed.elChan = s.ed.elChan) (hel : t.ed.elements = s.ed.elements)
    (hpins : t.pins = s.pins) (i : Nat) : t.sensedPos i = s.sensedPos i := by
  unfold State.sensedPos State.element
  rw [hchan, hel, hpins]

theorem State.sensedAz_of_plant {s t : State} (hchan : t.ed.anChan = s.ed.anChan) (hpins : t.pins = s.pins) (i : Nat) :
    t.sensedAz i = s.sensedAz i := by
  unfold State.sensedAz
  rw [hchan, hpins]

/-! ## The views that the entry to JOINING leaves -/

section
variable {s t : State} (h : s.joinedViews.OwedOnly t)
include h

theorem State.OwedOnly.joined_sensedPos (i : Nat) : s.channelled.sensedPos i = t.sensedPos i :=
  (State.sensedPos_of_plant (s := s.channelled) (congrArg Drive.elChan h.ed :) (congrArg Drive.elements h.ed :) h.pins i).symm

theorem State.OwedOnly.joined_sensedAz (i : Nat) : s.channelled.sensedAz i = t.sensedAz i :=
  (State.sensedAz_of_plant (s := s.channelled) (congrArg Drive.anChan h.ed :) h.pins i).symm

theorem State.OwedOnly.joined_home (hfirst : s.ed.everStarted = false) {i : Nat} {e : ElementRec}
    (he : s.element i = some e) (hhome : e.home = s.cfg.stationId) :
    (t.elv i).idle = 0
      ∧ (t.elv i).state = (if e.inService = false then .out else if (t.sensedPos i).isSome then .set else .fault)
      ∧ (t.elv i).pos = t.sensedPos i := by
  obtain ⟨b, helv⟩ := h.elv i
  obtain ⟨hstate, hpos⟩ := State.joinElv_home (s := s.channelled) hfirst (i := i) hhome
  rw [h.joined_sensedPos] at hstate hpos
  rw [helv, s.elv_joinedViews he, hfirst]
  exact ⟨rfl, hstate, hpos⟩

theorem State.OwedOnly.joined_elsewhere {i : Nat} {e : ElementRec} (he : s.element i = some e)
    (hhome : e.home ≠ s.cfg.stationId) :
    (t.elv i).state = .unknown ∧ (t.elv i).pos = none ∧ (t.elv i).homeAbsent = true := by
  obtain ⟨b, helv⟩ := h.elv i
  rw [helv, s.elv_joinedViews he]
  exact State.joinElv_elsewhere (s := s.channelled) hhome

theorem State.OwedOnly.joined_homeAntenna (hfirst : s.ed.everStarted = false) {i : Nat} {a : AntennaRec}
    (ha : s.antenna i = some a) (hhome : a.home = s.cfg.stationId) :
    (t.anv i).homeAbsent = false
      ∧ (a.slew = none → (t.anv i).state = .set ∧ (t.anv i).az = none)
      ∧ (a.slew ≠ none → (t.anv i).state = (if (t.sensedAz i).isSome then .set else .fault)
        ∧ (t.anv i).az = t.sensedAz i) := by
  obtain ⟨b, hanv⟩ := h.anv i
  obtain ⟨habsent, hstate, haz⟩ := State.joinAnv_home (s := s.channelled) hfirst (i := i) hhome
  have hslew : (s.channelled.antenna i).bind AntennaRec.slew = a.slew := by
    rw [show s.channelled.antenna i = some a from ha]
    rfl
  rw [hanv, s.anv_joinedViews ha]
  refine ⟨habsent, fun hno => ?_, fun hyes => ?_⟩
  · have hsense : s.channelled.senseAntenna i = (.set, none) := by simp [State.senseAntenna, hslew, hno]
    rw [hsense] at hstate haz
    exact ⟨hstate, haz⟩
  · have hsense : s.channelled.senseAntenna i
        = (if (t.sensedAz i).isSome then .set else .fault, t.sensedAz i) := by
      obtain ⟨w, hw⟩ := Option.ne_none_iff_exists'.1 hyes
      rw [← h.joined_sensedAz]
      cases haz : s.channelled.sensedAz i <;> simp [State.senseAntenna, hslew, hw, haz]
    rw [hsense] at hstate haz
    exact ⟨hstate, haz⟩

theorem State.OwedOnly.joined_elsewhereAntenna {i : Nat} {a : AntennaRec} (ha : s.antenna i = some a)
    (hhome : a.home ≠ s.cfg.stationId) :
    (t.anv i).state = .unknown ∧ (t.anv i).az = none ∧ (t.anv i).homeAbsent = true := by
  obtain ⟨b, hanv⟩ := h.anv i
  rw [hanv, s.anv_joinedViews ha]
  exact State.joinAnv_elsewhere (s := s.channelled) hhome

end

/-! ## START (R43, R189) -/

/-- The station in JOINING, its timers still as they were. -/
def State.joinPhase (s : State) : State :=
  s.withSp { s.sp with phase := .joining, restartMark := false, cpStopped := false, cmStopped := false }

/-- The station with the timers of JOINING running, its items still as they were. -/
def State.joining (s : State) : State :=
  s.joinPhase.retime.beaconNow.withHlc { s.joinPhase.retime.beaconNow.hlc with joiningT := some (2 * s.cfg.tBCN) }

theorem State.enterJoining_eq (s : State) : s.enterJoining = s.joining.edJoin.armTest := by
  obtain ⟨q, l, hbeacon⟩ := s.joinPhase.retime.beaconNow_queues
  have hcfg : s.joinPhase.retime.beaconNow.cfg = s.cfg := by rw [hbeacon]; rfl
  unfold State.joining
  rw [← hcfg]
  rfl

theorem State.joining_eq (s : State) : ∃ gap lost stray q l, s.joining =
    (s.joinPhase.withTs
      { s.ts with meterGap := gap, meterLost := lost, strayT := stray }).withHlc
      { s.hlc with queue := q, slots := l, beaconT := some s.cfg.tBCN, joiningT := some (2 * s.cfg.tBCN) } := by
  unfold State.joining
  obtain ⟨q, l, hbeacon⟩ := s.joinPhase.retime.beaconNow_queues
  rw [hbeacon]
  exact ⟨_, _, _, q, l, rfl⟩

theorem State.answer_served_plant (s : State) (st : Status) : (s.answer st).served.plant = s.plant := rfl

theorem State.joining_plant (s : State) : s.joining.plant = s.plant := by
  obtain ⟨gap, lost, stray, q, l, h⟩ := s.joining_eq
  rw [h]
  rfl

theorem State.joining_cfg (s : State) : s.joining.cfg = s.cfg := by
  obtain ⟨gap, lost, stray, q, l, h⟩ := s.joining_eq
  rw [h]
  rfl

/-- What START leaves of everything but the plant. -/
theorem State.enterJoining_first (s : State) (harm : s.ss.arm = none) :
    s.joining.joinedViews.OwedOnly s.enterJoining ∧ ∃ gap lost stray q l, s.enterJoining =
      ((s.joinPhase.withTs
        { s.ts with meterGap := gap, meterLost := lost, strayT := stray }).withHlc
        { s.hlc with queue := q, slots := l, beaconT := some s.cfg.tBCN, joiningT := some (2 * s.cfg.tBCN) }).withEd
        s.enterJoining.ed := by
  obtain ⟨gap, lost, stray, q, l, hjoining⟩ := s.joining_eq
  obtain ⟨⟨q', l', ed, heq⟩, -⟩ := State.offersItems_offerPositions s.joining.joinedViews.owedItems s.joining.joinedViews
  have hedJoin : s.joining.edJoin = (s.joining.joinedViews.withHlc { s.joining.joinedViews.hlc with
      queue := q', slots := l' }).withEd ed := heq
  have hnone : s.joining.edJoin.armTest = s.joining.edJoin := State.armTest_none (by
    rw [hedJoin, hjoining]
    exact harm)
  rw [s.enterJoining_eq, hnone]
  refine ⟨s.joining.owedOnly_edJoin, gap, lost, stray, q', l', ?_⟩
  rw [hedJoin, hjoining]
  rfl

end Sys2Proof.Machine
end

section
open Sys2Proof Sys2Proof.Machine

/-- Settles O57: START is refused NOT-READY, or enters JOINING, where each item's view is made afresh and the offers that
follow change owed marks alone. -/
theorem startJoins : Obligations.StartJoins := by
  intro s extra hresp hphase win
  let u := s.windowed 7 win { code := 7, payload := [], answer := none }
  have hserves : ∀ a, State.doStart u = a → a.state.reports = [] → Serves (.start win) s a.served := fun a ha hrep =>
    serves_of_effect (code := 7) (payload := []) (extra := extra) rfl hresp rfl rfl (by decide)
      (by rw [hphase]; rfl) ha hrep
  constructor
  · intro hnot
    exact hserves (u.answer .notReady) (if_neg (by simpa [u, State.windowed] using hnot)) rfl
  · intro hstation htiming htime harm hfirst
    have hstart : u.doStart = u.enterJoining.answer .ok := if_pos (by simp [u, State.windowed, hstation, htiming, htime])
    obtain ⟨howed, gap, lost, stray, q, l, heq⟩ := u.enterJoining_first harm
    have hjoining : u.joining.ed = s.ed := State.ed_of_plant u.joining_plant
    have hcfg : u.joining.cfg = s.cfg := u.joining_cfg
    have hel : ∀ i e, s.element i = some e → u.joining.element i = some e := fun i e he => by
      unfold State.element
      rw [hjoining]
      exact he
    have han : ∀ i a, s.antenna i = some a → u.joining.antenna i = some a := fun i a ha => by
      unfold State.antenna
      rw [hjoining]
      exact ha
    have hfirst' : u.joining.ed.everStarted = false := by rw [hjoining]; exact hfirst
    generalize u.enterJoining = x at hstart howed heq
    refine ⟨_, hserves _ hstart (by rw [heq]; rfl), ?_⟩
    have hshown := howed.trans (.of_plant (x.answer_served_plant .ok))
    generalize x.ed = ed at heq
    subst heq
    refine ⟨?_, ?_, ?_, ?_, ?_, congrArg Drive.everStarted hshown.ed, ?_, ?_, ?_, ?_, congrArg Drive.driveQ hshown.ed,
      congrArg Drive.slewQ hshown.ed,
      fun i e he hhome => hshown.joined_home hfirst' (hel i e he) (hhome.trans (congrArg _ hcfg).symm),
      fun i e he hhome => hshown.joined_elsewhere (hel i e he) (hcfg ▸ hhome),
      fun i a ha hhome => hshown.joined_homeAntenna hfirst' (han i a ha) (hhome.trans (congrArg _ hcfg).symm),
      fun i a ha hhome => hshown.joined_elsewhereAntenna (han i a ha) (hcfg ▸ hhome)⟩
    all_goals simp [Answer.served, State.answer, State.joinPhase, u, State.windowed]
end

section
/-! SUPPORT. SERVICE (R51): what an action on one item hands over to a quiet station, and what it leaves. -/

namespace Sys2Proof.Machine

open Sys2Proof

/-! ## Reports that leave a quiet station -/

/-- Reports that a quiet station takes without effect, but for what they hand on. -/
def Report.settles : Report → Bool
  | .viewChanged _ _ => true
  | r => r.idle

/-- In a quiet station a view change goes to the BLOCKED plans and no further. -/
theorem deliver_viewChanged_quiet {s : State} (hs : s.quiet = true) (kind : ItemKind) (item : Nat) :
    deliver (.viewChanged kind item) s = s.report [.retryBlocked] := by
  have hplans : s.cp.plans = [] := by
    simp only [State.quiet, Bool.and_eq_true, List.isEmpty_iff] at hs
    exact hs.1.1.1
  have hview : s.planViewChanged kind item = s := by
    unfold State.planViewChanged State.currentPlan
    rw [hplans]
    rfl
  exact congrArg (fun u : State => u.report [.retryBlocked]) hview

theorem deliver_settles {r : Report} {s : State} (hs : s.quiet = true) (hr : r.settles = true) :
    deliver r s = s ∨ deliver r s = s.report [.retryBlocked] := by
  cases r with
  | viewChanged kind item => exact .inr (deliver_viewChanged_quiet hs kind item)
  | _ => exact .inl (deliver_quiet _ s hs hr)

/-- Delivery of such reports leaves a quiet station. -/
theorem drain_settles (n : Nat) : ∀ s : State, s.quiet = true → (∀ r ∈ s.reports, r.settles = true) →
    ∃ rs, drain n s = s.withReports rs := by
  induction n with
  | zero => exact fun s _ _ => ⟨s.reports, rfl⟩
  | succ n ih =>
    intro s hs hr
    cases hreports : s.reports with
    | nil => exact ⟨s.reports, drain_rest _ _ hreports⟩
    | cons r rest =>
      rw [hreports] at hr
      have hrest := fun x hx => hr x (List.mem_cons_of_mem r hx)
      rw [drain_cons n s r rest hreports]
      rcases deliver_settles (s := s.withReports rest) hs (hr r (List.mem_cons_self ..)) with h | h <;> rw [h]
      · exact ih _ hs hrest
      · exact ih ((s.withReports rest).report [.retryBlocked]) hs fun x hx => by
          rcases List.mem_append.1 hx with hx | hx
          · exact hrest x hx
          · rw [List.mem_singleton.1 hx]
            rfl

/-! ## Actions of the element drive -/

/-- An action of the element drive: of the station the link, the claim map and the drive differ, and what it reports a
quiet station takes. -/
def State.Acts (s t : State) : Prop :=
  ∃ hlc cm ed rs, t = (((s.withHlc hlc).withCm cm).withEd ed).withReports (s.reports ++ rs)
    ∧ ∀ r ∈ rs, r.settles = true

theorem State.Acts.refl (s : State) : s.Acts s :=
  ⟨s.hlc, s.cm, s.ed, [], by rw [List.append_nil]; rfl, nofun⟩

theorem State.Acts.trans {s t u : State} (h : s.Acts t) (h' : t.Acts u) : s.Acts u := by
  obtain ⟨hlc, cm, ed, rs, rfl, hrs⟩ := h
  obtain ⟨hlc', cm', ed', rs', rfl, hrs'⟩ := h'
  exact ⟨hlc', cm', ed', rs ++ rs', by rw [← List.append_assoc]; rfl, fun r hr => (List.mem_append.1 hr).elim (hrs r) (hrs' r)⟩

theorem State.acts_withEd (s : State) (ed : Drive) : s.Acts (s.withEd ed) :=
  ⟨s.hlc, s.cm, ed, [], by rw [List.append_nil]; rfl, nofun⟩

theorem State.acts_withCm (s : State) (cm : ClaimMap) : s.Acts (s.withCm cm) :=
  ⟨s.hlc, cm, s.ed, [], by rw [List.append_nil]; rfl, nofun⟩

theorem State.acts_withHlc (s : State) (hlc : Link) : s.Acts (s.withHlc hlc) :=
  ⟨hlc, s.cm, s.ed, [], by rw [List.append_nil]; rfl, nofun⟩

theorem State.acts_report (s : State) {rs : List Report} (h : ∀ r ∈ rs, r.settles = true) : s.Acts (s.report rs) :=
  ⟨s.hlc, s.cm, s.ed, rs, rfl, h⟩

theorem State.acts_offer (s : State) (f : Frame) : s.Acts (s.offer f).1 := by
  obtain ⟨q, l, h⟩ := s.offer_queues f
  rw [h]
  exact s.acts_withHlc _

theorem State.acts_foldl {α : Type} {f : State → α → State} (hf : ∀ (s : State) (x : α), s.Acts (f s x)) (l : List α) :
    ∀ s : State, s.Acts (l.foldl f s) := by
  induction l with
  | nil => exact State.Acts.refl
  | cons x l ih => exact fun s => (hf s x).trans (ih _)

theorem State.acts_judgeOne (s : State) (b : OwnBooking) : s.Acts (s.judgeOne b) := by
  have htell : ∀ (u : State), u.Acts (u.tell b.req b.desc.num .fellBack) := fun u => u.acts_report (by simp [Report.settles, Report.idle])
  simp only [State.judgeOne]
  split
  · exact .refl s
  · split
    · split
      · exact s.acts_withCm _
      · exact .refl s
    · split
      · exact s.acts_withCm _
      · exact (s.acts_withCm _).trans (htell _)
      · exact (s.acts_withCm _).trans (htell _)
      · exact .refl s

theorem State.acts_viewChange (s : State) (kind : ItemKind) (item : Nat) : s.Acts (s.viewChange kind item) :=
  ((State.acts_foldl State.acts_judgeOne _ s).trans (State.acts_report _ (by simp [Report.settles, Report.idle]))).trans
    (State.acts_report _ (by simp [Report.settles]))

theorem State.acts_changeElv (s : State) (id : Nat) (v : ElView) : s.Acts (s.changeElv id v) := by
  simp only [State.changeElv]
  split
  · split
    · exact s.acts_withEd _
    · exact (s.acts_withEd _).trans (State.acts_report _ (by simp [Report.settles, Report.idle]))
  · exact (s.acts_withEd _).trans (State.acts_viewChange _ _ _)

theorem State.acts_changeAnv (s : State) (id : Nat) (v : AnView) : s.Acts (s.changeAnv id v) := by
  simp only [State.changeAnv]
  split
  · exact s.acts_withEd _
  · exact (s.acts_withEd _).trans (State.acts_viewChange _ _ _)

theorem State.acts_setOwed (s : State) (kind : ItemKind) (item : Nat) (b : Bool) : s.Acts (s.setOwed kind item b) := by
  cases kind <;> exact s.acts_withEd _

theorem State.acts_owePosition (s : State) (kind : ItemKind) (item : Nat) : s.Acts (s.owePosition kind item) := by
  simp only [State.owePosition]
  split
  · exact (s.acts_offer _).trans (State.acts_setOwed _ kind item _)
  · exact .refl s

theorem State.acts_homeElv (s : State) (id : Nat) (state : ViewState) (pos : Option Nat) (motion : Nat) :
    s.Acts (s.homeElv id state pos motion) := (s.acts_changeElv id _).trans (State.acts_owePosition _ _ _)

theorem State.acts_homeAnv (s : State) (id : Nat) (state : ViewState) (az : Option Nat) :
    s.Acts (s.homeAnv id state az) := (s.acts_changeAnv id _).trans (State.acts_owePosition _ _ _)

theorem State.acts_refuse (s : State) (kind : ItemKind) (r : Request) (reason : Nat) : s.Acts (s.refuse kind r reason) := by
  simp only [State.refuse]
  split
  · exact s.acts_report (by simp [Report.settles, Report.idle])
  · split
    · exact s.acts_offer _
    · exact s.acts_withEd _

/-! ## Refusals leave the drive but for the refusal list (R42) -/

/-- Of the plant the refusal list alone differs. -/
def State.RefusesIn (s t : State) : Prop := t.ed = { s.ed with refusals := t.ed.refusals } ∧ t.pins = s.pins

theorem State.RefusesIn.trans {s t u : State} (h : s.RefusesIn t) (h' : t.RefusesIn u) : s.RefusesIn u :=
  ⟨h'.1.trans (by rw [h.1]), h'.2.trans h.2⟩

theorem State.refusesIn_of_plant {s t : State} (h : t.plant = s.plant) : s.RefusesIn t :=
  ⟨by rw [State.ed_of_plant h], State.pins_of_plant h⟩

theorem State.refusesIn_refuse (s : State) (kind : ItemKind) (r : Request) (reason : Nat) :
    s.RefusesIn (s.refuse kind r reason) := by
  simp only [State.refuse]
  split
  · exact State.refusesIn_of_plant (s.report_plant _)
  · split
    · exact State.refusesIn_of_plant (s.offer_plant _)
    · exact ⟨rfl, rfl⟩

theorem State.refusesIn_refuseAll (kind : ItemKind) (reason : Nat) (l : List Request) : ∀ s : State,
    s.RefusesIn (l.foldl (fun s r => s.refuse kind r reason) s) := by
  induction l with
  | nil => exact fun s => ⟨rfl, rfl⟩
  | cons r l ih => exact fun s => (s.refusesIn_refuse kind r reason).trans (ih _)

theorem State.acts_refuseQueued (s : State) (kind : ItemKind) (item : Nat) : s.Acts (s.refuseQueued kind item) := by
  have hqueue : s.Acts (s.withQueue kind ((s.queueOf kind).filter fun r => r.item != item)) := by
    cases kind <;> exact s.acts_withEd _
  exact hqueue.trans (State.acts_foldl (fun u r => u.acts_refuse kind r 2) _ _)

/-! ## SERVICE (R51, R52) -/

/-- The drive with no motion of an element, nor a request for it. -/
def State.freedElement (s : State) (item : Nat) : State :=
  s.withEd { s.ed with
    motion := s.ed.motion.filter fun m => m.req.item != item
    driveQ := s.ed.driveQ.filter fun r => r.item != item }

/-- The drive with no slew of an antenna, nor a request for it. -/
def State.freedAntenna (s : State) (item : Nat) : State :=
  s.withEd { s.ed with
    slew := s.ed.slew.filter fun w => w.req.item != item
    slewQ := s.ed.slewQ.filter fun r => r.item != item }

theorem State.stopMotion_eq (s : State) (item : Nat) :
    (if (s.inMotion .element item).isSome then s.withEd { s.ed with motion := none } else s)
      = s.withEd { s.ed with motion := s.ed.motion.filter fun m => m.req.item != item } := by
  unfold State.inMotion
  cases hm : s.ed.motion with
  | none => exact congrArg (fun m => s.withEd { s.ed with motion := m }) hm
  | some m =>
    by_cases h : m.req.item = item
    · simp [Option.filter, h]
    · have hkept : s.withEd { s.ed with motion := some m } = s := by
        rw [← hm]
        rfl
      simp [Option.filter, h, hkept]

theorem State.stopSlew_eq (s : State) (item : Nat) :
    (if (s.inMotion .antenna item).isSome then s.withEd { s.ed with slew := none } else s)
      = s.withEd { s.ed with slew := s.ed.slew.filter fun w => w.req.item != item } := by
  unfold State.inMotion
  cases hw : s.ed.slew with
  | none => exact congrArg (fun w => s.withEd { s.ed with slew := w }) hw
  | some w =>
    by_cases h : w.req.item = item
    · simp [Option.filter, h]
    · have hkept : s.withEd { s.ed with slew := some w } = s := by
        rw [← hw]
        rfl
      simp [Option.filter, h, hkept]

/-- The drive with the requests and the motion of an element gone, the refusals handed out. -/
def State.clearedElement (s : State) (item : Nat) : State :=
  (s.withEd { s.ed with motion := s.ed.motion.filter fun m => m.req.item != item }).refuseQueued .element item

/-- The drive with the requests and the slew of an antenna gone, the refusals handed out. -/
def State.clearedAntenna (s : State) (item : Nat) : State :=
  (s.withEd { s.ed with slew := s.ed.slew.filter fun w => w.req.item != item }).refuseQueued .antenna item

theorem State.clearedElement_refusesIn (s : State) (item : Nat) : (s.freedElement item).RefusesIn (s.clearedElement item) :=
  State.refusesIn_refuseAll .element 2 _ (s.freedElement item)

theorem State.clearedAntenna_refusesIn (s : State) (item : Nat) : (s.freedAntenna item).RefusesIn (s.clearedAntenna item) :=
  State.refusesIn_refuseAll .antenna 2 _ (s.freedAntenna item)

theorem State.acts_clearedElement (s : State) (item : Nat) : s.Acts (s.clearedElement item) :=
  (s.acts_withEd _).trans (State.acts_refuseQueued _ _ _)

theorem State.acts_clearedAntenna (s : State) (item : Nat) : s.Acts (s.clearedAntenna item) :=
  (s.acts_withEd _).trans (State.acts_refuseQueued _ _ _)

theorem State.exerciseStops_none {s : State} (h : s.ed.exercise = none) (item : Nat) : s.exerciseStops item = s := by
  unfold State.exerciseStops
  rw [h]

theorem State.serviceOut_element (s : State) {item : Nat} (hout : (s.elv item).state ≠ .out) (hex : s.ed.exercise = none) :
    s.serviceOut .element item = (s.clearedElement item).homeElv item .out (s.elv item).pos 0 := by
  unfold State.serviceOut
  rw [if_neg (show ¬ s.itemState .element item = .out from hout)]
  simp only [s.stopMotion_eq item]
  refine State.exerciseStops_none ?_ item
  have hshow := (s.clearedElement item).showsElement_homeElv item .out (s.elv item).pos 0
  refine (congrArg Drive.exercise hshow.ed).trans ?_
  exact (congrArg Drive.exercise (s.clearedElement_refusesIn item).1).trans hex

theorem State.serviceOut_antenna (s : State) {item : Nat} (hout : (s.anv item).state ≠ .out) :
    s.serviceOut .antenna item = (s.clearedAntenna item).homeAnv item .out (s.anv item).az := by
  unfold State.serviceOut
  rw [if_neg (show ¬ s.itemState .antenna item = .out from hout)]
  simp only [s.stopSlew_eq item]
  rfl

theorem State.serviceIn_element (s : State) {item : Nat} (hout : (s.elv item).state = .out) :
    s.serviceIn .element item = (s.putElv item { s.elv item with idle := s.cfg.tEXR / 100 }).homeElv item
      (s.senseElement item).1 (s.senseElement item).2 0 := by
  unfold State.serviceIn
  rw [if_pos (show s.itemState .element item = .out from hout)]

theorem State.serviceIn_antenna (s : State) {item : Nat} (hout : (s.anv item).state = .out) :
    s.serviceIn .antenna item = s.homeAnv item (s.senseAntenna item).1 (s.senseAntenna item).2 := by
  unfold State.serviceIn
  rw [if_pos (show s.itemState .antenna item = .out from hout)]

theorem State.RefusesIn.elv {s t : State} (h : s.RefusesIn t) (i : Nat) : t.elv i = s.elv i := by
  unfold State.elv
  rw [h.1]

theorem State.RefusesIn.anv {s t : State} (h : s.RefusesIn t) (i : Nat) : t.anv i = s.anv i := by
  unfold State.anv
  rw [h.1]

/-- The state of an element sensed (R43, R51). -/
theorem State.senseElement_eq (s : State) (i : Nat) :
    s.senseElement i = (if (s.sensedPos i).isSome then .set else .fault, s.sensedPos i) := by
  unfold State.senseElement
  cases s.sensedPos i <;> rfl

theorem State.serviceOut_already {s : State} {kind : ItemKind} {item : Nat} (h : s.itemState kind item = .out) :
    s.serviceOut kind item = s := if_pos h

theorem State.serviceIn_already {s : State} {kind : ItemKind} {item : Nat} (h : s.itemState kind item ≠ .out) :
    s.serviceIn kind item = s := if_neg h

/-- What SERVICE leaves of a home element taken out (R51). -/
structure State.TakenOut (s t : State) (item : Nat) : Prop where
  exercise : t.ed.exercise = s.ed.exercise
  state    : (t.elv item).state = .out
  pos      : (t.elv item).pos = (s.elv item).pos
  queue    : t.ed.driveQ = s.ed.driveQ.filter fun r => r.item != item
  motion   : t.ed.motion = s.ed.motion.filter fun m => m.req.item != item
  others   : ∀ i, i ≠ item → t.elv i = s.elv i

theorem State.TakenOut.of_plant {s t u : State} {item : Nat} (h : s.TakenOut t item) (hu : u.plant = t.plant) :
    s.TakenOut u item where
  exercise := by rw [State.ed_of_plant hu]; exact h.exercise
  state := by rw [State.elv_of_plant hu]; exact h.state
  pos := by rw [State.elv_of_plant hu]; exact h.pos
  queue := by rw [State.ed_of_plant hu]; exact h.queue
  motion := by rw [State.ed_of_plant hu]; exact h.motion
  others i hi := (State.elv_of_plant hu i).trans (h.others i hi)

theorem State.serviceOut_element_takes (s : State) {item : Nat} (hout : (s.elv item).state ≠ .out)
    (hex : s.ed.exercise = none) : s.Acts (s.serviceOut .element item) ∧ s.TakenOut (s.serviceOut .element item) item := by
  rw [s.serviceOut_element hout hex]
  have hshow := (s.clearedElement item).showsElement_homeElv item .out (s.elv item).pos 0
  have hcleared := s.clearedElement_refusesIn item
  exact ⟨(s.acts_clearedElement item).trans (State.acts_homeElv _ _ _ _ _),
    (congrArg Drive.exercise hshow.ed).trans (congrArg Drive.exercise hcleared.1 :), hshow.state, hshow.pos,
    (congrArg Drive.driveQ hshow.ed).trans (congrArg Drive.driveQ hcleared.1),
    (congrArg Drive.motion hshow.ed).trans (congrArg Drive.motion hcleared.1),
    fun i hi => (hshow.others i hi).trans (hcleared.elv i)⟩

/-- What SERVICE leaves of a home antenna taken out (R51). -/
structure State.TakenOutAntenna (s t : State) (item : Nat) : Prop where
  exercise : t.ed.exercise = s.ed.exercise
  state    : (t.anv item).state = .out
  az       : (t.anv item).az = (s.anv item).az
  queue    : t.ed.slewQ = s.ed.slewQ.filter fun r => r.item != item
  slew     : t.ed.slew = s.ed.slew.filter fun w => w.req.item != item

theorem State.TakenOutAntenna.of_plant {s t u : State} {item : Nat} (h : s.TakenOutAntenna t item)
    (hu : u.plant = t.plant) : s.TakenOutAntenna u item where
  exercise := by rw [State.ed_of_plant hu]; exact h.exercise
  state := by rw [State.anv_of_plant hu]; exact h.state
  az := by rw [State.anv_of_plant hu]; exact h.az
  queue := by rw [State.ed_of_plant hu]; exact h.queue
  slew := by rw [State.ed_of_plant hu]; exact h.slew

theorem State.serviceOut_antenna_takes (s : State) {item : Nat} (hout : (s.anv item).state ≠ .out) :
    s.Acts (s.serviceOut .antenna item) ∧ s.TakenOutAntenna (s.serviceOut .antenna item) item := by
  rw [s.serviceOut_antenna hout]
  have hshow := (s.clearedAntenna item).showsAntenna_homeAnv item .out (s.anv item).az
  have hcleared := s.clearedAntenna_refusesIn item
  exact ⟨(s.acts_clearedAntenna item).trans (State.acts_homeAnv _ _ _ _),
    (congrArg Drive.exercise hshow.ed).trans (congrArg Drive.exercise hcleared.1 :), hshow.state, hshow.az,
    (congrArg Drive.slewQ hshow.ed).trans (congrArg Drive.slewQ hcleared.1),
    (congrArg Drive.slew hshow.ed).trans (congrArg Drive.slew hcleared.1)⟩

/-- What an element shows that SERVICE takes in (R51, R52). -/
def State.sensedElv (s : State) (item : Nat) : ElView :=
  { s.elv item with
    idle := s.cfg.tEXR / 100, state := if (s.sensedPos item).isSome then .set else .fault
    pos := s.sensedPos item, motion := 0 }

theorem State.serviceIn_element_takes (s : State) {item : Nat} (hout : (s.elv item).state = .out) :
    s.Acts (s.serviceIn .element item)
      ∧ s.ShowsElement (s.serviceIn .element item) item (s.sensedElv item) := by
  rw [s.serviceIn_element hout, s.senseElement_eq]
  have hput := s.showsElement_putElv item { s.elv item with idle := s.cfg.tEXR / 100 }
  have hview : (s.putElv item { s.elv item with idle := s.cfg.tEXR / 100 }).elv item
      = { s.elv item with idle := s.cfg.tEXR / 100 } := (s.elv_putElv _ _ _).trans (if_pos rfl)
  have hshow := (s.putElv item { s.elv item with idle := s.cfg.tEXR / 100 }).showsElement_homeElv item
    (if (s.sensedPos item).isSome then .set else .fault) (s.sensedPos item) 0
  obtain ⟨b, hentry⟩ := hshow.entry
  rw [hview] at hentry
  exact ⟨(s.acts_withEd _).trans (State.acts_homeElv _ _ _ _ _), hshow.ed, hshow.pins, ⟨b, hentry⟩,
    fun i hi => (hshow.others i hi).trans (hput.others i hi)⟩

theorem State.serviceIn_antenna_takes (s : State) {item : Nat} (hout : (s.anv item).state = .out) :
    s.Acts (s.serviceIn .antenna item) ∧ s.ShowsAntenna (s.serviceIn .antenna item) item
      { s.anv item with state := (s.senseAntenna item).1, az := (s.senseAntenna item).2 } := by
  rw [s.serviceIn_antenna hout]
  exact ⟨State.acts_homeAnv _ _ _ _, State.showsAntenna_homeAnv _ _ _ _⟩

/-- What an antenna that does not slew is sensed as (R43, R51). -/
theorem State.senseAntenna_fixed {s : State} {i : Nat} {a : AntennaRec} (ha : s.antenna i = some a)
    (hslew : a.slew = none) : s.senseAntenna i = (.set, none) := by
  simp [State.senseAntenna, ha, hslew]

/-- What an antenna that slews is sensed as (R43, R51). -/
theorem State.senseAntenna_slews {s : State} {i : Nat} {a : AntennaRec} (ha : s.antenna i = some a)
    (hslew : a.slew ≠ none) :
    s.senseAntenna i = (if (s.sensedAz i).isSome then .set else .fault, s.sensedAz i) := by
  obtain ⟨w, hw⟩ := Option.ne_none_iff_exists'.1 hslew
  cases haz : s.sensedAz i <;> simp [State.senseAntenna, ha, hw, haz]

/-! ## The command -/

/-- The item and the direction a SERVICE names, as the command reads them (R51). -/
def State.serviceOn (s : State) (kind : ItemKind) (id dir : Nat) : Answer :=
  if s.isHome kind id = false ∨ 1 < dir then s.answer .badArg
  else if dir = 0 then (s.serviceOut kind id).answer .ok
  else (s.serviceIn kind id).answer .ok

theorem State.doService_element (s : State) {l : List Byte} (h : field l 0 1 = 0) :
    s.doService l = s.serviceOn .element (field l 1 1) (field l 2 1) := by
  unfold State.doService
  rw [h]
  rfl

theorem State.doService_antenna (s : State) {l : List Byte} (h : field l 0 1 = 1) :
    s.doService l = s.serviceOn .antenna (field l 1 1) (field l 2 1) := by
  unfold State.doService
  rw [h]
  rfl

theorem State.doService_other (s : State) {l : List Byte} (h : 1 < field l 0 1) : s.doService l = s.answer .badArg := by
  obtain ⟨n, hn⟩ : ∃ n, field l 0 1 = n + 2 := ⟨field l 0 1 - 2, by omega⟩
  unfold State.doService
  rw [hn]
  rfl

theorem State.serviceOn_badArg (s : State) {kind : ItemKind} {id dir : Nat} (h : s.isHome kind id = false ∨ 1 < dir) :
    s.serviceOn kind id dir = s.answer .badArg := if_pos h

theorem State.serviceOn_out (s : State) {kind : ItemKind} {id dir : Nat} (hhome : s.isHome kind id = true)
    (hdir : dir = 0) : s.serviceOn kind id dir = (s.serviceOut kind id).answer .ok := by
  unfold State.serviceOn
  rw [if_neg (by simp [hhome, hdir]), if_pos hdir]

theorem State.serviceOn_in (s : State) {kind : ItemKind} {id dir : Nat} (hhome : s.isHome kind id = true)
    (hdir : dir = 1) : s.serviceOn kind id dir = (s.serviceIn kind id).answer .ok := by
  unfold State.serviceOn
  rw [if_neg (by simp [hhome, hdir]), if_neg (by omega)]

theorem State.doService_badArg (s : State) {l : List Byte}
    (h : 1 < field l 0 1 ∨ (field l 0 1 = 0 ∧ s.isHome .element (field l 1 1) = false)
      ∨ (field l 0 1 = 1 ∧ s.isHome .antenna (field l 1 1) = false) ∨ 1 < field l 2 1) :
    s.doService l = s.answer .badArg := by
  rcases Nat.lt_trichotomy (field l 0 1) 1 with hkind | hkind | hkind
  · rw [s.doService_element (by omega)]
    refine s.serviceOn_badArg ?_
    rcases h with h | ⟨-, h⟩ | ⟨h, -⟩ | h
    · omega
    · exact .inl h
    · omega
    · exact .inr h
  · rw [s.doService_antenna hkind]
    refine s.serviceOn_badArg ?_
    rcases h with h | ⟨h, -⟩ | ⟨-, h⟩ | h
    · omega
    · omega
    · exact .inl h
    · exact .inr h
  · exact s.doService_other hkind

/-- The station with the window of a SERVICE taken. -/
def State.serviceAsked (s : State) (l extra : List Byte) : State :=
  s.windowed 22 (hostWindow l extra) { code := 22, payload := l, answer := none }

/-- A SERVICE that a quiet station acts on: beside the plant, the link and the claim map the response alone is new. -/
theorem serves_service {s x : State} {l extra : List Byte} (hresp : s.sp.resp = .empty) (hphase : s.sp.phase = .running)
    (hlen : l.length = 3) (hquiet : s.quiet = true) (hacts : (s.serviceAsked l extra).Acts x)
    (hex : x.ed.exercise = none) (heff : (s.serviceAsked l extra).doService l = x.answer .ok) :
    ∃ t, Serves (.service (hostWindow l extra)) s t ∧ t.sp = (s.answered 22 (hostWindow l extra) .ok []).sp
      ∧ t.plant = x.plant ∧ t.ts = s.ts ∧ t.tb = s.tb ∧ t.ss = s.ss := by
  have hserves := serves_of_drain (c := .service (hostWindow l extra)) (code := 22) (payload := l) (extra := extra) rfl
    hresp rfl (by simp [payloadLength, hlen]) (by omega) (by rw [hphase]; rfl) heff
  obtain ⟨hlc, cm, ed, rs, hx, hrs⟩ := hacts
  have hreports : (x.answer .ok).served.reports = rs := by rw [hx]; rfl
  have hstill : (x.answer .ok).served.quiet = true := by
    simp only [State.quiet, Bool.and_eq_true] at hquiet ⊢
    obtain ⟨⟨⟨hplans, -⟩, hidle⟩, hgo⟩ := hquiet
    refine ⟨⟨⟨?_, Option.isNone_iff_eq_none.2 hex⟩, ?_⟩, ?_⟩ <;> rw [hx] <;> assumption
  obtain ⟨rs', hdrain⟩ := drain_settles reportFuel _ hstill (hreports ▸ hrs)
  rw [hdrain] at hserves
  refine ⟨_, hserves, ?_, rfl, ?_, ?_, ?_⟩ <;> rw [hx] <;> rfl

/-- A SERVICE that changes nothing is answered. -/
theorem serves_service_answered {s : State} {l extra : List Byte} {st : Status} (hresp : s.sp.resp = .empty)
    (hphase : s.sp.phase = .running) (hlen : l.length = 3)
    (heff : (s.serviceAsked l extra).doService l = (s.serviceAsked l extra).answer st) :
    Serves (.service (hostWindow l extra)) s (s.answered 22 (hostWindow l extra) st []) :=
  serves_of_effect (c := .service (hostWindow l extra)) (code := 22) (payload := l) (extra := extra) rfl hresp rfl
    (by simp [payloadLength, hlen]) (by omega) (by rw [hphase]; rfl) heff rfl

end Sys2Proof.Machine
end

section
open Sys2Proof Sys2Proof.Machine

/-- Settles O55: SERVICE answers BAD-ARG, leaves an item as it is, or clears its requests and its motion and changes its one
view entry; what it hands over leaves a quiet station. -/
theorem serviceTakesItemsOutAndIn : Obligations.ServiceTakesItemsOutAndIn := by
  intro s l extra hresp hphase hlen win id
  refine ⟨fun hbad => serves_service_answered hresp hphase hlen (State.doService_badArg _ hbad),
    fun hkind hhome hquiet => ?_, fun hkind hhome hquiet => ?_⟩
  all_goals
    have hex : s.ed.exercise = none := by
      simp only [State.quiet, Bool.and_eq_true, Option.isNone_iff_eq_none] at hquiet
      exact hquiet.1.1.2
  · have hout := fun hdir : field l 2 1 = 0 => ((s.serviceAsked l extra).doService_element hkind).trans
      (State.serviceOn_out _ hhome hdir)
    have hin := fun hdir : field l 2 1 = 1 => ((s.serviceAsked l extra).doService_element hkind).trans
      (State.serviceOn_in _ hhome hdir)
    refine ⟨fun hdir hstate => ?_, fun hdir hstate => ?_, fun hdir hstate => ?_, fun hdir hstate => ?_⟩
    · rw [State.serviceOut_already (s := s.serviceAsked l extra) (kind := .element) (item := field l 1 1) hstate] at hout
      exact serves_service_answered hresp hphase hlen (hout hdir)
    · rw [State.serviceIn_already (s := s.serviceAsked l extra) (kind := .element) (item := field l 1 1) hstate] at hin
      exact serves_service_answered hresp hphase hlen (hin hdir)
    · obtain ⟨hacts, htakes⟩ := (s.serviceAsked l extra).serviceOut_element_takes hstate hex
      obtain ⟨t, hserves, hsp, hplant, hts, htb, hss⟩ := serves_service hresp hphase hlen hquiet hacts
        (htakes.exercise.trans hex) (hout hdir)
      have htakes := htakes.of_plant hplant
      exact ⟨t, hserves, hsp, htakes.state, htakes.pos, htakes.queue, htakes.motion, htakes.others, hts, htb, hss⟩
    · obtain ⟨hacts, hshow⟩ := (s.serviceAsked l extra).serviceIn_element_takes hstate
      obtain ⟨t, hserves, hsp, hplant, hts, htb, -⟩ := serves_service hresp hphase hlen hquiet hacts
        ((congrArg Drive.exercise hshow.ed).trans hex) (hin hdir)
      have hshow := hshow.of_plant hplant
      exact ⟨t, hserves, hsp, hshow.state, hshow.pos, hshow.idle, hshow.others, (congrArg Drive.driveQ hshow.ed :), hts, htb⟩
  · have hout := fun hdir : field l 2 1 = 0 => ((s.serviceAsked l extra).doService_antenna hkind).trans
      (State.serviceOn_out _ hhome hdir)
    have hin := fun hdir : field l 2 1 = 1 => ((s.serviceAsked l extra).doService_antenna hkind).trans
      (State.serviceOn_in _ hhome hdir)
    refine ⟨fun hdir hstate => ?_, fun hdir hstate => ?_⟩
    · obtain ⟨hacts, htakes⟩ := (s.serviceAsked l extra).serviceOut_antenna_takes hstate
      obtain ⟨t, hserves, hsp, hplant, hts, htb, hss⟩ := serves_service hresp hphase hlen hquiet hacts
        (htakes.exercise.trans hex) (hout hdir)
      have htakes := htakes.of_plant hplant
      exact ⟨t, hserves, hsp, htakes.state, htakes.az, htakes.queue, htakes.slew, hts, htb, hss⟩
    · obtain ⟨hacts, hshow⟩ := (s.serviceAsked l extra).serviceIn_antenna_takes hstate
      obtain ⟨t, hserves, hsp, hplant, hts, htb, -⟩ := serves_service hresp hphase hlen hquiet hacts
        ((congrArg Drive.exercise hshow.ed).trans hex) (hin hdir)
      have hshow := hshow.of_plant hplant
      refine ⟨t, hserves, hsp, fun a ha hslew => ?_, fun a ha hslew => ?_, (congrArg Drive.slewQ hshow.ed :), hts, htb⟩
      · rw [State.senseAntenna_fixed (s := s.serviceAsked l extra) ha hslew] at hshow
        exact ⟨hshow.state, hshow.az⟩
      · rw [State.senseAntenna_slews (s := s.serviceAsked l extra) ha hslew] at hshow
        exact ⟨hshow.state, hshow.az⟩
end

section
/-! SUPPORT. Requests that join a queue (R44, R45); and the reports that a station without plans takes without effect while its
sequencer is IDLE. -/

namespace Sys2Proof.Machine

open Sys2Proof

/-! ## A request that joins its queue (R44, R45) -/

section
variable {s : State} {k : ItemKind} {r : Request} (hfree : ∀ x ∈ s.queueOf k, x.item ≠ r.item)
  (hrest : s.inMotion k r.item = none) (hoff : s.sensed k r.item ≠ some r.target)
include hfree hrest hoff

theorem State.handling_append : s.handling k r = .append := by
  have hqueued : ((s.queueOf k).any fun x => x.item == r.item) = false := by
    simpa using hfree
  have hmine : ((s.queueOf k).any fun x => x.item == r.item && x.from r.station r.booking) = false := by
    simp only [List.any_eq_false, Bool.and_eq_true, beq_iff_eq, not_and]
    exact fun x hx h => absurd h (hfree x hx)
  simp only [State.handling, hmine, hrest, beq_eq_false_iff_ne.2 hoff]
  rfl

/-- A request for a home item at rest, away from its target, with none queued for it, joins the queue (R45). -/
theorem State.request_appends (hhome : s.isHome k r.item = true) (hrange : s.targetInRange k r.item r.target = true)
    (hpass : s.turnRefusal k r = none) (hroom : (s.queueOf k).length < queueCap k) :
    s.request k r = s.withQueue k (s.queueOf k ++ [r]) := by
  have happend := State.handling_append hfree hrest hoff
  have hother : ((s.queueOf k).any fun x => x.item == r.item && !x.from r.station r.booking) = false := by
    simp only [List.any_eq_false, Bool.and_eq_true, beq_iff_eq, not_and]
    exact fun x hx h => absurd h (hfree x hx)
  have hnone : s.requestRefusal k r = none := by
    unfold State.requestRefusal
    rw [if_neg (by simp [hrange]), hpass]
    simp only [hother, hrest, happend]
    simp [Nat.not_le.2 hroom]
  unfold State.request
  rw [if_pos hhome, hnone]
  simp only [State.accept, happend]

end

/-! ## Reports that go nowhere -/

/-- Reports that neither carry an item nor name a requester. -/
def Report.rests : Report → Bool
  | .permitTest | .restartTest | .retryBlocked | .stopTest => true
  | _ => false

/-- With no plan, and the sequencer IDLE, they change nothing outside STOPPING. -/
theorem deliver_rests {r : Report} {s : State} (hplans : s.cp.plans = []) (hidle : s.ts.state = .idle)
    (hgo : s.sp.phase ≠ .stopping) (hr : r.rests = true) : deliver r s = s := by
  cases r with
  | permitTest =>
    show s.permitTest = s
    unfold State.permitTest
    rw [hidle]
  | restartTest => exact if_neg (by simp [hidle])
  | retryBlocked => exact State.retryBlocked_none s (by simp [hplans])
  | stopTest => exact State.stopTest_other hgo
  | _ => exact absurd hr (by simp [Report.rests])

/-- With no plan a view change goes to the BLOCKED plans and no further. -/
theorem deliver_viewChanged_planless {s : State} (hplans : s.cp.plans = []) (kind : ItemKind) (item : Nat) :
    deliver (.viewChanged kind item) s = s.report [.retryBlocked] := by
  have hview : s.planViewChanged kind item = s := by
    unfold State.planViewChanged State.currentPlan
    rw [hplans]
    rfl
  exact congrArg (fun u : State => u.report [.retryBlocked]) hview

end Sys2Proof.Machine
end

section
/-! SUPPORT. Hours and idle seconds (R52, R126); a claim that meets no test of R60; and the exercise scan at a second advance
(R53). -/

namespace Sys2Proof.Machine

open Sys2Proof

/-! ## Hours (R126) -/

theorem PresetSet.ageHour_way (x : PresetSet) (w : Nat) :
    ({ x with way0 := x.way0.ageHour, way1 := x.way1.ageHour } : PresetSet).way w = (x.way w).ageHour :=
  (apply_ite Preset.ageHour (w = 0) x.way0 x.way1).symm

theorem State.presetSet_ageHour (s : State) {i : Nat} (hi : i < s.pd.sets.length) :
    (s.withPd s.pd.ageHour).presetSet i =
      { s.presetSet i with way0 := (s.presetSet i).way0.ageHour, way1 := (s.presetSet i).way1.ageHour } := by
  show ((List.map _ s.pd.sets)[i]?).getD PresetSet.reset = _
  rw [List.getElem?_map]
  unfold State.presetSet
  rw [List.getElem?_eq_getElem hi]
  rfl

/-! ## Idle seconds (R52) -/

/-- A home element's view after one more idle second. -/
def ElView.idleOn (v : ElView) : ElView := { v with idle := min Config.idleLimit (v.idle + 1) }

theorem State.exerciseOverdue_congr {s t : State} (hcfg : t.cfg = s.cfg) {i : Nat} (h : t.elv i = s.elv i) :
    t.exerciseOverdue i = s.exerciseOverdue i := by
  unfold State.exerciseOverdue
  rw [hcfg, h]

/-- The idle seconds of the elements of `l` counted: their views and ELEMENT-OVERDUE alone differ. -/
structure State.Idles (s t : State) (l : List Nat) : Prop where
  frame : t = (s.withEd { s.ed with elView := t.ed.elView }).withFlags
    { s.flags with elementOverdue := t.flags.elementOverdue }
  elv   : ∀ i, t.elv i = if i ∈ l then (s.elv i).idleOn else s.elv i
  flag  : t.flags.elementOverdue = true ↔ s.flags.elementOverdue = true
    ∨ ∃ i ∈ l, t.exerciseOverdue i = true ∧ s.exerciseOverdue i = false

theorem State.Idles.cfg {s t : State} {l : List Nat} (h : s.Idles t l) : t.cfg = s.cfg := by
  rw [h.frame]
  rfl

theorem State.idles_idleOne (s : State) (el : Nat) : s.Idles (s.idleOne el) [el] := by
  have hput := s.elv_putElv el (v := (s.elv el).idleOn)
  have hview : ∀ i, (s.putElv el (s.elv el).idleOn).elv i = if i ∈ [el] then (s.elv i).idleOn else s.elv i := fun i => by
    rw [hput]
    by_cases h : i = el
    · rw [if_pos h, if_pos (List.mem_singleton.2 h), h]
    · rw [if_neg h, if_neg (by simpa using h)]
  unfold State.idleOne
  show s.Idles (if (s.putElv el (s.elv el).idleOn).exerciseOverdue el && !s.exerciseOverdue el then
    (s.putElv el (s.elv el).idleOn).withFlags { s.flags with elementOverdue := true }
    else s.putElv el (s.elv el).idleOn) [el]
  split
  · next h =>
    simp only [Bool.and_eq_true, Bool.not_eq_true'] at h
    exact ⟨rfl, hview, iff_of_true rfl (.inr ⟨el, List.mem_singleton.2 rfl, h⟩)⟩
  · next h =>
    simp only [Bool.and_eq_true, Bool.not_eq_true'] at h
    refine ⟨rfl, hview, ⟨.inl, fun h' => h'.elim id ?_⟩⟩
    rintro ⟨i, hi, hdue⟩
    rw [List.mem_singleton.1 hi] at hdue
    exact absurd hdue h

/-- The idle seconds of distinct elements, one after the other. -/
theorem State.idles_fold (l : List Nat) : ∀ s : State, l.Nodup → s.Idles (l.foldl State.idleOne s) l := by
  induction l with
  | nil => exact fun s _ => ⟨rfl, fun _ => rfl, ⟨.inl, fun h => h.elim id fun ⟨_, hi, _⟩ => absurd hi List.not_mem_nil⟩⟩
  | cons x l ih =>
    intro s hnodup
    obtain ⟨hx, hl⟩ := List.nodup_cons.1 hnodup
    have hone := s.idles_idleOne x
    have hrest := ih (s.idleOne x) hl
    rw [List.foldl_cons]
    generalize l.foldl State.idleOne (s.idleOne x) = t at hrest ⊢
    have hother : ∀ i, i ≠ x → (s.idleOne x).elv i = s.elv i := fun i hi =>
      (hone.elv i).trans (if_neg (by simpa using hi))
    have hafter : ∀ i, i ∉ l → t.elv i = (s.idleOne x).elv i := fun i hi => (hrest.elv i).trans (if_neg hi)
    refine ⟨?_, fun i => ?_, ?_⟩
    · rw [hrest.frame, hone.frame]
      rfl
    · by_cases hi : i = x
      · rw [hafter i (hi ▸ hx), hone.elv i, if_pos (List.mem_singleton.2 hi), if_pos (by simp [hi])]
      · rw [hrest.elv i, hother i hi]
        simp [hi]
    · rw [hrest.flag, hone.flag]
      have hlast : t.exerciseOverdue x = (s.idleOne x).exerciseOverdue x :=
        State.exerciseOverdue_congr hrest.cfg (hafter x hx)
      have hbefore : ∀ i ∈ l, (s.idleOne x).exerciseOverdue i = s.exerciseOverdue i := fun i hi =>
        State.exerciseOverdue_congr hone.cfg (hother i fun h => hx (h ▸ hi))
      simp only [List.mem_cons, List.not_mem_nil, or_false, exists_eq_left, exists_eq_or_imp, hlast, or_assoc]
      refine or_congr_right (or_congr_right (exists_congr fun i => and_congr_right fun hi => ?_))
      rw [hbefore i hi]

theorem State.homeElements_nodup {s : State} (h : keysRise s.ed.elements = true) : s.homeElements.Nodup := by
  rw [keysRise_iff] at h
  exact ((List.pairwise_map.2 h).imp fun h => Nat.ne_of_lt h).sublist (List.filter_sublist.map _)

theorem State.mem_homeElements {s : State} (h : keysRise s.ed.elements = true) (i : Nat) :
    i ∈ s.homeElements ↔ s.isHome .element i = true := by
  constructor
  · intro hi
    obtain ⟨p, hp, rfl⟩ := List.mem_map.1 hi
    obtain ⟨hmem, hhome⟩ := List.mem_filter.1 hp
    have hlookup : s.element p.1 = some p.2 := lookupKey_of_mem h hmem
    have hat : p.2.home = s.cfg.stationId := beq_iff_eq.1 hhome
    simp [State.isHome, State.homeOf, hlookup, hat]
  · intro hi
    simp only [State.isHome, State.homeOf, beq_iff_eq, Option.map_eq_some_iff] at hi
    obtain ⟨e, he, hhome⟩ := hi
    exact List.mem_map.2 ⟨(i, e), List.mem_filter.2 ⟨mem_of_lookupKey he, beq_iff_eq.2 hhome⟩, rfl⟩

/-! ## A claim request that no test refuses (R60, R61) -/

/-- The booking a claim request makes. -/
def State.claimed (s : State) (req : Requester) (d : Desc) : OwnBooking :=
  { desc := { d with holder := s.cfg.stationId, num := nextNumber s.cm.numCtr s.bookingNumbersUsed
                     stamp := s.hlc.nextStamp }
    state := .tentative, req := req, sent := false, listen := none, confirm := none, relPending := false
    owedAir := false }

/-- The station with a claim made: its booking, its number and stamp, its CLAIM queued. -/
def State.withClaim (s : State) (req : Requester) (d : Desc) : State :=
  ((s.queued [.claim (s.claimed req d).desc]).withHlc
    { (s.queued [.claim (s.claimed req d).desc]).hlc with stamp := s.hlc.nextStamp }).withCm
    { s.cm with
      numCtr := nextNumber s.cm.numCtr s.bookingNumbersUsed, own := s.cm.own ++ [s.claimed req d] }

theorem State.requestBooking_made {s : State} {req : Requester} {d : Desc} (hfree : s.claimRefusal req d = none)
    (hphase : s.sp.phase = .running) (hroom : s.hlc.queue.length + s.hlc.slots.length < 16) :
    s.requestBooking req d = (s.withClaim req d, .made (s.claimed req d).desc.num) := by
  have hoffer := s.offer_running (.claim (s.claimed req d).desc) hphase hroom
  simp only [State.requestBooking, hfree]
  rw [show s.offer (.claim { d with holder := s.cfg.stationId, num := nextNumber s.cm.numCtr s.bookingNumbersUsed
                                    stamp := s.hlc.nextStamp }) = _ from hoffer]
  rfl

/-- A station that knows of no booking refuses no claim of an interval from now (R60). -/
theorem State.claimRefusal_none {s : State} (req : Requester) {d : Desc} {k : Nat} (hphase : s.sp.phase = .running)
    (hgate : s.gateOpen = true) (hown : s.cm.own = []) (hmap : s.cm.map = []) (hhorizon : s.cm.horizon = none)
    (hstart : d.start = s.now) (hstop : d.stop = addT s.now k) (hk : 0 < k) (hlong : k ≤ Config.maxInterval) :
    s.claimRefusal req d = none := by
  have hlength : fd d.start d.stop = k := by
    rw [hstart, hstop]
    exact fd_addT _ _ (by unfold Config.maxInterval Config.weekTicks at *; omega)
  have hafter : after s.now d.stop = true := by
    rw [hstart] at hlength
    simp only [after, atOrAfter, hlength, Bool.and_eq_true, decide_eq_true_eq]
    unfold Config.maxInterval Config.halfWeek at *
    omega
  have hcount : ¬ (if decide (req = .exercise) = true then 1 else Config.planBookingLimit)
      ≤ s.cm.own.countP fun b => decide (b.req = .exercise) == decide (req = .exercise) := by
    rw [hown]
    split <;> simp [Config.planBookingLimit]
  simp only [State.claimRefusal]
  rw [if_neg (show ¬ s.phase ≠ .running from not_not.2 hphase), if_neg (by simp [hgate]), if_neg (by simp [hlength, hafter]; omega), if_neg hcount,
    if_neg (by simp [State.pastHorizon, hhorizon]), if_neg (by simp [State.peerConflict, hmap]),
    if_neg (by simp [hown])]

/-! ## The exercise scan at a second advance (R53) -/

theorem Timebase.countTick_gate (t : Timebase) (refnom : Nat) (htis : t.tis ≤ 99) (hmark : t.freeMark = false) :
    (t.countTick refnom).skew = t.skew ∧ (t.countTick refnom).good = t.good := by
  rw [t.countTick_eq refnom htis, hmark]
  exact ⟨rfl, by simp⟩

section
variable {s t : State} (htb : t.tb.skew = s.tb.skew ∧ t.tb.good = s.tb.good) (hsp : t.sp = s.sp)
  (hed : t.ed = { s.ed with motion := t.ed.motion, slew := t.ed.slew, idleTicks := t.ed.idleTicks, idleDue := t.ed.idleDue })
  (hmotion : t.ed.motion.map Motion.req = s.ed.motion.map Motion.req) (hts : t.ts.state = s.ts.state)
  (hcp : t.cp.plans = s.cp.plans) (hcfg : t.cfg = s.cfg)

include htb hsp hed hts hcp in
theorem State.scanOpen_congr : t.scanOpen = s.scanOpen := by
  have hgate : t.gateOpen = s.gateOpen := by simp [State.gateOpen, htb]
  have hex : t.ed.exercise = s.ed.exercise := by rw [hed]
  unfold State.scanOpen State.phase
  rw [hgate, hsp, hex, hts, hcp]

include hed hcfg in
theorem State.scanOrder_congr : t.scanOrder = s.scanOrder := by
  have helements : t.ed.elements = s.ed.elements := by rw [hed]
  have hptr : t.ed.exPtr = s.ed.exPtr := by rw [hed]
  have hhere : t.homeHere = s.homeHere := by
    unfold State.homeHere
    rw [hcfg]
  have hhome : t.homeElements = s.homeElements := by
    unfold State.homeElements
    rw [helements, hhere]
  unfold State.scanOrder
  rw [hptr, hhome]

include hed hmotion hcfg in
theorem State.scanTakes_congr (hclear : ∀ el, t.exerciseClear el = s.exerciseClear el) : t.scanTakes = s.scanTakes := by
  funext el
  have helv : t.elv el = s.elv el := by
    unfold State.elv
    rw [show t.ed.elView = s.ed.elView by rw [hed]]
  have hdue : t.exerciseDue el = s.exerciseDue el := by
    unfold State.exerciseDue
    rw [hcfg, helv]
  have hin : t.inMotion .element el = s.inMotion .element el := by
    simp only [State.inMotion, hmotion]
  unfold State.scanTakes
  rw [hdue, helv, show t.ed.driveQ = s.ed.driveQ by rw [hed], hin, hclear]

end

/-- With no booking known every element is clear for exercise. -/
theorem State.exerciseClear_alone {s : State} (hown : s.cm.own = []) (hmap : s.cm.map = []) (el : Nat) :
    s.exerciseClear el = true := by
  simp [State.exerciseClear, hown, hmap]

/-- The interval the scan books for an element at a position (R53). -/
def State.exerciseDesc (s : State) (el pos : Nat) : Desc :=
  { holder := s.cfg.stationId, num := 0, cls := 0, stamp := 0, start := s.now
    stop := addT s.now (2 * s.estimate el + 200), antenna := none, azimuth := none, steps := [(el, pos)] }

/-- The state with the scan's pointer at an element (R53). -/
def State.pointed (s : State) (el : Nat) : State := s.withEd { s.ed with exPtr := some el }

/-- What the scan makes of the answer to its claim (R53). -/
def exerciseBooked (el pos : Nat) (r : State × ClaimAnswer) : State :=
  match r.2 with
  | .made num => r.1.withEd { r.1.ed with
      exercise := some { element := el, booking := num, origin := pos, stage := .claimed } }
  | .refused _ => r.1

/-- The scan books the element it takes (R53). -/
theorem State.exerciseScan_books {s : State} {el pos : Nat} (hopen : s.scanOpen = true)
    (htakes : s.scanOrder.find? s.scanTakes = some el) (hpos : (s.elv el).pos = some pos)
    (hfree : (s.pointed el).claimRefusal .exercise (s.exerciseDesc el pos) = none)
    (hroom : s.hlc.queue.length + s.hlc.slots.length < 16) :
    s.exerciseScan = ((s.pointed el).withClaim .exercise (s.exerciseDesc el pos)).withEd { (s.pointed el).ed with
      exercise := some { element := el, origin := pos, stage := .claimed
                         booking := (s.claimed .exercise (s.exerciseDesc el pos)).desc.num } } := by
  have hphase : s.sp.phase = .running := by
    simp only [State.scanOpen, Bool.and_eq_true, beq_iff_eq] at hopen
    exact hopen.1.1.1.1
  have hmade : (s.pointed el).requestBooking .exercise ((s.pointed el).exerciseDesc el pos) = _ :=
    State.requestBooking_made hfree hphase hroom
  have hgetD : ((s.elv el).pos).getD 0 = pos := by rw [hpos, Option.getD_some]
  unfold State.exerciseScan
  rw [if_pos hopen, htakes]
  show exerciseBooked el (((s.elv el).pos).getD 0) ((s.pointed el).requestBooking .exercise
    ((s.pointed el).exerciseDesc el (((s.elv el).pos).getD 0))) = _
  rw [hgetD, hmade]
  rfl

end Sys2Proof.Machine
end

section
/-! SUPPORT. The exercise's own requests, from its booking BOOKED to its release (R54). -/

namespace Sys2Proof.Machine

open Sys2Proof

/-- Reports handed over in turn. -/
theorem State.report_report (s : State) (l l' : List Report) : (s.report l).report l' = s.report (l ++ l') :=
  congrArg s.withReports (List.append_assoc s.reports l l')

/-- The exercise `x` of element record `e` under its booking `b`, the one booking known, with no request queued. -/
structure State.Exercises (s : State) (x : Exercise) (b : OwnBooking) (e : ElementRec) : Prop where
  own     : s.cm.own = [b]
  map     : s.cm.map = []
  num     : b.desc.num = x.booking
  req     : b.req = .exercise
  steps   : b.desc.steps = [(x.element, x.origin)]
  now     : containsTick b.desc.start b.desc.stop s.now = true
  home    : s.isHome .element x.element = true
  element : s.element x.element = some e
  queue   : s.ed.driveQ = []

/-- The request an exercise makes for its element. -/
def State.exerciseAsk (s : State) (x : Exercise) (target : Nat) : Request :=
  { item := x.element, target := target, station := s.cfg.stationId, booking := x.booking }

theorem State.exerciseRequest_eq (s : State) (x : Exercise) (target : Nat) :
    s.exerciseRequest x target = s.request .element (s.exerciseAsk x target) := rfl

section
variable {s : State} {x : Exercise} {b : OwnBooking} {e : ElementRec} (h : s.Exercises x b e)
include h

theorem State.Exercises.ownBooking : s.ownBooking x.booking = some b := by
  rw [← h.num]
  exact State.ownBooking_of_singleton h.own

theorem State.Exercises.held (target : Nat) : s.Held .element (s.exerciseAsk x target) := by
  refine .inl ⟨rfl, b, h.ownBooking, h.now, ⟨x.origin, by rw [h.steps]; exact List.mem_singleton.2 rfl, .inr h.req⟩,
    fun y hy hother => ?_, fun y hy => ?_⟩
  · rw [h.own] at hy
    exact absurd ⟨rfl, (List.mem_singleton.1 hy) ▸ h.num⟩ hother
  · rw [h.map] at hy
    exact absurd hy List.not_mem_nil

theorem State.Exercises.notActive (target : Nat) : ¬ s.ActiveElsewhere .element (s.exerciseAsk x target) := by
  rintro (⟨y, hy, -, -, hother⟩ | ⟨y, hy, -⟩)
  · rw [h.own] at hy
    exact hother ⟨rfl, (List.mem_singleton.1 hy) ▸ h.num⟩
  · rw [h.map] at hy
    exact absurd hy List.not_mem_nil

/-- The request for the exercise's element, at rest away from the target, joins the drive queue. -/
theorem State.Exercises.asks {target : Nat} (htarget : target < e.count) (hin : (s.elv x.element).state ≠ .out)
    (hrest : s.ed.motion = none) (hoff : s.sensedPos x.element ≠ some target) :
    s.exerciseRequest x target = s.withEd { s.ed with driveQ := [s.exerciseAsk x target] } := by
  have hmotion : s.inMotion .element x.element = none := State.inMotion_element_isNone s (by simp [hrest])
  have hrange : s.targetInRange .element x.element target = true := by
    simp [State.targetInRange, h.element, htarget]
  have hpass : s.turnRefusal .element (s.exerciseAsk x target) = none :=
    State.turnRefusal_none hin (h.held target) (h.notActive target)
  have happend := State.request_appends (s := s) (k := .element) (r := s.exerciseAsk x target)
    (by rw [show s.queueOf .element = [] from h.queue]; exact nofun) hmotion hoff h.home hrange hpass
    (by rw [show s.queueOf .element = [] from h.queue]; decide)
  rw [s.exerciseRequest_eq, happend, show s.queueOf .element = [] from h.queue]
  rfl

end

/-! ## The booking BOOKED (R54, R62, R63) -/

/-- The listen window of the exercise's booking ends (R62). -/
theorem State.listenEnds_exercise {s : State} {b : OwnBooking} (hown : s.cm.own = [b]) (hstate : b.state = .tentative)
    (hlisten : b.listen = some 0) (hreq : b.req = .exercise) :
    s.listenEnds b.desc.num = (s.withCm { s.cm with own := [{ b with state := .booked, listen := none }] }).report
      [.told .exercise b.desc.num .booked, .permitTest, .restartTest] := by
  unfold State.listenEnds
  rw [State.ownBooking_of_singleton hown]
  simp only [hstate, hlisten, and_self, if_true]
  simp [State.updOwn, State.tell, hown, hreq]

/-- A BOOKED exercise booking begins to move (R63). -/
theorem State.beginMoving_exercise {s : State} {b : OwnBooking} (hown : s.cm.own = [b]) (hstate : b.state = .booked)
    (hreq : b.req = .exercise) :
    s.beginMoving b.desc.num =
      ((s.withCm { s.cm with own := [{ b with state := .moving }] }).report [.permitTest], true) := by
  have hupd : (s.updOwn b.desc.num fun b => { b with state := .moving })
      = s.withCm { s.cm with own := [{ b with state := .moving }] } := by
    unfold State.updOwn
    rw [hown]
    simp
  have hfound : ((s.withCm { s.cm with own := [{ b with state := .moving }] }).report [.permitTest]).ownBooking b.desc.num
      = some { b with state := .moving } := State.ownBooking_of_singleton (b := { b with state := .moving }) rfl
  unfold State.beginMoving
  rw [State.ownBooking_of_singleton hown]
  simp only [hstate, if_true, hupd, hfound]
  simp [State.judgeOne, hreq]

/-- The exercise's booking BOOKED: it moves, and the drive is asked for the next position (R54). -/
theorem State.exerciseTold_booked {s : State} {x : Exercise} {b : OwnBooking} {e : ElementRec}
    (h : s.Exercises x b e) (hex : s.ed.exercise = some x) (hstage : x.stage = .claimed) (hstate : b.state = .booked)
    (hcount : 0 < e.count) (hin : (s.elv x.element).state ≠ .out) (hrest : s.ed.motion = none)
    (hoff : s.sensedPos x.element ≠ some ((x.origin + 1) % e.count)) :
    s.exerciseTold x.booking .booked =
      ((s.withCm { s.cm with own := [{ b with state := .moving }] }).withEd { s.ed with
        exercise := some { x with stage := .outward }, driveQ := [s.exerciseAsk x ((x.origin + 1) % e.count)] }).report
        [.permitTest] := by
  have hmoves : s.beginMoving x.booking = _ := h.num ▸ State.beginMoving_exercise h.own hstate h.req
  have hafter : (((s.withCm { s.cm with own := [{ b with state := .moving }] }).report [.permitTest]).withEd
      { s.ed with exercise := some { x with stage := .outward } }).Exercises x { b with state := .moving } e :=
    { h with own := rfl }
  have hasks := hafter.asks (Nat.mod_lt (x.origin + 1) hcount) hin hrest hoff
  unfold State.exerciseTold
  simp only [hex, hstage, if_true, hmoves]
  rw [show (State.element _ x.element) = some e from h.element]
  exact hasks

/-! ## The element SET (R47, R54) -/

/-- An exercise booking is not judged. -/
theorem State.judgeItem_exercise {s : State} (h : ∀ b ∈ s.cm.own, b.req = .exercise) (kind : ItemKind) (item : Nat) :
    s.judgeItem kind item = s.report [.permitTest] := by
  have hfold : ∀ l : List OwnBooking, (∀ b ∈ l, b.req = .exercise) → l.foldl State.judgeOne s = s := by
    intro l
    induction l with
    | nil => exact fun _ => rfl
    | cons b l ih =>
      intro hl
      have hone : s.judgeOne b = s := if_pos (hl b (List.mem_cons_self ..))
      rw [List.foldl_cons, hone]
      exact ih fun c hc => hl c (List.mem_cons_of_mem b hc)
  unfold State.judgeItem
  rw [hfold _ fun b hb => h b (List.mem_of_mem_filter hb)]

/-- A change of an element's state while every booking is an exercise's: what is handed over. -/
theorem State.changeElv_exercise {s : State} (h : ∀ b ∈ s.cm.own, b.req = .exercise) {id : Nat} {v : ElView}
    (hdiffers : (s.elv id).state ≠ v.state) :
    s.changeElv id v = (s.putElv id v).report [.permitTest, .viewChanged .element id] := by
  have hjudge := State.judgeItem_exercise (s := s.putElv id v) h .element id
  unfold State.changeElv State.viewChange
  rw [if_neg fun hsame => hdiffers hsame.1, hjudge]
  simp [State.report]

/-- An owed report goes to the link; with room it is queued (R42). -/
theorem State.owePosition_running (s : State) (kind : ItemKind) (item : Nat) (hphase : s.sp.phase = .running) :
    ∃ hlc ed, s.owePosition kind item = (s.withHlc hlc).withEd ed
      ∧ (s.hlc.queue.length + s.hlc.slots.length < 16 → hlc = (s.queued [s.positionFrame kind item]).hlc) := by
  have hdispatch : dispatchesIn s.phase = true := by
    rw [show s.phase = .running from hphase]
    rfl
  have hroomed := fun hroom => congrArg (fun r : State × Bool => r.1.hlc) (s.offer_running (s.positionFrame kind item) hphase hroom)
  have hoffer := s.offer_other (s.positionFrame kind item)
  unfold State.owePosition
  rw [if_pos hdispatch]
  generalize s.offer (s.positionFrame kind item) = r at hroomed hoffer
  refine ⟨r.1.hlc, (r.1.setOwed kind item (!r.2)).ed, ?_, hroomed⟩
  show r.1.setOwed kind item (!r.2) = _
  rw [hoffer]
  cases kind <;> rfl

/-- An element's motion ends at its target while every booking is an exercise's: what is handed over. -/
theorem State.targetSensed_exercise {s : State} {m : Motion} (hphase : s.sp.phase = .running)
    (hm : s.ed.motion = some m) (hown : ∀ b ∈ s.cm.own, b.req = .exercise)
    (hmoving : (s.elv m.req.item).state = .moving) :
    ∃ hlc ed pins f, s.targetSensed = (((s.withHlc hlc).withEd ed).withPins pins).report
        [.permitTest, .viewChanged .element m.req.item, .elementSet m.req.item]
      ∧ (s.hlc.queue.length + s.hlc.slots.length < 16 → hlc = (s.queued [f]).hlc) := by
  obtain ⟨pins, hpins⟩ := s.driveElLines_pins m.req.item true m.req.target
  rw [s.targetSensed_some hm]
  generalize hu : s.arrived m.req.item m.req.target (max 1 m.count) = u
  have hplace : u = (s.withPins pins).withEd u.ed := by
    rw [← hu, State.arrived, hpins]
    rfl
  have hmoving' : (u.elv m.req.item).state = .moving := by
    rw [← hu]
    refine (congrArg ElView.state ((State.elv_putElv _ _ _ _).trans (if_pos rfl))).trans ?_
    rw [hpins]
    exact hmoving
  have hown' : ∀ b ∈ u.cm.own, b.req = .exercise := by
    rw [hplace]
    exact hown
  generalize u.ed = ed at hplace
  subst hplace
  unfold State.homeElv
  rw [State.changeElv_exercise hown' (by simp [hmoving'])]
  generalize ElView.mk .set _ _ _ _ _ _ = v
  obtain ⟨hlc, ed', howed, hroomed⟩ := State.owePosition_running ((((s.withPins pins).withEd ed).putElv m.req.item v).report
    [.permitTest, .viewChanged .element m.req.item]) .element m.req.item hphase
  rw [howed]
  refine ⟨hlc, ed', pins, _, ?_, hroomed⟩
  exact State.report_report (((s.withHlc hlc).withEd ed').withPins pins)
    [.permitTest, .viewChanged .element m.req.item] [.elementSet m.req.item]

/-- With no plan, and the sequencer IDLE, what a motion's end hands over comes down to the exercise's part. -/
theorem drain_elementSet {s : State} (hplans : s.cp.plans = []) (hidle : s.ts.state = .idle)
    (hgo : s.sp.phase ≠ .stopping) {k : ItemKind} {i el : Nat} (n : Nat)
    (hreports : s.reports = [.permitTest, .viewChanged k i, .elementSet el]) :
    drain (n + 3) s = drain n ((s.withReports [.retryBlocked]).exerciseSet el) := by
  rw [drain_cons _ _ _ _ hreports,
    deliver_rests (s := s.withReports [.viewChanged k i, .elementSet el]) hplans hidle hgo rfl, drain_cons _ _ _ _ rfl,
    deliver_viewChanged_planless (s := (s.withReports [.viewChanged k i, .elementSet el]).withReports [.elementSet el]) hplans, drain_cons _ _ _ _ rfl]
  rfl

/-- An exercise's booking goes at once (R68). -/
theorem State.releaseBooking_exercise {s : State} {num : Nat} {b : OwnBooking} (hb : s.ownBooking num = some b)
    (hreq : b.req = .exercise) : s.releaseBooking num = s.endOwn b .released := by
  unfold State.releaseBooking
  rw [hb]
  exact if_pos (.inr (.inr hreq))

/-- A booking whose CLAIM was sent leaves with its RELEASE (R68). -/
theorem State.removeOwn_sent (s : State) {b : OwnBooking} (hsent : ¬ (b.state = .tentative ∧ b.sent = false))
    (hphase : s.sp.phase = .running) (hroom : s.hlc.queue.length + s.hlc.slots.length < 16) :
    s.removeOwn b true = ((s.withCm { s.cm with
      own := s.cm.own.filter fun y => y.desc.num != b.desc.num }).queued [.release b.desc.num]).report [.stopTest] := by
  have hlinked : ¬ (s.withCm { s.cm with own := s.cm.own.filter fun y => y.desc.num != b.desc.num }).phase
      = .linkFault := fun h => nomatch h.symm.trans hphase
  have hoffer := (s.withCm { s.cm with own := s.cm.own.filter fun y => y.desc.num != b.desc.num }).offer_running
    (.release b.desc.num) hphase hroom
  simp only [State.removeOwn, if_neg hlinked, if_neg hsent, if_true, State.offerRelease, hoffer]

section
variable {s : State} {x : Exercise} {b : OwnBooking} {e : ElementRec} (h : s.Exercises x b e)
  (hex : s.ed.exercise = some x)
include h hex

/-- The element SET at the next position: the way back is asked for (R54). -/
theorem State.Exercises.exerciseSet_outward (hstage : x.stage = .outward) (horigin : x.origin < e.count)
    (hin : (s.elv x.element).state ≠ .out) (hrest : s.ed.motion = none) (hoff : s.sensedPos x.element ≠ some x.origin) :
    s.exerciseSet x.element = s.withEd { s.ed with
      exercise := some { x with stage := .returning }, driveQ := [s.exerciseAsk x x.origin] } := by
  have hafter : (s.withEd { s.ed with exercise := some { x with stage := .returning } }).Exercises x b e := { h with }
  unfold State.exerciseSet
  simp only [hex, hstage, if_true]
  exact hafter.asks horigin hin hrest hoff

/-- The element SET back where it was: the booking is released (R54, R68). -/
theorem State.Exercises.exerciseSet_returning (hstage : x.stage = .returning) (hstate : b.state = .moving)
    (hphase : s.sp.phase = .running) (hroom : s.hlc.queue.length + s.hlc.slots.length < 16) :
    s.exerciseSet x.element =
      (((s.withEd { s.ed with exercise := none }).withCm { s.cm with own := [] }).queued [.release x.booking]).report
        [.stopTest, .told .exercise x.booking .released, .permitTest, .restartTest] := by
  have hremove := (s.withEd { s.ed with exercise := none }).removeOwn_sent (b := b) (by simp [hstate]) hphase hroom
  have hgone : (s.withEd { s.ed with exercise := none }).cm.own.filter (fun y => y.desc.num != b.desc.num) = [] := by
    simp [h.own]
  rw [hgone] at hremove
  have hrelease := State.releaseBooking_exercise (s := s.withEd { s.ed with exercise := none }) h.ownBooking h.req
  rw [State.endOwn, hremove, h.num, h.req] at hrelease
  unfold State.exerciseSet
  simp only [hex, hstage, if_true]
  rw [hrelease]
  exact State.report_report _ [.stopTest] [.told .exercise x.booking .released, .permitTest, .restartTest]

end

end Sys2Proof.Machine
end

section
/-! SUPPORT. The tick of a second advance at which the scan takes an element (R53). -/

namespace Sys2Proof.Machine

open Sys2Proof

/-- Of what a tick of a station without bookings leaves, the parts that the scan reads are as before. -/
structure State.ScansAlike (s v : State) : Prop where
  gate   : v.tb.skew = s.tb.skew ∧ v.tb.good = s.tb.good
  sp     : v.sp = s.sp
  ed     : v.ed = { s.ed with motion := v.ed.motion, slew := v.ed.slew, idleTicks := v.ed.idleTicks, idleDue := v.ed.idleDue }
  motion : v.ed.motion.map Motion.req = s.ed.motion.map Motion.req
  ts     : v.ts.state = s.ts.state
  plans  : v.cp.plans = s.cp.plans
  cfg    : v.cfg = s.cfg
  own    : v.cm.own = []
  map    : v.cm.map = []
  horizon : v.cm.horizon = s.cm.horizon
  queue  : v.hlc.queue = s.hlc.queue
  slots  : v.hlc.slots = s.hlc.slots

theorem State.scansAlike_ticked (s : State) (htis : s.tb.tis = 99) (hmark : s.tb.freeMark = false)
    (hown : s.cm.own = []) (hmap : s.cm.map = []) : s.ScansAlike s.ticked := by
  rw [s.ticked_eq, Drive.countTimers_eq]
  exact ⟨s.tb.countTick_gate _ (Nat.le_of_eq htis) hmark, rfl, rfl, by simp [Function.comp_def], rfl, rfl, rfl,
    by simp [hown], hmap, rfl, rfl, rfl⟩

section
variable {s v : State} (h : s.ScansAlike v)
include h

theorem State.ScansAlike.elv (i : Nat) : v.elv i = s.elv i := by
  unfold State.elv
  rw [show v.ed.elView = s.ed.elView by rw [h.ed]]

theorem State.ScansAlike.estimate (i : Nat) : v.estimate i = s.estimate i := by
  unfold State.estimate State.element
  rw [show v.ed.elements = s.ed.elements by rw [h.ed], h.elv]

/-- The scan books the element it takes, as it would have before the tick (R53). -/
theorem State.ScansAlike.books {el pos : Nat} (hopen : s.scanOpen = true) (hown : s.cm.own = []) (hmap : s.cm.map = [])
    (hhorizon : s.cm.horizon = none) (htakes : s.scanOrder.find? s.scanTakes = some el)
    (hpos : (s.elv el).pos = some pos) (hlong : 2 * s.estimate el + 200 ≤ 9000000)
    (hroom : s.hlc.queue.length + s.hlc.slots.length < 16) :
    v.exerciseScan = ((v.pointed el).withClaim .exercise (v.exerciseDesc el pos)).withEd { (v.pointed el).ed with
      exercise := some { element := el, origin := pos, stage := .claimed
                         booking := (v.claimed .exercise (v.exerciseDesc el pos)).desc.num } } := by
  have hopen' : v.scanOpen = true := (State.scanOpen_congr h.gate h.sp h.ed h.ts h.plans).trans hopen
  have hclear : ∀ i, v.exerciseClear i = s.exerciseClear i := fun i =>
    (State.exerciseClear_alone h.own h.map i).trans (State.exerciseClear_alone hown hmap i).symm
  have htakes' : v.scanOrder.find? v.scanTakes = some el := by
    rw [State.scanOrder_congr h.ed h.cfg, State.scanTakes_congr h.ed h.motion h.cfg hclear]
    exact htakes
  simp only [State.scanOpen, Bool.and_eq_true, beq_iff_eq] at hopen'
  have hrunning : v.sp.phase = .running := hopen'.1.1.1.1
  have hgate : v.gateOpen = true := hopen'.1.1.1.2
  refine State.exerciseScan_books ?_ htakes' ((congrArg ElView.pos (h.elv el)).trans hpos) ?_ ?_
  · simp only [State.scanOpen, Bool.and_eq_true, beq_iff_eq]
    exact hopen'
  · refine State.claimRefusal_none (k := 2 * s.estimate el + 200) .exercise hrunning hgate h.own h.map
      (h.horizon.trans hhorizon) rfl ?_ (by omega) hlong
    show addT v.now (2 * v.estimate el + 200) = _
    rw [h.estimate]
    rfl
  · rw [h.queue, h.slots]
    exact hroom

end

/-! ## The exercise's steps, delivered (R54) -/

theorem State.Exercises.of_eq {s t : State} {x : Exercise} {b : OwnBooking} {e : ElementRec} (h : s.Exercises x b e)
    (hcm : t.cm = s.cm) (htb : t.tb = s.tb) (hcfg : t.cfg = s.cfg) (hel : t.ed.elements = s.ed.elements)
    (hq : t.ed.driveQ = s.ed.driveQ) : t.Exercises x b e := by
  have helement : t.element x.element = s.element x.element := by
    unfold State.element
    rw [hel]
  have hnow : t.now = s.now := by
    unfold State.now
    rw [htb]
  have hhome : t.isHome .element x.element = s.isHome .element x.element := by
    simp only [State.isHome, State.homeOf, helement, hcfg]
  exact { h with
    own := hcm ▸ h.own, map := hcm ▸ h.map, now := hnow ▸ h.now, home := hhome.trans h.home
    element := helement.trans h.element, queue := hq.trans h.queue }

section
variable {s : State} {x : Exercise} {b : OwnBooking} {e : ElementRec} (h : s.Exercises x b e)
  (hex : s.ed.exercise = some x) (hplans : s.cp.plans = []) (hidle : s.ts.state = .idle)
  (hphase : s.sp.phase = .running)
include h hex hplans hidle hphase

/-- The listen window of a claimed exercise ends: the booking moves and the drive is asked for the next position. -/
theorem State.Exercises.listenTimerEnd (hstage : x.stage = .claimed) (hstate : b.state = .tentative)
    (hlisten : b.listen = some 0) (hcount : 0 < e.count) (hin : (s.elv x.element).state ≠ .out)
    (hrest : s.ed.motion = none) (hoff : s.sensedPos x.element ≠ some ((x.origin + 1) % e.count)) (n : Nat) :
    drain (n + 4) ((s.withReports []).listenEnds x.booking) =
      ((s.withReports []).withCm { s.cm with own := [{ b with state := .moving, listen := none }] }).withEd { s.ed with
        exercise := some { x with stage := .outward }, driveQ := [s.exerciseAsk x ((x.origin + 1) % e.count)] } := by
  have hgo : s.sp.phase ≠ .stopping := by
    rw [hphase]
    decide
  have hends := State.listenEnds_exercise (s := s.withReports []) h.own hstate hlisten h.req
  have hbooked : ((((s.withReports []).withCm { s.cm with own := [{ b with state := .booked, listen := none }] }).withReports
      [.permitTest, .restartTest])).Exercises x { b with state := .booked, listen := none } e := { h with own := rfl }
  have htold := State.exerciseTold_booked hbooked hex hstage rfl hcount hin hrest hoff
  rw [h.num] at hends
  rw [hends, drain_cons _ _ (.told .exercise x.booking .booked) [.permitTest, .restartTest] rfl]
  refine (congrArg (drain (n + 3)) htold).trans ?_
  exact drain_inert [.permitTest, .restartTest, .permitTest] (n + 3) _ rfl (by simp) fun r hr rest =>
    deliver_rests hplans hidle hgo (by
      simp only [List.mem_cons, List.not_mem_nil, or_false] at hr
      rcases hr with rfl | rfl | rfl <;> rfl)

omit hex in
/-- The end of a motion of the exercise's element, up to the exercise's part in it. -/
theorem State.Exercises.targetSensed {m : Motion} (hm : s.ed.motion = some m) (hitem : m.req.item = x.element)
    (hmoving : (s.elv x.element).state = .moving) (n : Nat) : ∃ (w : State) (f : Frame),
      drain (n + 3) ((s.withReports []).targetSensed) = drain n (w.exerciseSet x.element)
      ∧ w.Exercises x b e ∧ w.reports = [.retryBlocked] ∧ w.sp = s.sp ∧ w.ts = s.ts ∧ w.cp = s.cp ∧ w.cfg = s.cfg
      ∧ w.ed = { s.ed with motion := none, elView := w.ed.elView }
      ∧ w.pins = ((s.withReports []).driveElLines x.element true m.req.target).pins
      ∧ (w.elv x.element).state = .set ∧ (w.elv x.element).idle = 0
      ∧ (s.hlc.queue.length + s.hlc.slots.length < 16 → w.hlc = (s.queued [f]).hlc) := by
  obtain ⟨hlc, ed, pins, f, heq, hroom⟩ := State.targetSensed_exercise (s := s.withReports []) hphase hm
    (fun y hy => by rw [show (s.withReports []).cm.own = [b] from h.own] at hy; exact List.mem_singleton.1 hy ▸ h.req)
    (hitem ▸ hmoving)
  have hshow := (s.withReports []).targetSensed_shows hm
  rw [hitem] at heq hshow
  generalize (s.withReports []).targetSensed = v at heq hshow ⊢
  have hed : v.ed = { s.ed with motion := none, elView := v.ed.elView } := hshow.ed
  have hgo : s.sp.phase ≠ .stopping := by
    rw [hphase]
    decide
  have hpins : v.pins = ((s.withReports []).driveElLines x.element true m.req.target).pins := hshow.pins
  have helv := And.intro hshow.state hshow.idle
  refine ⟨v.withReports [.retryBlocked], f, ?_, h.of_eq ?_ ?_ ?_ (congrArg Drive.elements hed :) (congrArg Drive.driveQ hed :),
    rfl, ?_, ?_, ?_, ?_, hed, hpins, helv.1, helv.2, fun hr => ?_⟩
  · refine drain_elementSet ?_ ?_ ?_ n (k := .element) (i := x.element) ?_ <;> rw [heq]
    · exact hplans
    · exact hidle
    · exact hgo
    · rfl
  · rw [heq]; rfl
  · rw [heq]; rfl
  · rw [heq]; rfl
  · rw [heq]; rfl
  · rw [heq]; rfl
  · rw [heq]; rfl
  · rw [heq]; rfl
  · rw [heq]
    exact hroom hr

/-- The way out ends: the way back is asked for. -/
theorem State.Exercises.comesBack {m : Motion} {c : Nat} (hm : s.ed.motion = some m) (hitem : m.req.item = x.element)
    (hmoving : (s.elv x.element).state = .moving) (hstage : x.stage = .outward) (horigin : x.origin < e.count)
    (htarget : m.req.target ≠ x.origin) (hchan : channelOf x.element s.ed.elChan = some c)
    (hlines : c < s.pins.elLines.length) (hcode : m.req.target < 8) :
    ∃ t, exec .targetSensed s = .next t ∧ t.ed.driveQ = [s.exerciseAsk x x.origin] ∧ t.ed.motion = none
      ∧ t.ed.exercise = some { x with stage := .returning } ∧ (t.elv x.element).idle = 0 := by
  obtain ⟨w, f, hdrain, hw, hreports, hsp, hts, hcp, hcfg, hed, hpins, hset, hzero, -⟩ :=
    h.targetSensed hplans hidle hphase hm hitem hmoving 99997
  have hoff : w.sensedPos x.element ≠ some x.origin := by
    have hat := (s.withReports []).driveElLines_at true hchan (Nat.le_of_lt_succ hcode)
    rw [hat] at hpins
    rw [State.sensedPos_of_plant (s := (s.withReports []).elLinesAt c true m.req.target)
      (congrArg Drive.elChan hed :) (congrArg Drive.elements hed :) hpins,
      State.sensedPos_elLinesAt (s.withReports []) hchan h.element hlines]
    unfold ElementRec.shows
    split
    · exact fun heq => htarget (Option.some.inj heq)
    · exact nofun
  have hback := hw.exerciseSet_outward ((congrArg Drive.exercise hed).trans hex) hstage horigin
    (fun hout => nomatch hset.symm.trans hout) (congrArg Drive.motion hed :) hoff
  have hask : w.exerciseAsk x x.origin = s.exerciseAsk x x.origin := by
    unfold State.exerciseAsk
    rw [hcfg]
  rw [hback, hask] at hdrain
  have hrest := drain_inert [.retryBlocked] 99997 (w.withEd { w.ed with
    exercise := some { x with stage := .returning }, driveQ := [s.exerciseAsk x x.origin] }) hreports (by decide)
    fun r hr rest => deliver_rests (hcp ▸ hplans : w.cp.plans = []) (hts ▸ hidle : w.ts.state = .idle) (by
      show w.sp.phase ≠ .stopping
      rw [hsp, hphase]
      decide) (by rw [List.mem_singleton.1 hr]; rfl)
  exact ⟨_, congrArg Host.Outcome.next (hdrain.trans hrest), rfl, (congrArg Drive.motion hed :), rfl, hzero⟩

/-- The way back ends: the booking is released. -/
theorem State.Exercises.ends {m : Motion} (hm : s.ed.motion = some m) (hitem : m.req.item = x.element)
    (hmoving : (s.elv x.element).state = .moving) (hstage : x.stage = .returning) (hstate : b.state = .moving)
    (hroom : s.hlc.queue.length + s.hlc.slots.length + 1 < 16) :
    ∃ t, exec .targetSensed s = .next t ∧ t.ed.exercise = none ∧ t.cm.own = []
      ∧ (∃ y ∈ t.hlc.queue, y.frame = .release x.booking) ∧ (t.elv x.element).idle = 0 := by
  obtain ⟨w, f, hdrain, hw, hreports, hsp, hts, hcp, -, hed, -, -, hzero, hqueued⟩ :=
    h.targetSensed hplans hidle hphase hm hitem hmoving 99997
  have hphase' : w.sp.phase = .running := by rw [hsp, hphase]
  have hroom' : w.hlc.queue.length + w.hlc.slots.length < 16 := by
    rw [hqueued (by omega)]
    show (enqueue s.hlc.queue f).length + s.hlc.slots.length < 16
    rw [length_enqueue]
    omega
  have hreleased := hw.exerciseSet_returning ((congrArg Drive.exercise hed).trans hex) hstage hstate hphase' hroom'
  rw [hreleased] at hdrain
  generalize hz : ((w.withEd { w.ed with exercise := none }).withCm { w.cm with own := [] }).queued
    [.release x.booking] = z at hdrain
  have hzreports : (z.report [.stopTest, .told .exercise x.booking .released, .permitTest, .restartTest]).reports
      = [.retryBlocked, .stopTest, .told .exercise x.booking .released, .permitTest, .restartTest] := by
    rw [← hz]
    exact congrArg (· ++ [.stopTest, .told .exercise x.booking .released, .permitTest, .restartTest]) hreports
  have hinert : ∀ rest, ∀ r ∈ [Report.retryBlocked, .stopTest, .told .exercise x.booking .released, .permitTest, .restartTest],
      deliver r (z.withReports rest) = z.withReports rest := fun rest r hr => by
    subst hz
    have hrests := fun (r : Report) (hr : r.rests = true) => deliver_rests
      (s := (((w.withEd { w.ed with exercise := none }).withCm { w.cm with own := [] }).queued
        [.release x.booking]).withReports rest) (r := r) (hcp ▸ hplans : w.cp.plans = [])
      (hts ▸ hidle : w.ts.state = .idle) (fun hstop => nomatch hstop.symm.trans hphase') hr
    simp only [List.mem_cons, List.not_mem_nil, or_false] at hr
    rcases hr with rfl | rfl | rfl | rfl | rfl
    · exact hrests _ rfl
    · exact hrests _ rfl
    · rfl
    · exact hrests _ rfl
    · exact hrests _ rfl
  have hrest := drain_inert _ 99997 _ hzreports (by simp) fun r hr rest => hinert rest r hr
  refine ⟨_, congrArg Host.Outcome.next (hdrain.trans hrest), ?_⟩
  subst hz
  exact ⟨rfl, rfl, ⟨_, (mem_insertBy _ _ _ _).2 (.inl rfl), rfl⟩, hzero⟩

end

end Sys2Proof.Machine
end

section
open Sys2Proof Sys2Proof.Machine

/-- Settles O6: hours and idle seconds by what each changes; the exercise step by step, each request by the tests it
passes. -/
theorem hoursAndIdleSecondsCount : Obligations.HoursAndIdleSecondsCount := by
  refine ⟨fun s hdue => ?_, fun s hdue hrise => ?_, fun s el pos htis hmark hopen hown hmap hhorizon hplans htakes hpos
    hlong hroom => ?_, ?_⟩
  · have heff : (s.withReports []).hourEvent = ((s.withReports []).withTb { s.tb with
        hourDue := s.tb.hourDue - 1 }).withPd s.pd.ageHour := if_pos hdue
    refine ⟨_, run_of_eq (f := State.hourEvent) heff rfl, rfl, List.length_map .., fun i hi w => ?_⟩
    have hset := ((s.withReports []).withTb { s.tb with hourDue := s.tb.hourDue - 1 }).presetSet_ageHour hi
    exact ⟨(congrArg (fun y : PresetSet => y.way w) hset).trans (PresetSet.ageHour_way _ w),
      (congrArg (fun y : PresetSet => y.pins w) hset :), (congrArg PresetSet.lru hset :)⟩
  · have heff : (s.withReports []).idleEvent = s.homeElements.foldl State.idleOne
        ((s.withReports []).withEd { s.ed with idleDue := s.ed.idleDue - 1 }) := if_pos hdue
    have hidles := State.idles_fold s.homeElements ((s.withReports []).withEd { s.ed with idleDue := s.ed.idleDue - 1 })
      (State.homeElements_nodup hrise)
    generalize s.homeElements.foldl State.idleOne _ = t at heff hidles
    refine ⟨t, run_of_eq (f := State.idleEvent) heff (by rw [hidles.frame]; rfl), hidles.frame, fun i => ?_, ?_⟩
    · rw [hidles.elv i]
      simp only [State.mem_homeElements hrise]
      rfl
    · rw [hidles.flag]
      simp only [State.mem_homeElements hrise]
      rfl
  · have halike := (s.withReports []).scansAlike_ticked htis hmark hown hmap
    have htick := (s.withReports []).tick_second (Nat.le_of_eq htis.symm)
    have hreports := (s.withReports []).ticked_reports
    generalize (s.withReports []).ticked = v at halike htick hreports
    have hbooks := halike.books hopen hown hmap hhorizon htakes hpos hlong hroom
    have hplans' : v.cp.plans = [] := halike.plans.trans hplans
    have hrep : (v.exerciseScan.report [.retryBlocked]).reports = [.retryBlocked] := by
      rw [hbooks]
      exact congrArg (· ++ [Report.retryBlocked]) hreports
    have hexec : exec .tick s = .next ((v.exerciseScan.report [.retryBlocked]).withReports []) := by
      show run State.tick s = _
      unfold run
      rw [htick]
      refine congrArg _ (drain_retryBlocked _ ?_ ?_ ?_) <;> rw [State.secondWork]
      · rw [hbooks]
        exact fun p hp => absurd (hplans' ▸ hp) List.not_mem_nil
      · exact fun r hr => List.mem_singleton.1 (hrep ▸ hr)
      · rw [hrep]
        decide
    rw [hbooks] at hexec
    refine ⟨_, v.claimed .exercise (v.exerciseDesc el pos), hexec, ?_, rfl, rfl, congrArg (fun c => c.stationId) halike.cfg, rfl,
      rfl, rfl, rfl, ?_, rfl, rfl, ?_⟩
    · exact congrArg (· ++ [v.claimed .exercise (v.exerciseDesc el pos)]) halike.own
    · exact congrArg (fun n => addT v.now (2 * n + 200)) (halike.estimate el)
    · exact congrArg (enqueue · (.claim (v.claimed .exercise (v.exerciseDesc el pos)).desc)) halike.queue
  · intro s x b e hphase hown hmap hnum hreq hsteps hnow hex hhome helement hcount hqueue hplans hidle ask
    have h : (s.withReports []).Exercises x b e := ⟨hown, hmap, hnum, hreq, hsteps, hnow, hhome, helement, hqueue⟩
    refine ⟨fun hstage hstate hlisten hrest hset hoff => ?_, fun m hm hitem hstate hmoving => ?_⟩
    · have hdrain := h.listenTimerEnd hex hplans hidle hphase hstage hstate hlisten hcount
        (fun hout => nomatch hset.symm.trans hout) hrest hoff 99996
      exact congrArg Host.Outcome.next hdrain
    · exact ⟨fun hstage horigin htarget hchan hlines hcode =>
          h.comesBack hex hplans hidle hphase hm hitem hmoving hstage horigin htarget hchan hlines hcode,
        fun hstage hroom => h.ends hex hplans hidle hphase hm hitem hmoving hstage hstate hroom⟩
end

section
/-! SUPPORT. The switching start (R144): the booking begins to move, and each request of the plan goes to the link or joins its
queue. The guard timer's end (R138). -/

namespace Sys2Proof.Machine

open Sys2Proof

/-! ## The requests of a plan, in turn (R144, R145) -/

/-- The link with frames queued, the drive and slew queues as given. -/
def State.moved (s : State) (l : List Frame) (driveQ slewQ : List Request) : State :=
  (s.queued l).withEd { s.ed with driveQ := driveQ, slewQ := slewQ }

/-- The request for a move of this station's plan. -/
def State.asked (s : State) (num : Nat) (m : ItemKind × Nat × Nat) : Request :=
  { item := m.2.1, target := m.2.2, station := s.cfg.stationId, booking := num }

/-- The item of a move is homed at this station. -/
def State.homeMove (s : State) (m : ItemKind × Nat × Nat) : Bool := s.isHome m.1 m.2.1

/-- A request for the move passes the tests of R44, its item at rest away from the target. -/
structure State.Movable (s : State) (num : Nat) (m : ItemKind × Nat × Nat) : Prop where
  range : s.targetInRange m.1 m.2.1 m.2.2 = true
  pass  : s.turnRefusal m.1 (s.asked num m) = none
  rest  : s.inMotion m.1 m.2.1 = none
  off   : s.sensed m.1 m.2.1 ≠ some m.2.2

theorem State.moveItem_peer {s : State} {num : Nat} {m : ItemKind × Nat × Nat} (hpeer : s.homeMove m = false)
    (hphase : s.sp.phase = .running) {l : List Frame} (q q' : List Request)
    (hroom : s.hlc.queue.length + s.hlc.slots.length + l.length < 16) :
    (s.moved l q q').moveItem num m = s.moved (l ++ [moveFrame num m.1 m.2.1 m.2.2]) q q' := by
  have hoffer := (s.moved l q q').offer_running (moveFrame num m.1 m.2.1 m.2.2) hphase (by
    show (l.foldl enqueue s.hlc.queue).length + s.hlc.slots.length < 16
    rw [length_foldl_enqueue]
    omega)
  unfold State.moveItem
  rw [if_neg (show ¬ (s.moved l q q').isHome m.1 m.2.1 = true from fun h => Bool.false_ne_true (hpeer.symm.trans h)), hoffer]
  show ((s.moved l q q').queued [moveFrame num m.1 m.2.1 m.2.2]) = _
  exact congrArg (fun u : State => u.withEd { s.ed with driveQ := q, slewQ := q' }) (s.queued_queued l _)

theorem State.moveItem_home {s : State} {num : Nat} {m : ItemKind × Nat × Nat} (hhome : s.homeMove m = true)
    (h : s.Movable num m) (l : List Frame) {q q' : List Request}
    (hfree : ∀ x ∈ (s.moved l q q').queueOf m.1, x.item ≠ m.2.1)
    (hcap : ((s.moved l q q').queueOf m.1).length < queueCap m.1) :
    (s.moved l q q').moveItem num m =
      (s.moved l q q').withQueue m.1 ((s.moved l q q').queueOf m.1 ++ [s.asked num m]) := by
  unfold State.moveItem
  rw [if_pos (show (s.moved l q q').isHome m.1 m.2.1 = true from hhome)]
  exact State.request_appends (s := s.moved l q q') (r := s.asked num m) hfree h.rest h.off hhome h.range h.pass hcap

/-- The frames of the moves asked of peers. -/
def State.peerFrames (s : State) (num : Nat) (moves : List (ItemKind × Nat × Nat)) : List Frame :=
  (moves.filter fun m => !s.homeMove m).map fun m => moveFrame num m.1 m.2.1 m.2.2

/-- The requests of the moves asked of the home drive of a kind. -/
def State.homeAsks (s : State) (num : Nat) (k : ItemKind) (moves : List (ItemKind × Nat × Nat)) : List Request :=
  (moves.filter fun m => m.1 == k && s.homeMove m).map (s.asked num)

/-- The moves of a plan are asked for in turn: a peer's on the link, a home item's in its queue (R144). -/
theorem State.moves_fold {s : State} {num : Nat} (hphase : s.sp.phase = .running)
    (moves : List (ItemKind × Nat × Nat)) : ∀ (l : List Frame) (q q' : List Request),
    (∀ m ∈ moves, s.homeMove m = true → s.Movable num m) →
    (moves.Pairwise fun m y => s.homeMove m = true → m.1 = y.1 → m.2.1 ≠ y.2.1) →
    (∀ m ∈ moves, s.homeMove m = true → ∀ x ∈ (s.moved l q q').queueOf m.1, x.item ≠ m.2.1) →
    (∀ m ∈ moves, s.homeMove m = true →
      q.length + moves.length ≤ 8 ∧ q'.length + (moves.countP fun m => m.1 == .antenna) ≤ 4) →
    s.hlc.queue.length + s.hlc.slots.length + l.length + (moves.countP fun m => !s.homeMove m) ≤ 16 →
    moves.foldl (fun u m => u.moveItem num m) (s.moved l q q') =
      s.moved (l ++ s.peerFrames num moves) (q ++ s.homeAsks num .element moves)
        (q' ++ s.homeAsks num .antenna moves) := by
  induction moves with
  | nil => intro l q q' _ _ _ _ _; simp [State.peerFrames, State.homeAsks]
  | cons m rest ih =>
    intro l q q' hmove hnodup hfree hcap hroom
    obtain ⟨hfresh, hnodup'⟩ := List.pairwise_cons.1 hnodup
    have hmove' := fun y hy => hmove y (List.mem_cons_of_mem m hy)
    have hfree' := fun y hy => hfree y (List.mem_cons_of_mem m hy)
    have hcap' := fun y hy => hcap y (List.mem_cons_of_mem m hy)
    rw [List.foldl_cons]
    cases hhome : s.homeMove m with
    | false =>
      have hcount : ((m :: rest).countP fun m => !s.homeMove m) = (rest.countP fun m => !s.homeMove m) + 1 := by
        simp [hhome]
      rw [s.moveItem_peer hhome hphase q q' (by omega), ih (l ++ [moveFrame num m.1 m.2.1 m.2.2]) q q' hmove' hnodup' hfree' (fun y hy hh => by
        have hall := hcap' y hy hh
        simp only [List.length_cons, List.countP_cons] at hall
        omega) (by simp only [List.length_append, List.length_singleton]; omega)]
      simp [State.peerFrames, State.homeAsks, hhome, List.append_assoc]
    | true =>
      have hcount : ((m :: rest).countP fun m => !s.homeMove m) = (rest.countP fun m => !s.homeMove m) := by
        simp [hhome]
      have hall := hcap m (List.mem_cons_self ..) hhome
      simp only [List.length_cons, List.countP_cons] at hall
      have hjoin := State.moveItem_home hhome (hmove m (List.mem_cons_self ..) hhome) l
        (hfree m (List.mem_cons_self ..) hhome)
      obtain ⟨k, i, target⟩ := m
      cases k with
      | element =>
        rw [hjoin (show q.length < 8 by omega)]
        refine (ih l (q ++ [s.asked num (.element, i, target)]) q' hmove' hnodup' ?_ ?_ (by omega)).trans ?_
        · rintro ⟨k', i', target'⟩ hy hh x hx
          cases k' with
          | element =>
            rcases List.mem_append.1 hx with hx | hx
            · exact hfree' _ hy hh x hx
            · exact (List.mem_singleton.1 hx) ▸ hfresh _ hy hhome rfl
          | antenna => exact hfree' _ hy hh x hx
        · intro y hy hh
          have hrest := hcap' y hy hh
          simp only [List.length_cons, List.countP_cons, List.length_append, List.length_nil] at hrest ⊢
          omega
        · simp [State.peerFrames, State.homeAsks, hhome, List.append_assoc]
      | antenna =>
        rw [hjoin (show q'.length < 4 by simp at hall; omega)]
        refine (ih l q (q' ++ [s.asked num (.antenna, i, target)]) hmove' hnodup' ?_ ?_ (by omega)).trans ?_
        · rintro ⟨k', i', target'⟩ hy hh x hx
          cases k' with
          | element => exact hfree' _ hy hh x hx
          | antenna =>
            rcases List.mem_append.1 hx with hx | hx
            · exact hfree' _ hy hh x hx
            · exact (List.mem_singleton.1 hx) ▸ hfresh _ hy hhome rfl
        · intro y hy hh
          have hrest := hcap' y hy hh
          simp only [List.length_cons, List.countP_cons, List.length_append, List.length_nil] at hrest ⊢
          simp at hrest
          omega
        · simp [State.peerFrames, State.homeAsks, hhome, List.append_assoc]

/-! ## The booking begins to move (R63) -/

theorem State.updOwn_updOwn (s : State) (n : Nat) {f g : OwnBooking → OwnBooking} (hf : ∀ y, (f y).desc = y.desc) :
    (s.updOwn n f).updOwn n g = s.updOwn n fun y => g (f y) := by
  have hown : ((s.cm.own.map fun y => if y.desc.num = n then f y else y).map fun y => if y.desc.num = n then g y else y)
      = s.cm.own.map fun y => if y.desc.num = n then g (f y) else y := by
    rw [List.map_map]
    refine List.map_congr_left fun y _ => ?_
    by_cases h : y.desc.num = n
    · simp [h, hf]
    · simp [h]
  exact congrArg (fun own => s.withCm { s.cm with own := own }) hown

/-- A change that makes a booking MOVING and keeps what it asks for. -/
structure Moves (f : OwnBooking → OwnBooking) : Prop where
  desc  : ∀ y, (f y).desc = y.desc
  req   : ∀ y, (f y).req = y.req
  state : ∀ y, (f y).state = .moving

/-- A booking that is BOOKED becomes MOVING; the judgement of it may start its confirm timer (R63, R64). -/
theorem State.beginMoving_booked {s : State} {n : Nat} {b : OwnBooking} (hb : s.ownBooking n = some b)
    (hstate : b.state = .booked) :
    ∃ f, Moves f ∧ s.beginMoving n = ((s.updOwn n f).report [.permitTest], true) := by
  have hnum : b.desc.num = n := State.ownBooking_num hb
  have hfound : ((s.updOwn n fun b => { b with state := .moving }).report [.permitTest]).ownBooking n
      = some { b with state := .moving } := by
    refine (s.ownBooking_updOwn n n (f := fun b => { b with state := .moving }) fun _ => rfl).trans ?_
    rw [hb]
    simp [hnum]
  unfold State.beginMoving
  rw [hb]
  simp only [hstate, if_true, hfound]
  unfold State.judgeOne
  split
  · exact ⟨fun b => { b with state := .moving }, ⟨fun _ => rfl, fun _ => rfl, fun _ => rfl⟩, rfl⟩
  · split
    · split
      · refine ⟨fun y => { y with state := .moving, confirm := some s.cfg.tSET },
          ⟨fun _ => rfl, fun _ => rfl, fun _ => rfl⟩, ?_⟩
        have hupd := s.updOwn_updOwn n (f := fun b => { b with state := .moving })
          (g := fun b => { b with confirm := some s.cfg.tSET }) fun _ => rfl
        rw [hnum]
        exact congrArg (fun u : State => (u.report [.permitTest], true)) hupd
      · exact ⟨fun b => { b with state := .moving }, ⟨fun _ => rfl, fun _ => rfl, fun _ => rfl⟩, rfl⟩
    · refine ⟨fun y => { y with state := .moving, confirm := none }, ⟨fun _ => rfl, fun _ => rfl, fun _ => rfl⟩, ?_⟩
      have hupd := s.updOwn_updOwn n (f := fun b => { b with state := .moving })
        (g := fun b => { b with confirm := none }) fun _ => rfl
      rw [hnum]
      exact congrArg (fun u : State => (u.report [.permitTest], true)) hupd

/-! ## The switching start (R144) -/

/-- What a plan shows as it enters SWITCHING (R144). -/
def State.switched (s : State) (p : Plan) : Plan :=
  ({ p with
      path := s.pathTime p.ant p.az (s.routeSteps p), switchedAt := some s.now, state := .switching } : Plan).showing
    (s.predict { p with switchedAt := some s.now } (p.w.getD s.now) (s.pathTime p.ant p.az (s.routeSteps p)))

/-- The head plan may enter SWITCHING (R144). -/
structure State.Switches (s : State) (p : Plan) (rest : List Plan) : Prop where
  plans  : s.cp.plans = p :: rest
  ready  : p.state = .ready
  cont   : p.cont = false
  others : ∀ q ∈ rest, q.state.current = false
  guard  : s.cp.guardT = none
  idle   : s.ts.state = .idle
  now    : due (p.swTick.getD s.now) s.now = true
  within : (s.predict { p with switchedAt := some s.now } (p.w.getD s.now)
    (s.pathTime p.ant p.az (s.routeSteps p))).beyond = false

section
variable {s : State} {p : Plan} {rest : List Plan} (h : s.Switches p rest)
include h

theorem State.Switches.switchReady : s.switchReady = some p := by
  have hcurrent : s.currentPlan = none := by
    unfold State.currentPlan
    rw [h.plans, List.find?_eq_none]
    intro q hq
    rcases List.mem_cons.1 hq with rfl | hq
    · simp [h.ready, PlanState.current]
    · simp [h.others q hq]
  unfold State.switchReady
  rw [h.plans]
  exact if_pos ⟨h.ready, h.cont, hcurrent, h.guard, h.idle, h.now⟩

/-- The switching start: the plan, its booking and its requests (R144). -/
theorem State.Switches.start {n : Nat} {b : OwnBooking} (hbooking : p.booking = some n)
    (hb : s.ownBooking n = some b) (hstate : b.state = .booked) :
    ∃ f, Moves f ∧ s.switchingStart =
      (s.planMoves p).foldl (fun u m => u.moveItem n m) (((s.putPlan (s.switched p)).updOwn n f).report [.permitTest]) := by
  obtain ⟨f, hf, hbegins⟩ := State.beginMoving_booked (s := s.putPlan (s.switched p)) hb hstate
  refine ⟨f, hf, ?_⟩
  unfold State.switchingStart
  rw [h.switchReady]
  unfold State.startSwitching
  refine (if_neg fun hbeyond => Bool.false_ne_true (h.within.symm.trans hbeyond)).trans ?_
  show (match p.booking with
    | some n => if ((s.putPlan (s.switched p)).beginMoving n).2 then
        (s.planMoves p).foldl (fun (u : State) m => u.moveItem n m) ((s.putPlan (s.switched p)).beginMoving n).1 else s
    | none => s) = _
  rw [hbooking]
  show (if ((s.putPlan (s.switched p)).beginMoving n).2 then
    (s.planMoves p).foldl (fun (u : State) m => u.moveItem n m) ((s.putPlan (s.switched p)).beginMoving n).1 else s) = _
  rw [hbegins]
  rfl

end

theorem mem_foldl_enqueue {f : Frame} (l : List Frame) : ∀ q : List QFrame,
    (f ∈ l ∨ ∃ y ∈ q, y.frame = f) → ∃ y ∈ l.foldl enqueue q, y.frame = f := by
  induction l with
  | nil => exact fun q h => h.resolve_left List.not_mem_nil
  | cons g l ih =>
    intro q h
    refine ih (enqueue q g) ?_
    rcases h with h | ⟨y, hy, hframe⟩
    · rcases List.mem_cons.1 h with rfl | h
      · exact .inr ⟨_, (mem_insertBy _ _ _ _).2 (.inl rfl), rfl⟩
      · exact .inl h
    · exact .inr ⟨y, (mem_insertBy _ _ _ _).2 (.inr hy), hframe⟩

/-- The station after the switching start: the plan SWITCHING, its booking changed by `f`, its requests made. -/
def State.switchingDone (s : State) (p : Plan) (n : Nat) (f : OwnBooking → OwnBooking) : State :=
  (((s.withReports []).putPlan ((s.withReports []).switched p)).updOwn n f).moved (s.peerFrames n (s.planMoves p))
    (s.ed.driveQ ++ s.homeAsks n .element (s.planMoves p)) (s.ed.slewQ ++ s.homeAsks n .antenna (s.planMoves p))

/-- In IDLE the permit is not tested (R164). -/
theorem State.permitTest_still {s : State} (h : s.ts.state = .idle) : s.permitTest = s := by
  unfold State.permitTest
  rw [h]

theorem State.Switches.exec_switchingStart {s : State} {p : Plan} {rest : List Plan} {n : Nat} {b : OwnBooking}
    (h : s.Switches p rest) (hphase : s.sp.phase = .running) (hbooking : p.booking = some n)
    (hb : s.ownBooking n = some b) (hstate : b.state = .booked)
    (hmove : ∀ f, Moves f → ∀ m ∈ s.planMoves p, s.homeMove m = true → (s.updOwn n f).Movable n m)
    (hapart : (s.planMoves p).Pairwise fun m y => s.homeMove m = true → m.1 = y.1 → m.2.1 ≠ y.2.1)
    (hfree : ∀ m ∈ s.planMoves p, s.homeMove m = true → ∀ x ∈ s.queueOf m.1, x.item ≠ m.2.1)
    (hcap : ∀ m ∈ s.planMoves p, s.homeMove m = true → s.ed.driveQ.length + (s.planMoves p).length ≤ 8
      ∧ s.ed.slewQ.length + ((s.planMoves p).countP fun m => m.1 == .antenna) ≤ 4)
    (hroom : s.hlc.queue.length + s.hlc.slots.length + ((s.planMoves p).countP fun m => !s.homeMove m) ≤ 16) :
    ∃ f, Moves f ∧ exec .switchingStart s = .next (s.switchingDone p n f) := by
  have h' : (s.withReports []).Switches p rest := { h with }
  obtain ⟨f, hf, hstart⟩ := h'.start hbooking hb hstate
  refine ⟨f, hf, ?_⟩
  let v := (((s.withReports []).putPlan ((s.withReports []).switched p)).updOwn n f).report [.permitTest]
  have hfold : (s.planMoves p).foldl (fun u m => u.moveItem n m) v =
      v.moved (s.peerFrames n (s.planMoves p)) (s.ed.driveQ ++ s.homeAsks n .element (s.planMoves p))
        (s.ed.slewQ ++ s.homeAsks n .antenna (s.planMoves p)) :=
    State.moves_fold (s := v) hphase (s.planMoves p) [] s.ed.driveQ s.ed.slewQ (fun m hm hhome => by
      obtain ⟨hrange, hpass, hrest, hoff⟩ := hmove f hf m hm hhome
      exact ⟨hrange, hpass, hrest, hoff⟩) hapart hfree hcap hroom
  show run State.switchingStart s = _
  unfold run
  rw [hstart.trans hfold]
  refine congrArg Host.Outcome.next (drain_inert [.permitTest] reportFuel _ rfl (by decide) fun r hr left => ?_)
  rw [List.mem_singleton.1 hr]
  exact State.permitTest_still (s := (v.moved _ _ _).withReports left) h.idle

/-- A plan asks for one slew at most. -/
theorem State.planMoves_antennas (s : State) (p : Plan) : ((s.planMoves p).countP fun m => m.1 == .antenna) ≤ 1 := by
  have hsteps : (((s.routeSteps p).map fun st => (ItemKind.element, st.1, st.2)).countP fun m => m.1 == .antenna) = 0 :=
    List.countP_eq_zero.2 fun m hm => by
      obtain ⟨st, -, rfl⟩ := List.mem_map.1 hm
      exact Bool.false_ne_true
  unfold State.planMoves
  rw [List.countP_append, hsteps, Nat.zero_add]
  split
  · exact List.countP_le_length
  · exact Nat.zero_le 1

/-- A move of a plan whose booking asks for its route. -/
theorem State.asksAt_of_planMoves {s : State} {p : Plan} {d : Desc} (hsteps : d.steps = s.routeSteps p)
    (hant : d.antenna = some p.ant) (haz : d.azimuth = p.az) {m : ItemKind × Nat × Nat} (hm : m ∈ s.planMoves p)
    (exercise : Prop) : asksAt d m.1 m.2.1 m.2.2 exercise := by
  unfold State.planMoves at hm
  rcases List.mem_append.1 hm with hm | hm
  · obtain ⟨st, hst, rfl⟩ := List.mem_map.1 hm
    exact ⟨st.2, hsteps ▸ hst, .inl rfl⟩
  · split at hm
    · next a ha =>
      rw [List.mem_singleton.1 hm]
      exact ⟨hant, haz.trans ha⟩
    · exact absurd hm List.not_mem_nil

/-- With its booking the one known and both drives at rest, a plan's home items that are off their targets can be moved. -/
theorem State.movable_alone {s : State} {p : Plan} {b : OwnBooking} (hown : s.cm.own = [b]) (hmap : s.cm.map = [])
    (hsteps : b.desc.steps = s.routeSteps p) (hant : b.desc.antenna = some p.ant) (haz : b.desc.azimuth = p.az)
    (hnow : containsTick b.desc.start b.desc.stop s.now = true) (hmotion : s.ed.motion = none) (hslew : s.ed.slew = none)
    {m : ItemKind × Nat × Nat} (hm : m ∈ s.planMoves p) (hrange : s.targetInRange m.1 m.2.1 m.2.2 = true)
    (hin : s.itemState m.1 m.2.1 ≠ .out) (hoff : s.sensed m.1 m.2.1 ≠ some m.2.2) : s.Movable b.desc.num m := by
  have hheld : s.Held m.1 (s.asked b.desc.num m) := by
    refine .inl ⟨rfl, b, State.ownBooking_of_singleton hown, hnow, State.asksAt_of_planMoves hsteps hant haz hm _,
      fun y hy hother => ?_, fun y hy => ?_⟩
    · rw [hown] at hy
      exact absurd ⟨rfl, by rw [List.mem_singleton.1 hy]; rfl⟩ hother
    · rw [hmap] at hy
      exact absurd hy List.not_mem_nil
  have hactive : ¬ s.ActiveElsewhere m.1 (s.asked b.desc.num m) := by
    rintro (⟨y, hy, -, -, hother⟩ | ⟨y, hy, -⟩)
    · rw [hown] at hy
      exact hother ⟨rfl, by rw [List.mem_singleton.1 hy]; rfl⟩
    · rw [hmap] at hy
      exact absurd hy List.not_mem_nil
  refine ⟨hrange, State.turnRefusal_none hin hheld hactive, ?_, hoff⟩
  cases m.1 with
  | element => exact s.inMotion_element_isNone (by simp [hmotion])
  | antenna => exact s.inMotion_antenna_isNone (by simp [hslew])

section
variable (s : State) (p : Plan) (n : Nat) (f : OwnBooking → OwnBooking)

theorem State.switchingDone_plan {rest : List Plan} (hplans : s.cp.plans = p :: rest) :
    ((s.switchingDone p n f).plan p.id).map Plan.state = some .switching := by
  show (List.find? _ (s.cp.plans.map fun q => if q.id = p.id then (s.withReports []).switched p else q)).map Plan.state = _
  rw [hplans]
  simp [State.switched, Plan.showing]

theorem State.switchingDone_booking {b : OwnBooking} (hf : Moves f) (hb : s.ownBooking n = some b) :
    ((s.switchingDone p n f).ownBooking n).map OwnBooking.state = some .moving := by
  have hfound := s.ownBooking_updOwn n n (f := f) fun y => by rw [hf.desc]
  rw [hb] at hfound
  refine (congrArg (Option.map OwnBooking.state) (a₁ := (s.switchingDone p n f).ownBooking n) hfound).trans ?_
  simp [State.ownBooking_num hb, hf.state]

theorem State.switchingDone_frames : ∀ m ∈ s.planMoves p, s.homeMove m = false →
    ∃ y ∈ (s.switchingDone p n f).hlc.queue, y.frame = moveFrame n m.1 m.2.1 m.2.2 := fun m hm hpeer =>
  mem_foldl_enqueue (s.peerFrames n (s.planMoves p)) s.hlc.queue
    (.inl (List.mem_map.2 ⟨m, List.mem_filter.2 ⟨hm, by simp [hpeer]⟩, rfl⟩))

theorem State.switchingDone_queue : (s.switchingDone p n f).hlc.queue.length
    = s.hlc.queue.length + (s.planMoves p).countP fun m => !s.homeMove m := by
  refine (length_foldl_enqueue s.hlc.queue (s.peerFrames n (s.planMoves p))).trans ?_
  rw [State.peerFrames, List.length_map, List.countP_eq_length_filter]

end

/-! ## The guard timer's end (R138) -/

/-- With no plan waiting nothing is computed again. -/
theorem State.recomputeAll_none {s : State} (h : ∀ p ∈ s.cp.plans, p.state.waiting = false) : s.recomputeAll = s := by
  have hone : ∀ id, s.recompute id = s := fun id => by
    unfold State.recompute
    cases hp : s.plan id with
    | none => rfl
    | some p => exact if_pos (.inl (h p (List.mem_of_find?_eq_some hp)))
  unfold State.recomputeAll
  induction s.cp.plans.map Plan.id with
  | nil => rfl
  | cons id ids ih => rw [List.foldl_cons, hone, ih]

end Sys2Proof.Machine
end

section
open Sys2Proof Sys2Proof.Machine

/-- Settles O35: at the switching start each request goes to the link or joins its queue, in turn; at the guard timer's end
there is no plan to compute again. -/
theorem switchingAndGuardTimer : Obligations.SwitchingAndGuardTimer := by
  refine ⟨?_, ?_, fun s hguard hplans => ?_⟩
  · intro s p rest n b hplans hready hcont hothers hguard hidle hnow hbooking hb hstate hphase hwithin hpeers hroom
    have h : s.Switches p rest := ⟨hplans, hready, hcont, hothers, hguard, hidle, hnow, hwithin⟩
    have hnone : ∀ m ∈ s.planMoves p, s.homeMove m = true → False := fun m hm hhome =>
      Bool.false_ne_true ((hpeers m hm).symm.trans hhome)
    have hall : ((s.planMoves p).countP fun m => !s.homeMove m) = (s.planMoves p).length :=
      List.countP_eq_length.2 fun m hm => by rw [show s.homeMove m = false from hpeers m hm]; rfl
    obtain ⟨f, hf, hexec⟩ := h.exec_switchingStart hphase hbooking hb hstate (fun f _ m hm hhome => (hnone m hm hhome).elim)
      (List.pairwise_of_forall_mem_list fun m hm _ _ hhome => (hnone m hm hhome).elim)
      (fun m hm hhome => (hnone m hm hhome).elim) (fun m hm hhome => (hnone m hm hhome).elim) (by rw [hall]; exact hroom)
    have hasks : ∀ k, s.homeAsks n k (s.planMoves p) = [] := fun k => by
      unfold State.homeAsks
      rw [List.filter_eq_nil_iff.2 fun m hm => by simp [show s.homeMove m = false from hpeers m hm]]
      rfl
    refine ⟨_, hexec, s.switchingDone_plan p n f hplans, s.switchingDone_booking p n f hf hb,
      fun m hm => s.switchingDone_frames p n f m hm (hpeers m hm), (s.switchingDone_queue p n f).trans (by rw [hall]),
      rfl, rfl, ?_, rfl, rfl⟩
    unfold State.switchingDone
    rw [hasks, hasks, List.append_nil, List.append_nil]
    rfl
  · intro s p rest b hplans hready hcont hothers hguard hidle hnow hbooking hown hmap hstate hphase hreq hsteps hant haz
      hcontains hwithin moves home asked hnodup hdriveQ hslewQ hmotion hslew hfew hhome hroom
    have h : s.Switches p rest := ⟨hplans, hready, hcont, hothers, hguard, hidle, hnow, hwithin⟩
    have hb := State.ownBooking_of_singleton hown
    have hqueue : ∀ k, s.queueOf k = [] := fun k => by cases k <;> assumption
    obtain ⟨f, hf, hexec⟩ := h.exec_switchingStart hphase hbooking hb hstate
      (fun f hf m hm hh => by
        obtain ⟨hrange, hin, hoff⟩ := hhome m hm hh
        have hown' : (s.updOwn b.desc.num f).cm.own = [f b] := by simp [State.updOwn, hown]
        have hmoves := State.movable_alone (s := s.updOwn b.desc.num f) (p := p) hown' hmap (by rw [hf.desc]; exact hsteps)
          (by rw [hf.desc]; exact hant) (by rw [hf.desc]; exact haz) (by rw [hf.desc]; exact hcontains) hmotion hslew hm
          hrange hin hoff
        rw [hf.desc] at hmoves
        exact hmoves)
      ((List.pairwise_map.1 hnodup).imp fun hne _ hk hi => hne (Prod.ext hk hi))
      (fun m _ _ x hx => absurd (hqueue m.1 ▸ hx) List.not_mem_nil)
      (fun _ _ _ => by
        have hone := s.planMoves_antennas p
        rw [hdriveQ, hslewQ, List.length_nil, Nat.zero_add, Nat.zero_add]
        exact ⟨Nat.le_succ_of_le hfew, by omega⟩)
      hroom
    refine ⟨_, hexec, s.switchingDone_plan p _ f hplans, s.switchingDone_booking p _ f hf hb,
      s.switchingDone_frames p _ f, s.switchingDone_queue p _ f, ?_, rfl, rfl, rfl, rfl⟩
    unfold State.switchingDone
    rw [hdriveQ, hslewQ]
    rfl
  · refine run_of_eq (f := State.guardEnds) ((if_pos hguard).trans ?_) rfl
    exact State.recomputeAll_none (s := (s.withReports []).withCp { s.cp with guardT := none }) hplans
end

section
/-! SUPPORT. Estimates and path times (R41, R136), and a plan made of one open occurrence (R132 to R141). -/

namespace Sys2Proof.Machine

open Sys2Proof

/-! ## Estimates and path times (R41, R136) -/

theorem foldl_max_spec (l : List Nat) : ∀ n : Nat,
    (l.foldl max n = n ∨ l.foldl max n ∈ l) ∧ n ≤ l.foldl max n ∧ ∀ m ∈ l, m ≤ l.foldl max n := by
  induction l with
  | nil => simp
  | cons a l ih =>
    intro n
    obtain ⟨hmem, hn, hall⟩ := ih (max n a)
    rw [List.foldl_cons]
    refine ⟨?_, by omega, ?_⟩
    · rcases hmem with h | h
      · rcases max_choice n a with h' | h'
        · exact .inl (h.trans h')
        · exact .inr (by rw [h, h']; exact List.mem_cons_self)
      · exact .inr (List.mem_cons_of_mem _ h)
    · intro m hm
      rcases List.mem_cons.1 hm with rfl | hm
      · omega
      · exact hall m hm

/-- The estimate's base is the larger of the nominal motion and the longest in the history (R41). -/
theorem State.estimate_base {s : State} {el : Nat} {r : ElementRec} (h : s.element el = some r) :
    ∃ base, (base = r.nominal ∨ base ∈ (s.elv el).history) ∧ r.nominal ≤ base
      ∧ (∀ m ∈ (s.elv el).history, m ≤ base) ∧ s.estimate el = base + (base + 7) / 8 := by
  obtain ⟨hmem, hnominal, hall⟩ := foldl_max_spec (s.elv el).history r.nominal
  refine ⟨_, hmem, hnominal, hall, ?_⟩
  unfold State.estimate
  rw [h]
  rfl

theorem State.elementStands_iff (s : State) (el pos : Nat) :
    s.elementStands el pos = ((s.elv el).state == .set && (s.elv el).pos == some pos) := by
  unfold State.elementStands State.elv
  cases lookupKey el s.ed.elView with
  | none => rfl
  | some v => rfl

theorem State.alreadyStanding_iff (s : State) (ant : Nat) (az : Option Nat) (steps : List (Nat × Nat)) :
    s.alreadyStanding ant az steps = true ↔ ∃ b ∈ s.cm.own, (b.state = .confirmed ∨ b.state = .active)
      ∧ (∀ st ∈ steps, st ∈ b.desc.steps) ∧ b.desc.antenna = some ant ∧ b.desc.azimuth = az
      ∧ (∀ st ∈ steps, (s.elv st.1).state = .set ∧ (s.elv st.1).pos = some st.2)
      ∧ s.antennaStands ant az = true := by
  simp only [State.alreadyStanding, List.any_eq_true, Bool.and_eq_true, Bool.or_eq_true, beq_iff_eq, List.all_eq_true,
    List.contains_iff_mem, State.elementStands_iff, and_assoc]

/-- The path time of a route that does not stand yet (R136). -/
theorem State.pathTime_moves {s : State} {ant : Nat} {az : Option Nat} {steps : List (Nat × Nat)}
    (h : ¬ s.alreadyStanding ant az steps = true) :
    s.pathTime ant az steps = max
      ((steps.filter fun st => !((s.elv st.1).state == .set && (s.elv st.1).pos == some st.2)).map
        fun st => s.estimate st.1).sum (s.slewNeed ant az) := by
  have hmoves : s.needsMove = fun st => !((s.elv st.1).state == .set && (s.elv st.1).pos == some st.2) := by
    funext st
    simp only [State.needsMove, State.elementStands_iff]
  unfold State.pathTime
  rw [if_neg h, hmoves, List.sum_eq_foldl, List.foldl_map]

theorem State.slewNeed_none {s : State} {ant : Nat} {az : Option Nat}
    (h : (s.antenna ant).bind AntennaRec.slew = none ∨ az = none) : s.slewNeed ant az = 0 := by
  unfold State.slewNeed
  rcases h with h | h
  · rw [h]
  · rw [h]
    cases (s.antenna ant).bind AntennaRec.slew with
    | none => rfl
    | some w => rfl

theorem State.slewNeed_some {s : State} {ant b : Nat} {w : SlewRec} (h : (s.antenna ant).bind AntennaRec.slew = some w) :
    s.slewNeed ant (some b) = w.time (s.anv ant).az b := by
  unfold State.slewNeed
  rw [h]

/-! ## A plan made of an open occurrence (R105, R106, R132) -/

/-- The only open occurrence is offered (R105). -/
theorem State.openTest_one {s : State} {i d : Nat} {e : Entry} (hphase : s.sp.phase = .running) (hadhoc : s.ss.adhoc = [])
    (hopen : s.openOccs = [.table i d]) (hentry : lookupKey i s.ss.active.entries = some e)
    (htable : s.tableOpen e d = true) {t : State}
    (htaken : s.takeOffer (s.tableOffer i e d) = (t, true)) :
    s.openTest = t.markEntry i (s.absStart (e.airStart d)) := by
  have hclear : s.overridden (s.tableOffer i e d).absA (e.dur * 6000) = false := by
    simp [State.overridden, hadhoc]
  unfold State.openTest
  rw [if_pos (show s.phase = .running from hphase), hopen]
  show s.offerOcc (.table i d) = _
  simp only [State.offerOcc, hentry, htable, hclear, htaken, if_true, if_false, Bool.false_eq_true]
  rfl

theorem State.takeOffer_lockout {s : State} (o : Offer) (h : s.ts.state = .lockout) :
    s.takeOffer o = (s.logRecord (bareRecord o.src o.a .missed (some .lockout)), true) := if_pos h

theorem State.lookup_miss {s : State} {f a : Nat} (hwindow : s.inWindow f = false) (hflush : s.pd.flush = false)
    (hdual : s.isDual f a = false) (hfind : (s.presetSet (presetIndex f a)).find f a = none) :
    s.lookup f a = (s, { outcome := .miss, pin := none }) := by
  simp [State.lookup, hwindow, hflush, hdual, hfind]

/-- The station with one plan in its queue. -/
def State.withPlan (s : State) (p : Plan) : State := s.withCp { s.cp with plans := [p] }

/-- With an empty queue and no preset of its key, an offer becomes a plan that chooses its route (R132, R135). -/
theorem State.takeOffer_fresh {s : State} {o : Offer} (hgo : s.ts.state ≠ .lockout) (hplans : s.cp.plans = [])
    (hpower : s.cfg.pFlr ≤ min (min o.power s.cfg.pMax) (((s.antenna o.ant).map AntennaRec.rating).getD 0))
    (hwindow : s.inWindow o.freq = false) (hflush : s.pd.flush = false) (hdual : s.isDual o.freq o.ant = false)
    (hfind : (s.presetSet (presetIndex o.freq o.ant)).find o.freq o.ant = none) :
    s.takeOffer o = ((s.withPlan (s.newPlan 0 o)).chooseRoute (s.newPlan 0 o), true) := by
  have hfreeId : s.freePlanId = 0 := by
    simp [State.freePlanId, State.plan, hplans, Config.planQueueSize, List.range, List.range.loop]
  have hqueue : insertBy planBefore (s.newPlan 0 o) s.cp.plans = [s.newPlan 0 o] := by rw [hplans]; rfl
  have halone : (s.withPlan (s.newPlan 0 o)).continues (s.newPlan 0 o) = none := by
    have hnone : (s.withPlan (s.newPlan 0 o)).previousPlan (s.newPlan 0 o).id = none := by
      simp [State.previousPlan, State.plansAhead, State.withPlan, State.withCp]
    unfold State.continues
    rw [hnone]
    rfl
  have hlookup : (s.withPlan (s.newPlan 0 o)).lookup o.freq o.ant =
      (s.withPlan (s.newPlan 0 o), { outcome := .miss, pin := none }) :=
    State.lookup_miss (s := s.withPlan (s.newPlan 0 o)) hwindow hflush hdual hfind
  have hfresh : (s.withPlan (s.newPlan 0 o)).planFresh (s.newPlan 0 o)
      = (s.withPlan (s.newPlan 0 o)).chooseRoute (s.newPlan 0 o) := by
    have hfor : (s.withPlan (s.newPlan 0 o)).lookupFor (s.newPlan 0 o) = (s.withPlan (s.newPlan 0 o), s.newPlan 0 o) := by
      unfold State.lookupFor
      rw [show (s.withPlan (s.newPlan 0 o)).lookup (s.newPlan 0 o).freq (s.newPlan 0 o).ant = _ from hlookup]
      rfl
    unfold State.planFresh
    rw [hfor]
    show ((s.withPlan (s.newPlan 0 o)).putPlan (s.newPlan 0 o)).chooseRoute (s.newPlan 0 o) = _
    rw [State.putPlan_alone (s.withPlan (s.newPlan 0 o)) (p := s.newPlan 0 o) rfl rfl]
    rfl
  unfold State.takeOffer
  rw [if_neg hgo, if_neg (by simp [hplans, Config.planQueueSize]), hfreeId]
  have hfull : ¬ leastOf (s.newPlan 0 o).entryPower
      [s.cfg.pMax, ((s.antenna (s.newPlan 0 o).ant).map AntennaRec.rating).getD 0] < s.cfg.pFlr := not_lt.2 hpower
  refine (if_neg hfull).trans ?_
  rw [hqueue]
  show (match (s.withPlan (s.newPlan 0 o)).continues (s.newPlan 0 o) with
    | some q => ((s.withPlan (s.newPlan 0 o)).planContinuation (s.newPlan 0 o) q, true)
    | none => ((s.withPlan (s.newPlan 0 o)).planFresh (s.newPlan 0 o), true)) = _
  rw [halone, hfresh]

/-! ## Route choice of the only plan (R140, R141) -/

/-- With every route left out, or none there, the plan is BLOCKED and leaves none out any more (R140, R146). -/
theorem State.chooseRoute_none {s : State} {p : Plan}
    (h : (s.routesTo p.ant).filter (fun r => !p.excluded.contains r.1) = []) :
    s.chooseRoute p = s.blockPlan { p with excluded := [] } := by
  unfold State.chooseRoute
  exact if_pos (congrArg List.isEmpty h)

/-- The only route, which passes the tests, is claimed (R140). -/
theorem State.chooseRoute_one {s : State} {p : Plan} {k : Nat} {r : RouteRec} (hroutes : s.routesTo p.ant = [(k, r)])
    (hexcluded : p.excluded = [])
    (hfree : s.routeFree (s.planOn p k r.steps).1 r.steps ((s.planOn p k r.steps).1.w.getD 0) = true)
    (hlimit : (s.planOn p k r.steps).2.beyond = false) :
    s.chooseRoute p = ((s.putPlan (s.planOn p k r.steps).1).report [.contCheck]).claimFor (s.planOn p k r.steps).1
      (s.planDesc (s.planOn p k r.steps).1 r.steps ((s.planOn p k r.steps).1.w.getD 0)) := by
  have hrest : (s.routesTo p.ant).filter (fun r => !p.excluded.contains r.1) = [(k, r)] := by
    rw [hroutes, hexcluded]
    rfl
  unfold State.chooseRoute
  simp only [hrest, List.map_cons, List.map_nil, List.isEmpty_cons, Bool.false_eq_true, if_false]
  generalize s.planOn p k r.steps = x at hfree hlimit ⊢
  have hfound : ([(r.steps, x)].filter fun y => s.routeFree y.2.1 y.1 (y.2.1.w.getD 0)).find? (fun y => !y.2.2.beyond)
      = some (r.steps, x) := by
    simp [hfree, hlimit]
  rw [hfound]

theorem State.claimFor_made {s : State} {p : Plan} {d : Desc} (hfree : s.claimRefusal (.plan p.id) d = none)
    (hphase : s.sp.phase = .running) (hroom : s.hlc.queue.length + s.hlc.slots.length < 16) :
    s.claimFor p d = (s.withClaim (.plan p.id) d).updPlan p.id fun q =>
      { q with booking := some (s.claimed (.plan p.id) d).desc.num, state := .routing } := by
  unfold State.claimFor
  rw [State.requestBooking_made hfree hphase hroom]

/-- With no other plan the earliest switching tick is the guard timer's end (R138). -/
theorem State.earliest_alone {s : State} {id : Nat} (h : ∀ p ∈ s.cp.plans, p.id = id) :
    s.earliest id = addT s.now (s.cp.guardT.getD 0) := by
  have hahead : s.plansAhead id = [] := by
    unfold State.plansAhead
    cases hplans : s.cp.plans with
    | nil => rfl
    | cons p l => exact List.takeWhile_cons_of_neg (by simp [h p (hplans ▸ List.mem_cons_self)])
  have hothers : (s.cp.plans.filter fun p => p.state.current && p.id != id) = [] :=
    List.filter_eq_nil_iff.2 fun p hp => by simp [h p hp]
  unfold State.earliest State.previousPlan
  rw [hahead, hothers]
  rfl

/-- A plan does not follow itself: its prediction is that of a station with an empty queue. -/
theorem State.planOn_withPlan {s : State} (hplans : s.cp.plans = []) (p : Plan) (k : Nat) (steps : List (Nat × Nat)) :
    (s.withPlan p).planOn p k steps = s.planOn p k steps := by
  have hearliest : (s.withPlan p).earliest p.id = s.earliest p.id :=
    (State.earliest_alone fun q hq => by rw [List.mem_singleton.1 hq]).trans
      (State.earliest_alone (s := s) fun q hq => by simp [hplans] at hq).symm
  unfold State.planOn State.predict
  dsimp only
  rw [hearliest]
  rfl

/-- The only plan claims the only route, which passes the tests (R140, R141). -/
theorem State.chooseRoute_claims {s : State} {p : Plan} {k : Nat} {r : RouteRec} (hplans : s.cp.plans = [])
    (hroutes : s.routesTo p.ant = [(k, r)]) (hexcluded : p.excluded = []) (hphase : s.sp.phase = .running)
    (hfree : s.routeFree (s.planOn p k r.steps).1 r.steps ((s.planOn p k r.steps).1.w.getD 0) = true)
    (hlimit : (s.planOn p k r.steps).2.beyond = false)
    (hclaim : s.claimRefusal (.plan p.id) (s.planDesc (s.planOn p k r.steps).1 r.steps
      ((s.planOn p k r.steps).1.w.getD 0)) = none)
    (hroom : s.hlc.queue.length + s.hlc.slots.length < 16) :
    let x := (s.planOn p k r.steps).1
    let d := s.planDesc x r.steps (x.w.getD 0)
    (s.withPlan p).chooseRoute p = ((s.withClaim (.plan p.id) d).withPlan
      { x with booking := some (s.claimed (.plan p.id) d).desc.num }).report [.contCheck] := by
  intro x d
  have hon := State.planOn_withPlan hplans p k r.steps
  have hid : x.id = p.id := rfl
  have hstate : x.state = .routing := rfl
  rw [State.chooseRoute_one (s := s.withPlan p) hroutes hexcluded (hon ▸ hfree) (hon ▸ hlimit), hon,
    State.putPlan_alone (s.withPlan p) (p := p) rfl hid]
  show ((((s.withPlan p).withPlan x).report [.contCheck]).claimFor x d) = _
  have hclaim' : s.claimRefusal (.plan x.id) d = none := hclaim
  clear_value d x
  rw [State.claimFor_made (s := ((s.withPlan p).withPlan x).report [.contCheck]) hclaim' hphase hroom]
  generalize hnum : (s.claimed (.plan p.id) d).desc.num = num
  have honly : [x].map (fun q => if q.id = x.id then { q with booking := some num, state := .routing } else q)
      = [{ x with booking := some num }] := by
    rw [List.map_singleton, if_pos rfl, ← hstate]
  rw [← hid] at hnum ⊢
  subst hnum
  exact congrArg (fun l => ((s.withClaim (.plan x.id) d).withCp { s.cp with plans := l }).report [.contCheck]) honly

theorem State.contCheck_none {s : State} (h : ∀ p ∈ s.cp.plans, p.cont = false) : s.contCheck = s := by
  unfold State.contCheck
  rw [List.filter_eq_nil_iff.2 fun p hp => by simp [h p hp]]
  rfl

/-- The prediction of a plan that has reached no phase (R139). -/
theorem State.predict_unswitched {s : State} {p : Plan} {n : Nat} (hswitched : p.switchedAt = none) (htuned : p.tunedAt = none)
    (hearliest : s.earliest p.id = n) (w path : Nat) :
    s.predict p w path =
      let tuneEnd := addT (addT (later w n) (path + s.cfg.tSET)) p.t
      let full := addT (later (subT p.a s.cfg.tRMP) tuneEnd) s.cfg.tRMP
      { switching := later w n, tuneEnd := tuneEnd, full := full, lateness := afterBy p.a full
        beyond := after (addT p.a s.cfg.tLATE) full || atOrAfter p.z full } := by
  unfold State.predict
  rw [hswitched, htuned, hearliest, Option.getD_none]
  dsimp only
  rw [Option.getD_none]

/-- The prediction of a plan not yet switched, the only one of the queue (R137 to R139). -/
theorem State.planOn_predicts {s : State} (hplans : s.cp.plans = []) (p : Plan) (k : Nat) (steps : List (Nat × Nat)) (w : Nat)
    (hw : (s.planOn p k steps).1.w = some w) (hlimit : (s.planOn p k steps).2.beyond = false) :
    let switching := later w (addT s.now (s.cp.guardT.getD 0))
    let tuneEnd := addT (addT switching (s.pathTime p.ant p.az steps + s.cfg.tSET)) p.t
    let full := addT (later (subT p.a s.cfg.tRMP) tuneEnd) s.cfg.tRMP
    let x := (s.planOn p k steps).1
    x.swTick = some switching ∧ x.predTune = some tuneEnd ∧ x.predFull = some full
      ∧ x.lateness = (if atOrAfter x.a full then fd x.a full else 0)
      ∧ after (addT x.a s.cfg.tLATE) full = false ∧ atOrAfter x.z full = false := by
  intro switching tuneEnd full x
  have hearliest : s.earliest p.id = addT s.now (s.cp.guardT.getD 0) := State.earliest_alone fun q hq => by simp [hplans] at hq
  have hstart : w = (s.backwardPlan p.a p.t (s.pathTime p.ant p.az steps) (s.alreadyStanding p.ant p.az steps)).1 :=
    (Option.some.inj hw).symm
  obtain ⟨q, hq⟩ : ∃ q, (s.planOn p k steps).2 = q := ⟨_, rfl⟩
  have hpredict : q = s.predict { p with switchedAt := none, tunedAt := none } w (s.pathTime p.ant p.az steps) := by
    rw [← hq, hstart]
    rfl
  have hshowing : x.swTick = some q.switching ∧ x.predTune = some q.tuneEnd ∧ x.predFull = some q.full
      ∧ x.lateness = q.lateness ∧ x.a = p.a ∧ x.z = p.z := hq ▸ ⟨rfl, rfl, rfl, rfl, rfl, rfl⟩
  obtain ⟨hswTick, hpredTune, hpredFull, hlateness, ha, hz⟩ := hshowing
  rw [State.predict_unswitched (p := { p with switchedAt := none, tunedAt := none }) rfl rfl hearliest] at hpredict
  clear_value x
  subst hpredict
  rw [hq, Bool.or_eq_false_iff] at hlimit
  rw [ha, hz]
  exact ⟨hswTick, hpredTune, hpredFull, hlateness, hlimit⟩

section
variable {s : State} {i d : Nat} {e : Entry} (hphase : s.sp.phase = .running) (hadhoc : s.ss.adhoc = [])
  (hopen : s.openOccs = [.table i d]) (hentry : lookupKey i s.ss.active.entries = some e) (htable : s.tableOpen e d = true)
  (hgo : s.ts.state ≠ .lockout) (hplans : s.cp.plans = [])
  (hpower : s.cfg.pFlr ≤ min (min e.power s.cfg.pMax) (((s.antenna e.ant).map AntennaRec.rating).getD 0))
  (hwindow : s.inWindow e.freq = false) (hflush : s.pd.flush = false) (hdual : s.isDual e.freq e.ant = false)
  (hfind : (s.presetSet (presetIndex e.freq e.ant)).find e.freq e.ant = none)
include hphase hadhoc hopen hentry htable

theorem planningInstant_lockout (hlockout : s.ts.state = .lockout) (hlog : s.sp.airLog.length < 32) :
    exec .planningInstant s = .next (((s.withReports []).withSp { s.sp with
      airLog := s.sp.airLog ++ [bareRecord (.table true i) (e.airStart d) .missed (some .lockout)] }).markEntry i
        (s.absStart (e.airStart d))) := by
  have hlogged := State.takeOffer_lockout (s := s.withReports []) ((s.withReports []).tableOffer i e d) hlockout
  refine run_of_eq ((State.openTest_one (s := s.withReports []) hphase hadhoc hopen hentry htable hlogged).trans ?_) rfl
  unfold State.logRecord
  rw [if_pos (show (s.withReports []).sp.airLog.length < Config.airLogSize from hlog)]
  rfl

include hgo hplans hpower hwindow hflush hdual hfind

theorem planningInstant_blocks (hroutes : s.routesTo e.ant = []) :
    exec .planningInstant s = .next (((s.withReports []).withPlan
      { (s.newPlan 0 (s.tableOffer i e d)) with state := .blocked }).markEntry i (s.absStart (e.airStart d))) := by
  have hfresh := State.takeOffer_fresh (s := s.withReports []) (o := (s.withReports []).tableOffer i e d) hgo hplans
    hpower hwindow hflush hdual hfind
  rw [State.chooseRoute_none (s := (s.withReports []).withPlan _)
    (p := (s.withReports []).newPlan 0 ((s.withReports []).tableOffer i e d)) (congrArg (List.filter _) hroutes)] at hfresh
  exact run_of_eq (State.openTest_one (s := s.withReports []) hphase hadhoc hopen hentry htable hfresh) rfl

theorem planningInstant_claims {k : Nat} {r : RouteRec} (hroutes : s.routesTo e.ant = [(k, r)]) {x : Plan × Prediction}
    (hx : s.planOn (s.newPlan 0 (s.tableOffer i e d)) k r.steps = x) {asked : Desc}
    (hasked : s.planDesc x.1 r.steps (x.1.w.getD 0) = asked)
    (hfree : s.routeFree x.1 r.steps (x.1.w.getD 0) = true) (hlimit : x.2.beyond = false)
    (hclaim : s.claimRefusal (.plan 0) asked = none) (hroom : s.hlc.queue.length + s.hlc.slots.length < 16) :
    exec .planningInstant s = .next ((((s.withReports []).withClaim (.plan 0) asked).withPlan
      { x.1 with booking := some (s.claimed (.plan 0) asked).desc.num }).markEntry i (s.absStart (e.airStart d))) := by
  have hfresh := State.takeOffer_fresh (s := s.withReports []) (o := (s.withReports []).tableOffer i e d) hgo hplans
    hpower hwindow hflush hdual hfind
  subst hx hasked
  rw [State.chooseRoute_claims (s := s.withReports [])
    (p := (s.withReports []).newPlan 0 ((s.withReports []).tableOffer i e d))
    hplans hroutes rfl hphase hfree hlimit hclaim hroom] at hfresh
  have hone := State.openTest_one (s := s.withReports []) hphase hadhoc hopen hentry htable hfresh
  refine congrArg Host.Outcome.next ((congrArg (drain reportFuel) hone).trans ?_)
  refine drain_inert [.contCheck] reportFuel _ rfl (by decide) fun r hr left => ?_
  rw [List.mem_singleton.1 hr]
  exact State.contCheck_none fun p hp => by rw [List.mem_singleton.1 hp]; rfl

end

end Sys2Proof.Machine
end

section
open Sys2Proof Sys2Proof.Machine

/-- Settles O32: the one open occurrence is offered; with an empty queue its plan looks up, and is BLOCKED without a route or
claims the only one. -/
theorem planningInstantTakesOccurrence : Obligations.PlanningInstantTakesOccurrence := by
  refine ⟨?_, fun s el rec => State.estimate_base, ?_⟩
  · intro s i d e hphase hadhoc hopen hentry htable abs marked
    refine ⟨planningInstant_lockout hphase hadhoc hopen hentry htable, ?_, ?_⟩
    · intro hgo hplans hroutes hpower hwindow hflush hdual hfind
      exact ⟨_, _, planningInstant_blocks hphase hadhoc hopen hentry htable hgo hplans hpower hwindow hflush hdual hfind
          hroutes,
        rfl, rfl, rfl, rfl, rfl, rfl, rfl, rfl, rfl, rfl, rfl, rfl, rfl, rfl, rfl, rfl, rfl, rfl⟩
    · intro k r hgo hplans hroutes hpower hwindow hflush hdual hfind x asked hfree hlimit hclaim hroom num desc path
      exact ⟨rfl, rfl, rfl, rfl, rfl, rfl, fun w hw => State.planOn_predicts hplans _ k r.steps w hw hlimit,
        planningInstant_claims hphase hadhoc hopen hentry htable hgo hplans hpower hwindow hflush hdual hfind hroutes rfl rfl
          hfree hlimit hclaim hroom⟩
  · intro s ant az steps standing moves sum
    refine ⟨fun h => if_pos ((s.alreadyStanding_iff ant az steps).2 h), fun h => ?_⟩
    have hpath : s.pathTime ant az steps = max sum (s.slewNeed ant az) :=
      State.pathTime_moves fun h' => h ((s.alreadyStanding_iff ant az steps).1 h')
    refine ⟨fun hnone => ?_, fun w b hslew haz => ?_⟩
    · rw [hpath, State.slewNeed_none hnone, Nat.max_zero]
    · subst haz
      rw [State.slewNeed_some hslew] at hpath
      exact ⟨fun a ha => by rw [hpath, ha]; rfl, fun hnone => by rw [hpath, hnone]; rfl⟩

end

section
/-! SUPPORT. A MOVE from a peer (R44, R45): the frame as it reaches the drive, the six reasons, and the rows of R45. -/

namespace Sys2Proof.Machine

open Sys2Proof

/-! ## A frame that is acted on (R25, R26, R200) -/

/-- The station that has heard a frame: reports empty, the frame numbered (R26). -/
def State.hearing (s : State) : State :=
  (s.withReports []).withHlc { s.hlc with seq := (s.hlc.seq + 1) % 4294967296 }

/-- A good frame with a readable head acts in the phases that dispatch; one that carries no stamp is only numbered first. -/
theorem State.receive_acts {s : State} {hd : Head} {f : Frame} {act : Nat → State → State}
    (hcounts : frameCountsOk f = true) (hsender : hd.sender ≠ s.cfg.stationId) (hdispatch : dispatchesIn s.sp.phase = true)
    (htick : hd.tick < 60480000) (hstamp : followFrame s.hlc.number f = s.hlc.number) :
    (s.withReports []).receive hd f act = act s.hlc.number.seq s.hearing := by
  have hgood : (s.withReports []).goodFrame hd f = true := by simp [State.goodFrame, hcounts, State.withReports, hsender]
  have hread : (dispatchesIn s.sp.phase && headReadable hd) = true := by
    rw [hdispatch, headReadable, Bool.true_and, decide_eq_true_eq]
    exact htick
  unfold State.receive
  rw [if_pos hgood]
  refine (if_pos hread).trans ?_
  show act (followFrame s.hlc.number f).seq ((s.withReports []).withHlc (followFrame s.hlc.number f)) = _
  rw [hstamp]
  rfl

section
variable {s : State} {h : Head} (hsender : h.sender ≠ s.cfg.stationId) (hdispatch : dispatchesIn s.sp.phase = true)
  (htick : h.tick < 60480000)
include hsender hdispatch htick

theorem exec_move_acts (kind item num target : Nat) {t : State}
    (hacts : s.hearing.hearMove h.sender kind item num target = t) (hreports : t.reports = []) :
    exec (.move h kind item num target) s = .next t :=
  run_of_eq (f := fun u => u.receive h (.move kind item num target) fun _ v => v.hearMove h.sender kind item num target)
    ((State.receive_acts rfl hsender hdispatch htick rfl).trans hacts) hreports

theorem exec_position_acts (p : PosReport) {t : State} (hacts : s.hearing.hearPosition h.sender p = t)
    (hreports : t.reports = []) : exec (.position h p) s = .next t :=
  run_of_eq (f := fun u => u.receive h (.position p) fun _ v => v.hearPosition h.sender p)
    ((State.receive_acts rfl hsender hdispatch htick rfl).trans hacts) hreports

end

/-! ## The tests at reception (R44) -/

/-- The request is its requester's own for the same item (R45). -/
@[reducible] def Request.Renews (r x : Request) : Prop := x.item = r.item ∧ x.station = r.station ∧ x.booking = r.booking

/-- Another requester's for the same item (R44). -/
def Request.Rival (r x : Request) : Prop := x.item = r.item ∧ ¬ (x.station = r.station ∧ x.booking = r.booking)

theorem Request.from_iff (r x : Request) :
    x.from r.station r.booking = true ↔ x.station = r.station ∧ x.booking = r.booking := by
  simp [Request.from]

theorem Request.renews_iff (r x : Request) : (x.item == r.item && x.from r.station r.booking) = true ↔ r.Renews x := by
  rw [Bool.and_eq_true, beq_iff_eq, Request.from_iff]

theorem Request.rival_iff (r x : Request) : (x.item == r.item && !x.from r.station r.booking) = true ↔ r.Rival x := by
  rw [Bool.and_eq_true, beq_iff_eq, Bool.not_eq_true', ← Bool.not_eq_true, Request.from_iff]
  rfl

theorem State.inMotion_item {s : State} {k : ItemKind} {item : Nat} {m : Request} (h : s.inMotion k item = some m) :
    m.item = item := by
  unfold State.inMotion at h
  exact beq_iff_eq.1 (Option.filter_eq_some_iff.1 h).2

/-- Test 5 of R44: a request of another for the item, queued or in motion. -/
def State.Duplicate (s : State) (k : ItemKind) (r : Request) : Prop :=
  (∃ x ∈ s.queueOf k, r.Rival x) ∨ ∃ x, s.inMotion k r.item = some x ∧ r.Rival x

/-- A request of this requester for the item is queued (R45). -/
def State.Queued (s : State) (k : ItemKind) (r : Request) : Prop := ∃ x ∈ s.queueOf k, r.Renews x

theorem State.queued_iff (s : State) (k : ItemKind) (r : Request) :
    ((s.queueOf k).any fun x => x.item == r.item && x.from r.station r.booking) = true ↔ s.Queued k r := by
  simp only [List.any_eq_true, Request.renews_iff]
  rfl

theorem State.duplicate_iff (s : State) (k : ItemKind) (r : Request) :
    (((s.queueOf k).any fun x => x.item == r.item && !x.from r.station r.booking)
      || (match s.inMotion k r.item with
        | some m => !m.from r.station r.booking
        | none => false)) = true ↔ s.Duplicate k r := by
  rw [Bool.or_eq_true]
  refine or_congr ?_ ?_
  · simp only [List.any_eq_true, Request.rival_iff]
  · cases hm : s.inMotion k r.item with
    | none => simp
    | some m =>
      have hitem := State.inMotion_item hm
      simp only [Option.some.injEq, exists_eq_left', ← Request.rival_iff, hitem, beq_self_eq_true, Bool.true_and]

theorem State.targetInRange_iff (s : State) (k : ItemKind) (item target : Nat) :
    s.targetInRange k item target = true ↔ match k with
      | .element => ∃ e, s.element item = some e ∧ target < e.count
      | .antenna => ∃ a w, s.antenna item = some a ∧ a.slew = some w ∧ w.lo ≤ target ∧ target ≤ w.hi := by
  cases k with
  | element =>
    unfold State.targetInRange
    cases s.element item with
    | none => simp
    | some e => simp
  | antenna =>
    unfold State.targetInRange
    cases s.antenna item with
    | none => simp
    | some a =>
      cases hw : a.slew with
      | none => simp [hw]
      | some w => simp [hw]

/-- A peer's booking as test 3 of R44 asks for it. -/
theorem State.held_peer {s : State} {k : ItemKind} {r : Request} (h : r.station ≠ s.cfg.stationId) :
    s.Held k r ↔ ∃ x, s.peerRec r.station r.booking = some x ∧ x.held = true
      ∧ containsTick x.desc.start x.desc.stop s.now = true
      ∧ (match k with
        | .element => (r.item, r.target) ∈ x.desc.steps
        | .antenna => x.desc.antenna = some r.item ∧ x.desc.azimuth = some r.target)
      ∧ (∀ b ∈ s.cm.own, s.Rivals k r.item b.desc → x.standing.ahead b.standing = true)
      ∧ ∀ y ∈ s.cm.map, y.isKey r.station r.booking = false → y.held = true → s.Rivals k r.item y.desc →
        x.standing.ahead y.standing = true := by
  rw [← s.requestHeld_iff k r, s.requestHeld_peer k h]
  cases k with
  | element => simp [State.Stands, asksAt, h]
  | antenna => simp [State.Stands, asksAt, h]

theorem State.activeElsewhere_peer {s : State} {k : ItemKind} {r : Request} (h : r.station ≠ s.cfg.stationId) :
    s.ActiveElsewhere k r ↔ (∃ b ∈ s.cm.own, b.state = .active ∧ b.desc.includes k r.item = true)
      ∨ ∃ y ∈ s.cm.map, y.mark = .active ∧ y.desc.includes k r.item = true ∧ y.isKey r.station r.booking = false := by
  simp [State.ActiveElsewhere, h]

section
variable {s : State} {k : ItemKind} {r : Request}

theorem State.requestRefusal_range (h : ¬ s.targetInRange k r.item r.target = true) : s.requestRefusal k r = some 1 := by
  unfold State.requestRefusal
  rw [if_pos (by simpa using h)]

variable (hrange : s.targetInRange k r.item r.target = true)
include hrange

theorem State.requestRefusal_turn {c : Nat} (h : s.turnRefusal k r = some c) : s.requestRefusal k r = some c := by
  unfold State.requestRefusal
  rw [if_neg (by simp [hrange]), h]

variable (hturn : s.turnRefusal k r = none)
include hturn

theorem State.requestRefusal_duplicate (h : s.Duplicate k r) : s.requestRefusal k r = some 5 := by
  unfold State.requestRefusal
  rw [if_neg (by simp [hrange]), hturn]
  exact if_pos ((s.duplicate_iff k r).2 h)

variable (hfirst : ¬ s.Duplicate k r)
include hfirst

theorem State.requestRefusal_room : s.requestRefusal k r =
    if s.handling k r = .append ∧ queueCap k ≤ (s.queueOf k).length then some 6 else none := by
  unfold State.requestRefusal
  rw [if_neg (by simp [hrange]), hturn]
  exact if_neg fun h => hfirst ((s.duplicate_iff k r).1 h)

theorem State.requestRefusal_full (happend : s.handling k r = .append) (h : queueCap k ≤ (s.queueOf k).length) :
    s.requestRefusal k r = some 6 :=
  (State.requestRefusal_room hrange hturn hfirst).trans (if_pos ⟨happend, h⟩)

theorem State.requestRefusal_none (h : s.handling k r = .append → (s.queueOf k).length < queueCap k) :
    s.requestRefusal k r = none :=
  (State.requestRefusal_room hrange hturn hfirst).trans (if_neg fun h' => absurd h'.2 (Nat.not_le.2 (h h'.1)))

end

/-! ## The rows of R45 -/

section
variable {s : State} {k : ItemKind} {r : Request}

theorem State.handling_queued (h : s.Queued k r) : s.handling k r =
    if s.sensed k r.item = some r.target ∧ s.inMotion k r.item = none then .answerQueued else .retarget := by
  unfold State.handling
  rw [if_pos ((s.queued_iff k r).2 h)]
  refine if_congr ?_ rfl rfl
  rw [Bool.and_eq_true, beq_iff_eq, Option.isNone_iff_eq_none]

variable (hnew : ¬ s.Queued k r) (hfirst : ¬ s.Duplicate k r)
include hnew hfirst

/-- With none of its requester and none of another queued, the item has no request queued at all. -/
theorem State.noneQueued : ((s.queueOf k).any fun x => x.item == r.item) = false := by
  rw [List.any_eq_false]
  intro x hx hitem
  by_cases hfrom : x.station = r.station ∧ x.booking = r.booking
  · exact hnew ⟨x, hx, beq_iff_eq.1 hitem, hfrom⟩
  · exact hfirst (.inl ⟨x, hx, beq_iff_eq.1 hitem, hfrom⟩)

theorem State.handling_resting (hrest : s.inMotion k r.item = none) : s.handling k r =
    if s.sensed k r.item = some r.target then .answer else .append := by
  unfold State.handling
  rw [if_neg (fun h => hnew ((s.queued_iff k r).1 h)), hrest, State.noneQueued hnew hfirst]
  simp

theorem State.handling_moving {m : Request} (hmove : s.inMotion k r.item = some m) : s.handling k r =
    if m.target = r.target then .none else .append := by
  have hfrom : m.from r.station r.booking = true := by
    by_contra h
    exact hfirst (.inr ⟨m, hmove, State.inMotion_item hmove, fun h' => h ((r.from_iff m).2 h')⟩)
  unfold State.handling
  rw [if_neg (fun h => hnew ((s.queued_iff k r).1 h)), hmove]
  simp [hfrom]

end

end Sys2Proof.Machine
end

section
/-! SUPPORT. What a MOVE from a peer for a home item comes to, refused or by its row of R45. -/

namespace Sys2Proof.Machine

open Sys2Proof

/-- The request a MOVE carries. -/
def moveRequest (h : Head) (item num target : Nat) : Request :=
  { item := item, target := target, station := h.sender, booking := num }

theorem State.hearMove_request (s : State) (h : Head) (k : ItemKind) (item num target : Nat) :
    s.hearMove h.sender (kindNat k) item num target = s.request k (moveRequest h item num target) := by
  cases k <;> rfl

/-- A MOVE of a kind that names no item, or for an item homed elsewhere, is not acted on. -/
theorem State.hearMove_none {s : State} {sender kind item num target : Nat}
    (h : 1 < kind ∨ (kind = 0 ∧ s.isHome .element item = false) ∨ (kind = 1 ∧ s.isHome .antenna item = false)) :
    s.hearMove sender kind item num target = s := by
  match kind, h with
  | 0, h =>
    have hhome : s.isHome .element item = false := by simpa using h
    exact if_neg (by simp [hhome])
  | 1, h =>
    have hhome : s.isHome .antenna item = false := by simpa using h
    exact if_neg (by simp [hhome])
  | n + 2, _ => rfl

theorem State.hearMove_accepts {s : State} {h : Head} {k : ItemKind} {item num target : Nat} (hhome : s.isHome k item = true)
    (hpass : s.requestRefusal k (moveRequest h item num target) = none) :
    s.hearing.hearMove h.sender (kindNat k) item num target = s.hearing.accept k (moveRequest h item num target) := by
  rw [State.hearMove_request]
  unfold State.request
  rw [if_pos (show s.hearing.isHome k (moveRequest h item num target).item = true from hhome),
    show s.hearing.requestRefusal k (moveRequest h item num target) = none from hpass]

section
variable {s : State} {h : Head} {k : ItemKind} {item num target : Nat} (hsender : h.sender ≠ s.cfg.stationId)
  (hdispatch : dispatchesIn s.sp.phase = true) (htick : h.tick < 60480000) (hhome : s.isHome k item = true)
include hsender hdispatch htick hhome

theorem exec_move_refused {c : Nat} (hrefusal : s.requestRefusal k (moveRequest h item num target) = some c)
    (hroom : s.hlc.queue.length + s.hlc.slots.length < 16) :
    exec (.move h (kindNat k) item num target) s
      = .next (s.hearing.queued [(moveRequest h item num target).refusal k c]) := by
  refine exec_move_acts hsender hdispatch htick _ _ _ _ ?_ rfl
  rw [State.hearMove_request]
  unfold State.request
  rw [if_pos (show s.hearing.isHome k (moveRequest h item num target).item = true from hhome),
    show s.hearing.requestRefusal k (moveRequest h item num target) = some c from hrefusal]
  exact State.refuse_peer (s := s.hearing) hsender hdispatch hroom k c

theorem exec_move_accepted (hpass : s.requestRefusal k (moveRequest h item num target) = none) {t : State}
    (haccept : s.hearing.accept k (moveRequest h item num target) = t) (hreports : t.reports = []) :
    exec (.move h (kindNat k) item num target) s = .next t :=
  exec_move_acts hsender hdispatch htick _ _ _ _ ((State.hearMove_accepts hhome hpass).trans haccept) hreports

end

/-! ## The effect of each row (R45) -/

theorem State.withQueue_queueOf (s : State) (k : ItemKind) : s.withQueue k (s.queueOf k) = s := by cases k <;> rfl

section
variable {s : State} {k : ItemKind} {r : Request}

theorem State.accept_retarget (h : s.handling k r = .retarget) : s.accept k r = s.withQueue k ((s.queueOf k).map fun x =>
    if x.item = r.item ∧ x.station = r.station ∧ x.booking = r.booking then { x with target := r.target } else x) := by
  unfold State.accept
  rw [h]
  refine congrArg (s.withQueue k) (List.map_congr_left fun x _ => ?_)
  exact if_congr (r.renews_iff x) rfl rfl

theorem State.accept_answerQueued (h : s.handling k r = .answerQueued) : s.accept k r =
    (s.withQueue k ((s.queueOf k).filter fun x =>
      !decide (x.item = r.item ∧ x.station = r.station ∧ x.booking = r.booking))).answerAt k r.item r.target := by
  unfold State.accept
  rw [h]
  refine congrArg (fun q => (s.withQueue k q).answerAt k r.item r.target) (List.filter_congr fun x _ => congrArg not ?_)
  exact Bool.eq_iff_iff.2 ((r.renews_iff x).trans (decide_eq_true_iff).symm)

theorem State.accept_answer (h : s.handling k r = .answer) :
    s.accept k r = (s.withQueue k (s.queueOf k)).answerAt k r.item r.target := by
  unfold State.accept
  rw [h, State.withQueue_queueOf]

theorem State.accept_none (h : s.handling k r = .none) : s.accept k r = s := by
  unfold State.accept
  rw [h]

theorem State.accept_append (h : s.handling k r = .append) : s.accept k r = s.withQueue k (s.queueOf k ++ [r]) := by
  unfold State.accept
  rw [h]

end

/-- What a SET answered at target shows of its item (R42, R45). -/
def State.AnsweredSet (s t : State) (k : ItemKind) (item target : Nat) : Prop :=
  match k with
  | .element => (t.elv item).state = .set ∧ (t.elv item).pos = some target
    ∧ (t.elv item).history = (s.elv item).history
    ∧ (t.elv item).motion = (if (s.elv item).owed = true ∧ (s.elv item).state = .set then (s.elv item).motion else 0)
  | .antenna => (t.anv item).state = .set ∧ (t.anv item).az = some target

/-- An answer at target leaves the drive but for the item's view entry. -/
theorem State.answerAt_shows (s : State) (k : ItemKind) (q : List Request) (item target : Nat) :
    let t := (s.withQueue k q).answerAt k item target
    t.ed.exercise = s.ed.exercise ∧ ∀ u, u.plant = t.plant →
      u.queueOf k = q ∧ u.inMotion k item = s.inMotion k item ∧ s.AnsweredSet u k item target := by
  cases k with
  | element =>
    have hshow := (s.withQueue .element q).showsElement_answerAt item target
    refine ⟨(congrArg Drive.exercise hshow.ed :), fun u hu => ?_⟩
    have hshow := hshow.of_plant hu
    have hmotion : u.ed.motion = s.ed.motion := (congrArg Drive.motion hshow.ed :)
    refine ⟨(congrArg Drive.driveQ hshow.ed :), ?_, hshow.state, hshow.pos, hshow.history, hshow.motion⟩
    simp only [State.inMotion, hmotion]
  | antenna =>
    have hshow := (s.withQueue .antenna q).showsAntenna_answerAt item target
    refine ⟨(congrArg Drive.exercise hshow.ed :), fun u hu => ?_⟩
    have hshow := hshow.of_plant hu
    have hslew : u.ed.slew = s.ed.slew := (congrArg Drive.slew hshow.ed :)
    refine ⟨(congrArg Drive.slewQ hshow.ed :), ?_, hshow.state, hshow.az⟩
    simp only [State.inMotion, hslew]

section
variable {s : State} {h : Head} {k : ItemKind} {item num target : Nat} (hsender : h.sender ≠ s.cfg.stationId)
  (hdispatch : dispatchesIn s.sp.phase = true) (htick : h.tick < 60480000) (hhome : s.isHome k item = true)
  (hpass : s.requestRefusal k (moveRequest h item num target) = none)
include hsender hdispatch htick hhome hpass

/-- An accepted MOVE that is answered at target (R45). -/
theorem exec_move_answered (hphase : s.sp.phase = .running) (hex : s.ed.exercise = none) {q : List Request}
    (haccept : s.hearing.accept k (moveRequest h item num target) = (s.hearing.withQueue k q).answerAt k item target)
    (hrest : s.inMotion k item = none) :
    ∃ t, exec (.move h (kindNat k) item num target) s = .next t ∧ t.queueOf k = q ∧ s.inMotion k item = none
      ∧ t.inMotion k item = none ∧ s.AnsweredSet t k item target := by
  have heff := (State.receive_acts (s := s) (f := .move (kindNat k) item num target)
    (act := fun _ v => v.hearMove h.sender (kindNat k) item num target) rfl hsender hdispatch htick rfl).trans
      ((State.hearMove_accepts hhome hpass).trans haccept)
  obtain ⟨hexercise, hshows⟩ := s.hearing.answerAt_shows k q item target
  obtain ⟨t, hrun, hplant, -⟩ := run_plant_running (s := s)
    (f := fun u => u.receive h (.move (kindNat k) item num target) fun _ v => v.hearMove h.sender (kindNat k) item num target)
    hphase (by simp only [heff]; simp [State.hearing]) (by simp only [heff]; exact hexercise.trans hex)
  simp only [heff] at hplant
  obtain ⟨hqueue, hmotion, hset⟩ := hshows t hplant
  exact ⟨t, hrun, hqueue, hrest, hmotion.trans hrest, hset⟩

end

end Sys2Proof.Machine
end

section
/-! SUPPORT. POSITIONs from an item's home station (R38), and a REFUSED that is a route fault of the only plan (R146). -/

namespace Sys2Proof.Machine

open Sys2Proof

/-! ## Reports of state (R38) -/

/-- The view an element takes from a POSITION of its state (R38). -/
def elementReported (p : PosReport) (v : ElView) : ElView :=
  { v with
    state := if p.report = 0 then .moving else if p.report = 1 then .set else if p.report = 2 then .fault else .out
    pos := if p.report = 1 ∨ p.report = 2 then p.value else v.pos
    history := if p.report = 1 then appendMotion v.history p.motion else v.history }

/-- The view an antenna takes from a POSITION of its state (R38). -/
def antennaReported (p : PosReport) (v : AnView) : AnView :=
  { v with
    state := if p.report = 0 then .moving else if p.report = 1 then .set else if p.report = 2 then .fault else .out
    az := if p.report = 1 ∨ p.report = 2 then p.value else v.az }

theorem positionReadable_iff (p : PosReport) :
    positionReadable p = true ↔ p.kind ≤ 1 ∧ p.report ≤ 4 ∧ p.reason ≤ 6 ∧ (p.report = 4 → 1 ≤ p.reason) := by
  simp [positionReadable, and_assoc, imp_iff_not_or]

/-- A POSITION whose code names no value, or from another than the item's home station, is not acted on (R38, R200). -/
theorem State.hearPosition_none {s : State} {sender : Nat} {p : PosReport}
    (h : 1 < p.kind ∨ 4 < p.report ∨ 6 < p.reason ∨ (p.report = 4 ∧ p.reason = 0)
      ∨ (p.kind = 0 ∧ s.homeOf .element p.item ≠ some sender)
      ∨ (p.kind = 1 ∧ s.homeOf .antenna p.item ≠ some sender)) :
    s.hearPosition sender p = s := by
  unfold State.hearPosition
  by_cases hread : positionReadable p = true
  · rw [if_neg (by simp [hread])]
    obtain ⟨hkind, hreport, hreason, hrefused⟩ := (positionReadable_iff p).1 hread
    have hforeign : (p.kind = 0 ∧ s.homeOf .element p.item ≠ some sender)
        ∨ (p.kind = 1 ∧ s.homeOf .antenna p.item ≠ some sender) := by
      rcases h with h | h | h | ⟨h, h'⟩ | h
      · omega
      · omega
      · omega
      · have := hrefused h
        omega
      · exact h
    rcases hforeign with ⟨hk, hhome⟩ | ⟨hk, hhome⟩
    · rw [if_pos hk, if_neg hhome]
    · rw [if_neg (by omega), if_pos hk, if_neg hhome]
  · rw [if_pos (by simpa using hread)]

theorem State.hearPosition_element {s : State} {sender : Nat} {p : PosReport} (hkind : p.kind = 0)
    (hhome : s.homeOf .element p.item = some sender) (hreport : p.report ≤ 3) (hreason : p.reason ≤ 6) :
    s.hearPosition sender p = s.changeElv p.item (elementReported p (s.elv p.item)) := by
  have hread : positionReadable p = true := (positionReadable_iff p).2 ⟨by omega, by omega, hreason, by omega⟩
  unfold State.hearPosition
  rw [if_neg (by simp [hread]), if_pos hkind, if_pos hhome]
  obtain ⟨kind, item, report, value, motion, station, booking, reason⟩ := p
  match report, hreport with
  | 0, _ => rfl
  | 1, _ => rfl
  | 2, _ => rfl
  | 3, _ => rfl

theorem State.hearPosition_antenna {s : State} {sender : Nat} {p : PosReport} (hkind : p.kind = 1)
    (hhome : s.homeOf .antenna p.item = some sender) (hreport : p.report ≤ 3) (hreason : p.reason ≤ 6) :
    s.hearPosition sender p = s.changeAnv p.item (antennaReported p (s.anv p.item)) := by
  have hread : positionReadable p = true := (positionReadable_iff p).2 ⟨by omega, by omega, hreason, by omega⟩
  unfold State.hearPosition
  rw [if_neg (by simp [hread]), if_neg (by omega), if_pos hkind, if_pos hhome]
  obtain ⟨kind, item, report, value, motion, station, booking, reason⟩ := p
  match report, hreport with
  | 0, _ => rfl
  | 1, _ => rfl
  | 2, _ => rfl
  | 3, _ => rfl

/-- A REFUSED is handed to the planner of the station it answers (R38). -/
theorem State.hearPosition_refused {s : State} {sender : Nat} {p : PosReport} {k : ItemKind} (hkind : p.kind = kindNat k)
    (hhome : s.homeOf k p.item = some sender) (hreport : p.report = 4) (hlow : 1 ≤ p.reason) (hreason : p.reason ≤ 6) :
    s.hearPosition sender p = if p.reqStation = s.cfg.stationId then s.report [.peerRefused p.reqBooking k p.item p.reason]
      else s := by
  have hread : positionReadable p = true :=
    (positionReadable_iff p).2 ⟨by cases k <;> simp [hkind, kindNat], by omega, hreason, fun _ => hlow⟩
  unfold State.hearPosition
  rw [if_neg (by simp [hread])]
  cases k with
  | element =>
    rw [if_pos (show p.kind = 0 from hkind), if_pos hhome, hreport]
    rfl
  | antenna =>
    rw [if_neg (by rw [hkind]; decide), if_pos (show p.kind = 1 from hkind), if_pos hhome, hreport]
    rfl

section
variable {s : State} {h : Head} {p : PosReport} (hphase : s.sp.phase = .running) (hsender : h.sender ≠ s.cfg.stationId)
  (htick : h.tick < 60480000)
include hphase hsender htick

/-- A POSITION that sets the view: what it hands over leaves the plant as the view change left it. -/
theorem exec_position_views {u : State} (hacts : s.hearing.hearPosition h.sender p = u) (hkept : u.ed.exercise = none) :
    ∃ t, exec (.position h p) s = .next t ∧ t.plant = u.plant := by
  have heff := (State.receive_acts (s := s) (f := .position p) (act := fun _ v => v.hearPosition h.sender p) rfl hsender
    (by rw [hphase]; rfl) htick rfl).trans hacts
  obtain ⟨t, hrun, hplant, -⟩ := run_plant_running (s := s)
    (f := fun u => u.receive h (.position p) fun _ v => v.hearPosition h.sender p)
    hphase (by simp) (by simp only [heff]; exact hkept)
  simp only [heff] at hplant
  exact ⟨t, hrun, hplant⟩

theorem exec_position_element (hex : s.ed.exercise = none) (hkind : p.kind = 0)
    (hhome : s.homeOf .element p.item = some h.sender) (hreport : p.report ≤ 3) (hreason : p.reason ≤ 6) :
    ∃ t, exec (.position h p) s = .next t ∧ s.ShowsElement t p.item (elementReported p (s.elv p.item)) := by
  have hshow := (s.hearing.showsElement_putElv p.item (elementReported p (s.hearing.elv p.item))).of_plant
    (s.hearing.changeElv_plant p.item _)
  obtain ⟨t, hexec, hplant⟩ := exec_position_views hphase hsender htick
    (State.hearPosition_element (s := s.hearing) hkind hhome hreport hreason) (by rw [hshow.ed]; exact hex)
  have hshow := hshow.of_plant hplant
  exact ⟨t, hexec, hshow.ed, hshow.pins, hshow.entry, hshow.others⟩

theorem exec_position_antenna (hex : s.ed.exercise = none) (hkind : p.kind = 1)
    (hhome : s.homeOf .antenna p.item = some h.sender) (hreport : p.report ≤ 3) (hreason : p.reason ≤ 6) :
    ∃ t, exec (.position h p) s = .next t ∧ s.ShowsAntenna t p.item (antennaReported p (s.anv p.item)) := by
  have hshow := (s.hearing.showsAntenna_putAnv p.item (antennaReported p (s.hearing.anv p.item))).of_plant
    (s.hearing.changeAnv_plant p.item _)
  obtain ⟨t, hexec, hplant⟩ := exec_position_views hphase hsender htick
    (State.hearPosition_antenna (s := s.hearing) hkind hhome hreport hreason) (by rw [hshow.ed]; exact hex)
  have hshow := hshow.of_plant hplant
  exact ⟨t, hexec, hshow.ed, hshow.pins, hshow.entry, hshow.others⟩

end

theorem State.ShowsElement.homeAbsent {s t : State} {id : Nat} {v : ElView} (h : s.ShowsElement t id v) :
    (t.elv id).homeAbsent = v.homeAbsent := by
  obtain ⟨owed, e⟩ := h.entry
  rw [e]

theorem State.ShowsAntenna.homeAbsent {s t : State} {id : Nat} {v : AnView} (h : s.ShowsAntenna t id v) :
    (t.anv id).homeAbsent = v.homeAbsent := by
  obtain ⟨owed, e⟩ := h.entry
  rw [e]

/-! ## A route fault of the only plan (R146) -/

/-- A plan that is to choose again and leaves its route out (R146). -/
def Plan.rerouted (q : Plan) : Plan :=
  { q with state := .routing, switchedAt := none, excluded := q.excluded ++ q.route.toList }

/-- The same when its booking has been given up. -/
def Plan.faulted (q : Plan) : Plan := { q.rerouted with booking := none }

theorem State.routeFault_eq (s : State) (q : Plan) : s.routeFault q =
    (((s.putPlan q.rerouted).withCp { (s.putPlan q.rerouted).cp with owedMoves := [] }).dropBooking q).report
      [.contCheck, .routeChoice q.id, .leaveTripped] := by
  unfold State.routeFault Plan.rerouted
  cases q.route with
  | none => rfl
  | some r => rfl

/-- A committed booking, the only one, is given up with RF off (R68). -/
theorem State.releaseBooking_off {s : State} {b : OwnBooking} {id : Nat} (hown : s.cm.own = [b])
    (hmoving : b.state = .moving) (hreq : b.req = .plan id) (hidle : s.ts.state = .idle) (hrf : s.pins.rfs = false)
    (hphase : s.sp.phase = .running) (hroom : s.hlc.queue.length + s.hlc.slots.length < 16) :
    s.releaseBooking b.desc.num = ((s.withCm { s.cm with own := [] }).queued [.release b.desc.num]).report
      [.permitTest, .restartTest, .stopTest, .told (.plan id) b.desc.num .released, .permitTest, .restartTest] := by
  have hoff : s.rfHeld = false := by simp [State.rfHeld, hidle, hrf]
  obtain ⟨u, hu⟩ : ∃ u, u = (s.withCm { s.cm with own := [b.ended] }).report [.permitTest, .restartTest] := ⟨_, rfl⟩
  have hnone : u.cm.own.filter (fun x => x.desc.num != b.ended.desc.num) = [] := by
    rw [hu]
    show [b.ended].filter _ = []
    simp
  rw [State.releaseBooking_committed s hown (by rw [hmoving]; rfl) hreq, ← hu,
    State.releaseTest_alone u (by rw [hu]; rfl) (by rw [hu]; exact hoff), State.endOwn,
    State.removeOwn_sent u (fun h => nomatch (show BkState.ending = .tentative from h.1)) (by rw [hu]; exact hphase)
      (by rw [hu]; exact hroom), hnone, hu]
  show (((((s.withCm { s.cm with own := [] }).queued [.release b.desc.num]).report [.permitTest, .restartTest]).report
    [.stopTest]).report [.told b.req b.desc.num .released, .permitTest, .restartTest]) = _
  rw [hreq, State.report_report, State.report_report]
  rfl

/-- The route fault gives up the booking, and the plan is to choose again. -/
theorem State.routeFault_alone {s : State} {q : Plan} {b : OwnBooking} (hplans : s.cp.plans = [q])
    (hbooking : q.booking = some b.desc.num) (hown : s.cm.own = [b]) (hmoving : b.state = .moving) (hreq : b.req = .plan q.id)
    (hidle : s.ts.state = .idle) (hrf : s.pins.rfs = false) (hphase : s.sp.phase = .running)
    (hroom : s.hlc.queue.length + s.hlc.slots.length < 16) :
    s.routeFault q = (((s.withCm { s.cm with own := [] }).queued [.release b.desc.num]).withCp
      { s.cp with plans := [q.faulted], owedMoves := [] }).report
        [.permitTest, .restartTest, .stopTest, .told (.plan q.id) b.desc.num .released, .permitTest, .restartTest, .contCheck,
          .routeChoice q.id, .leaveTripped] := by
  obtain ⟨u, hu⟩ : ∃ u, u = s.withCp { s.cp with plans := [q.faulted], owedMoves := [] } := ⟨_, rfl⟩
  have hdropped : ((s.putPlan q.rerouted).withCp { (s.putPlan q.rerouted).cp with owedMoves := [] }).dropBooking q
      = u.releaseBooking b.desc.num := by
    rw [s.putPlan_alone hplans (q := q.rerouted) rfl]
    unfold State.dropBooking
    rw [hbooking, hu]
    refine congrArg (fun l => State.releaseBooking (s.withCp { s.cp with plans := l, owedMoves := [] }) b.desc.num) ?_
    exact congrArg (fun x => [x]) (if_pos rfl)
  have hreleased := State.releaseBooking_off (s := u) (by rw [hu]; exact hown) hmoving hreq (by rw [hu]; exact hidle)
    (by rw [hu]; exact hrf) (by rw [hu]; exact hphase) (by rw [hu]; exact hroom)
  rw [State.routeFault_eq, hdropped, hreleased, State.report_report, hu]
  rfl

/-- The faulted plan, without another route, is BLOCKED (R140, R146). -/
theorem State.chooseFor_noOther {s : State} {q : Plan} (hplans : s.cp.plans = [q.faulted]) (hcont : q.cont = false)
    (hexcluded : q.excluded = []) (hroutes : ∀ r ∈ s.routesTo q.ant, q.route = some r.1) :
    s.chooseFor q.id = s.withCp { s.cp with plans :=
      [{ q with state := .blocked, switchedAt := none, booking := none }] } := by
  have hnone : (s.routesTo q.ant).filter (fun r => !(q.excluded ++ q.route.toList).contains r.1) = [] :=
    List.filter_eq_nil_iff.2 fun r hr => by simp [hroutes r hr]
  have hblocked : { q with state := .blocked, switchedAt := none, booking := none, excluded := [] }
      = { q with state := .blocked, switchedAt := none, booking := none } := by rw [← hexcluded]
  have hchosen : s.chooseRoute q.faulted = s.blockPlan { q.faulted with excluded := [] } := State.chooseRoute_none hnone
  unfold State.chooseFor
  rw [show s.plan q.id = some q.faulted from State.plan_of_singleton hplans]
  dsimp only
  rw [if_pos ⟨.inl rfl, rfl, hcont⟩, hchosen, ← hblocked]
  exact s.putPlan_alone hplans rfl

/-- A plan without a booking hears nothing of one (R142). -/
theorem State.planTold_unbooked {s : State} {p : Plan} (hplans : s.cp.plans = [p]) (hbooking : p.booking = none) (num : Nat)
    (what : Told) : s.planTold p.id num what = s := by
  unfold State.planTold
  rw [State.plan_of_singleton hplans]
  exact if_pos (by simp [hbooking])

theorem State.currentPlan_alone {s : State} {p : Plan} (hplans : s.cp.plans = [p]) (hcurrent : p.state.current = true) :
    s.currentPlan = some p := by
  unfold State.currentPlan
  rw [hplans]
  exact List.find?_cons_of_pos hcurrent

/-- Once its booking is given up the faulted plan chooses again, and stays BLOCKED. -/
theorem drain_routeFault {s : State} {q : Plan} {num : Nat} (hplans : s.cp.plans = [q.faulted]) (hcont : q.cont = false)
    (hexcluded : q.excluded = []) (hroutes : ∀ r ∈ s.routesTo q.ant, q.route = some r.1) (hphase : s.sp.phase = .running)
    (hidle : s.ts.state = .idle) (hreports : s.reports = [.permitTest, .restartTest, .stopTest,
      .told (.plan q.id) num .released, .permitTest, .restartTest, .contCheck, .routeChoice q.id, .leaveTripped]) (n : Nat) (hn : 9 ≤ n) :
    drain n s = (s.withReports []).withCp { s.cp with plans :=
      [{ q with state := .blocked, switchedAt := none, booking := none }] } := by
  have hinert : ∀ r ∈ [Report.permitTest, .restartTest, .stopTest, .told (.plan q.id) num .released, .permitTest,
      .restartTest, .contCheck], ∀ rest, deliver r (s.withReports rest) = s.withReports rest := by
    intro r hr rest
    simp only [List.mem_cons, List.not_mem_nil, or_false] at hr
    rcases hr with rfl | rfl | rfl | rfl | rfl | rfl | rfl
    · simp [deliver, State.permitTest, hidle]
    · simp [deliver, State.restartTest, hidle]
    · exact State.stopTest_other (s := s.withReports rest) (fun h => nomatch h.symm.trans hphase)
    · exact State.planTold_unbooked (s := s.withReports rest) (p := q.faulted) hplans rfl num .released
    · simp [deliver, State.permitTest, hidle]
    · simp [deliver, State.restartTest, hidle]
    · exact State.contCheck_none (s := s.withReports rest) fun p hp => by
        have honly : p ∈ [q.faulted] := by
          rw [← hplans]
          exact hp
        rw [List.mem_singleton.1 honly]
        exact hcont
  obtain ⟨n, rfl⟩ : ∃ k, n = k + 2 + 7 := ⟨n - 9, by omega⟩
  have hchosen := State.chooseFor_noOther (s := s.withReports [.leaveTripped]) hplans hcont hexcluded hroutes
  generalize hblocked : { q with state := .blocked, switchedAt := none, booking := none } = x at hchosen ⊢
  calc drain (n + 2 + 7) s = drain (n + 2) (s.withReports [.routeChoice q.id, .leaveTripped]) :=
        drain_skip _ _ _ _ hreports (by simp) hinert
    _ = drain (n + 1) (deliver (.routeChoice q.id) (s.withReports [.leaveTripped])) := drain_cons _ _ _ _ rfl
    _ = drain (n + 1) ((s.withReports [.leaveTripped]).withCp { s.cp with plans := [x] }) := congrArg _ hchosen
    _ = drain n (deliver .leaveTripped ((s.withReports []).withCp { s.cp with plans := [x] })) := drain_cons _ _ _ _ rfl
    _ = drain n ((s.withReports []).withCp { s.cp with plans := [x] }) := congrArg _ (if_neg (by simp [hidle]))
    _ = _ := drain_rest _ _ rfl

theorem State.planMoveRefused_faults {s : State} {q : Plan} {num item : Nat} {k : ItemKind} (hplans : s.cp.plans = [q])
    (hswitching : q.state = .switching) (hbooking : q.booking = some num) (hincludes : s.planIncludes q k item = true)
    (reason : Nat) : s.planMoveRefused num k item reason = s.routeFault q := by
  unfold State.planMoveRefused
  rw [State.currentPlan_alone hplans (by rw [hswitching]; rfl)]
  exact if_pos ⟨hswitching, hbooking, hincludes⟩

/-- A REFUSED for a request of the only plan, in SWITCHING, without another route (R146). -/
theorem exec_position_faults {s : State} {h : Head} {p : PosReport} {q : Plan} {b : OwnBooking} {k : ItemKind}
    (hphase : s.sp.phase = .running) (hsender : h.sender ≠ s.cfg.stationId) (htick : h.tick < 60480000)
    (hrefused : s.hearing.hearPosition h.sender p = s.hearing.report [.peerRefused p.reqBooking k p.item p.reason])
    (hplans : s.cp.plans = [q]) (hswitching : q.state = .switching) (hbooking : q.booking = some b.desc.num)
    (hnum : p.reqBooking = b.desc.num) (hincludes : s.planIncludes q k p.item = true) (hcont : q.cont = false)
    (hexcluded : q.excluded = []) (hroutes : ∀ r ∈ s.routesTo q.ant, q.route = some r.1) (hown : s.cm.own = [b])
    (hreq : b.req = .plan q.id) (hmoving : b.state = .moving) (hidle : s.ts.state = .idle) (hrf : s.pins.rfs = false)
    (hroom : s.hlc.queue.length + s.hlc.slots.length < 16) :
    exec (.position h p) s = .next (((s.hearing.queued [.release b.desc.num]).withCm { s.cm with own := [] }).withCp
      { s.cp with
        owedMoves := []
        plans := [{ q with state := .blocked, switchedAt := none, booking := none }] }) := by
  have heff := (State.receive_acts (s := s) (f := .position p) (act := fun _ v => v.hearPosition h.sender p) rfl hsender
    (by rw [hphase]; rfl) htick rfl).trans hrefused
  have hfault : deliver (.peerRefused p.reqBooking k p.item p.reason) s.hearing = s.hearing.routeFault q :=
    State.planMoveRefused_faults (s := s.hearing) hplans hswitching (hbooking.trans (congrArg some hnum.symm))
      hincludes p.reason
  refine congrArg Host.Outcome.next ?_
  calc drain reportFuel ((s.withReports []).receive h (.position p) fun _ v => v.hearPosition h.sender p)
      = drain (99999 + 1) (s.hearing.report [.peerRefused p.reqBooking k p.item p.reason]) := congrArg _ heff
    _ = drain 99999 (deliver (.peerRefused p.reqBooking k p.item p.reason) s.hearing) := drain_cons _ _ _ _ rfl
    _ = drain 99999 (s.hearing.routeFault q) := congrArg _ hfault
    _ = _ := by
      rw [State.routeFault_alone (s := s.hearing) hplans hbooking hown hmoving hreq hidle hrf hphase hroom]
      refine (drain_routeFault (q := q) (num := b.desc.num) ?_ hcont hexcluded ?_ ?_ ?_ ?_ 99999 (by decide)).trans ?_
      · rfl
      · exact hroutes
      · exact hphase
      · exact hidle
      · rfl
      · rfl

end Sys2Proof.Machine
end

section
open Sys2Proof Sys2Proof.Machine

/-- Settles O21: a MOVE by the tests of R44 and the rows of R45, a POSITION by the view it gives, and a REFUSED by the route
fault of the only plan. -/
theorem requestsAndReportsOfItems : Obligations.RequestsAndReportsOfItems := by
  constructor
  · intro s h item num target hdispatch hsender htick numbered r
    refine ⟨fun kind hkind => exec_move_acts hsender hdispatch htick _ _ _ _ (State.hearMove_none hkind) rfl,
      fun k hhome => ?_⟩
    intro refused fits asks rivals held active other duplicate cap
    have hrefused : ∀ {c}, s.requestRefusal k r = some c → refused c := fun hc hroom =>
      exec_move_refused hsender hdispatch htick hhome hc hroom
    have hfits : fits ↔ s.targetInRange k r.item r.target = true := (s.targetInRange_iff k item target).symm
    have hheld : held ↔ s.Held k r := (State.held_peer (s := s) (k := k) (r := r) hsender).symm
    have hactive : active ↔ s.ActiveElsewhere k r := (State.activeElsewhere_peer (s := s) (k := k) (r := r) hsender).symm
    have hduplicate : duplicate ↔ s.Duplicate k r := Iff.rfl
    have hcap : cap = queueCap k := by cases k <;> rfl
    rw [hfits, hheld, hactive, hduplicate, hcap]
    clear_value cap
    refine ⟨fun hno => hrefused (State.requestRefusal_range hno),
      fun hrange hout => hrefused (State.requestRefusal_turn hrange (State.turnRefusal_out hout)),
      fun hrange hin => ⟨fun hno => hrefused (State.requestRefusal_turn hrange (State.turnRefusal_notHeld hin hno)),
        fun hyes hbusy => hrefused (State.requestRefusal_turn hrange (State.turnRefusal_active hin hyes hbusy)),
        fun hyes hquiet hdup => hrefused (State.requestRefusal_duplicate hrange (State.turnRefusal_none hin hyes hquiet) hdup),
        fun hyes hquiet hfirst => ?_⟩⟩
    have hturn := State.turnRefusal_none hin hyes hquiet
    intro answers mine queued there appended set
    have hqueued : queued ↔ s.Queued k r := Iff.rfl
    rw [hqueued]
    have happended : s.handling k r = .append → appended := fun happend =>
      ⟨fun hfull => hrefused (State.requestRefusal_full hrange hturn hfirst happend hfull), fun hfree =>
        exec_move_accepted hsender hdispatch htick hhome
          (State.requestRefusal_none hrange hturn hfirst fun _ => hfree) (State.accept_append (s := s.hearing) happend)
          (by cases k <;> rfl)⟩
    have hpass : s.handling k r ≠ .append → s.requestRefusal k r = none := fun hno =>
      State.requestRefusal_none hrange hturn hfirst fun h => absurd h hno
    have hset : ∀ {q}, s.handling k r ≠ .append →
        s.hearing.accept k r = (s.hearing.withQueue k q).answerAt k r.item r.target → s.inMotion k item = none → set q := fun hno haccept hrest hphase hex => by
      obtain ⟨t, hexec, hqueue, hmotion, hmotion', hshown⟩ :=
        exec_move_answered hsender hdispatch htick hhome (hpass hno) hphase hex haccept hrest
      refine ⟨t, hexec, hqueue, hmotion, hmotion', ?_⟩
      cases k <;> exact hshown
    refine ⟨fun hqueued hmoving => ?_, fun hqueued hthere hrest => ?_,
      fun hnew hrest => ⟨fun hthere => ?_, fun hoff => ?_⟩, fun m hnew hmove => ⟨fun hsame => ?_, fun hother => ?_⟩⟩
    · have hrow : s.handling k r = .retarget := (State.handling_queued hqueued).trans (if_neg fun h => hmoving h.1 h.2)
      exact exec_move_accepted hsender hdispatch htick hhome (hpass (by simp [hrow]))
        (State.accept_retarget (s := s.hearing) hrow) (by cases k <;> rfl)
    · have hrow : s.handling k r = .answerQueued := (State.handling_queued hqueued).trans (if_pos ⟨hthere, hrest⟩)
      exact hset (by simp [hrow]) (State.accept_answerQueued (s := s.hearing) hrow) hrest
    · have hrow : s.handling k r = .answer := (State.handling_resting hnew hfirst hrest).trans (if_pos hthere)
      exact hset (by simp [hrow]) (State.accept_answer (s := s.hearing) hrow) hrest
    · exact happended ((State.handling_resting hnew hfirst hrest).trans (if_neg hoff))
    · have hrow : s.handling k r = .none := (State.handling_moving hnew hfirst hmove).trans (if_pos hsame)
      exact exec_move_accepted hsender hdispatch htick hhome (hpass (by simp [hrow]))
        (State.accept_none (s := s.hearing) hrow) rfl
    · exact happended ((State.handling_moving hnew hfirst hmove).trans (if_neg hother))
  · intro s h p hphase hsender hex htick v
    refine ⟨fun hnone => exec_position_acts hsender (by rw [hphase]; rfl) htick p (State.hearPosition_none hnone) rfl,
      fun hkind hhome hreport hreason => ?_, fun hkind hhome hreport hreason => ?_,
      fun k hkind hhome hreport hlow hreason => ?_⟩
    · obtain ⟨t, hexec, hshow⟩ := exec_position_element hphase hsender htick (hex (by omega)) hkind hhome hreport hreason
      exact ⟨t, hexec, hshow.state, hshow.pos, hshow.history, hshow.homeAbsent, fun i hi => by simp [hshow.others i hi]⟩
    · obtain ⟨t, hexec, hshow⟩ := exec_position_antenna hphase hsender htick (hex (by omega)) hkind hhome hreport hreason
      exact ⟨t, hexec, hshow.state, hshow.az, hshow.homeAbsent, fun i hi => by simp [hshow.others i hi]⟩
    · intro l
      have hrefused := State.hearPosition_refused (s := s.hearing) hkind hhome hreport hlow hreason
      refine ⟨fun hother => exec_position_acts hsender (by rw [hphase]; rfl) htick p
        (hrefused.trans (if_neg hother)) rfl, ?_⟩
      intro q b hmine hnum hplans hswitching hbooking hincludes hcont hexcluded hroutes hown hreq hmoving hidle hrf hroom
      exact exec_position_faults hphase hsender htick (hrefused.trans (if_pos hmine)) hplans hswitching hbooking hnum hincludes
        hcont hexcluded hroutes hown hreq hmoving hidle hrf hroom
end
